-- ==== Sys2Proof/Word.lean ====
section
/-! DEFINITION. The word types of the Rolowick (R5, R51) and the one sparse map that every register file and every
memory of the model is held in: a list of (key, value) pairs, keys strictly rising. -/
namespace Sys2Proof

/-- One byte of any space. -/
abbrev Byte := BitVec 8
/-- A scalar register, a slot word, an A-space word (R5). -/
abbrev Word := BitVec 32
/-- An address register or a 64-bit system register (R5). -/
abbrev DWord := BitVec 64
/-- A vector register: 64 lanes of 32 bits (R5, R115). -/
abbrev VReg := BitVec 2048
/-- A W-space row: 512 bytes (R254). -/
abbrev Row := BitVec 4096

/-- A sparse map from numbers. In canonical form its keys rise strictly (`Map.wf`). -/
abbrev Map (α : Type) := List (Nat × α)

/-- The value at key `k`, or `d` where the map lists none. -/
def Map.get {α : Type} (m : Map α) (d : α) (k : Nat) : α :=
  match m with
  | [] => d
  | (k', v) :: rest => if k' = k then v else Map.get rest d k

/-- The entry at key `k`, if there is one. -/
def Map.find {α : Type} (m : Map α) (k : Nat) : Option α :=
  match m with
  | [] => none
  | (k', v) :: rest => if k' = k then some v else Map.find rest k

/-- The map without the entries at key `k`. -/
def Map.erase {α : Type} (m : Map α) (k : Nat) : Map α :=
  match m with
  | [] => []
  | (k', v) :: rest => if k' = k then Map.erase rest k else (k', v) :: Map.erase rest k

/-- Insert an entry before the first greater key. -/
def Map.insert {α : Type} (m : Map α) (k : Nat) (v : α) : Map α :=
  match m with
  | [] => [(k, v)]
  | (k', v') :: rest => if k < k' then (k, v) :: (k', v') :: rest else (k', v') :: Map.insert rest k v

/-- Write `v` at key `k`, listing the entry whatever `v` is (register files, records). -/
def Map.put {α : Type} (m : Map α) (k : Nat) (v : α) : Map α :=
  Map.insert (Map.erase m k) k v

/-- Write `v` at key `k` of a memory whose unlisted entries read as `d`: writing `d` unlists the entry, so that
equal memories are equal lists. -/
def Map.write {α : Type} [DecidableEq α] (m : Map α) (d : α) (k : Nat) (v : α) : Map α :=
  if v = d then Map.erase m k else Map.insert (Map.erase m k) k v

/-- Drop every entry whose key lies in `lo ≤ k < hi`: the range then reads as its default. -/
def Map.clearRange {α : Type} (m : Map α) (lo hi : Nat) : Map α :=
  match m with
  | [] => []
  | (k, v) :: rest => if lo ≤ k ∧ k < hi then Map.clearRange rest lo hi else (k, v) :: Map.clearRange rest lo hi

/-- Every key of the map is greater than `k`. -/
def Map.above {α : Type} (k : Nat) : Map α → Bool
  | [] => true
  | (k', _) :: rest => decide (k < k') && Map.above k rest

/-- The canonical form: keys strictly rising. -/
def Map.wf {α : Type} : Map α → Bool
  | [] => true
  | (k, _) :: rest => Map.above k rest && Map.wf rest

/-- The canonical form of a memory: keys strictly rising, and no entry equal to what an unlisted key reads as. -/
def Map.memWf {α : Type} [DecidableEq α] (d : α) : Map α → Bool
  | [] => true
  | (k, v) :: rest => decide (v ≠ d) && Map.above k rest && Map.memWf d rest

end Sys2Proof
end

