-- ==== Sys2Proof/Syntax.lean ====
section
/-! DEFINITION. The instructions and steps of the Rolowick: one constructor for each row of spec/opcode_table.json.
A slot instruction carries its fields as the table names them, each as wide as its encoding; `g` is the guard (R16).
A step of the machine or of its environment (the rows without an encoding) carries what the outside supplies. -/
namespace Sys2Proof

/-- The classes of slot words (R4, R29 to R34): V0 and V1 share one map, and so do C0 and C1. -/
inductive SlotClass where
  | S | V | M | C | A | W
  deriving DecidableEq, Repr

/-- The rows of the opcode table. -/
inductive Instr where
  -- every slot class (R19)
  /-- NOP (R19): Empty slot word in any slot class; performs nothing. -/
  | nop (g : BitVec 4)
  -- S slot (R29)
  /-- ADD (R77): S-slot integer add of sa and sb into sd, wrapping modulo 2^32. -/
  | add (g : BitVec 4) (d a b : BitVec 5)
  /-- SUB (R77): S-slot integer subtract sa minus sb into sd. -/
  | sub (g : BitVec 4) (d a b : BitVec 5)
  /-- MUL (R77): S-slot low 32 bits of the product, latency 3. -/
  | mul (g : BitVec 4) (d a b : BitVec 5)
  /-- MULH (R77): S-slot high 32 bits of the signed 64-bit product. -/
  | mulh (g : BitVec 4) (d a b : BitVec 5)
  /-- MULHZ (R77): S-slot high 32 bits of the unsigned 64-bit product. -/
  | mulhz (g : BitVec 4) (d a b : BitVec 5)
  /-- DIV (R78): S-slot signed division truncated toward zero, latency 18, never trapping. -/
  | div (g : BitVec 4) (d a b : BitVec 5)
  /-- DIVZ (R78): S-slot unsigned division, latency 18. -/
  | divz (g : BitVec 4) (d a b : BitVec 5)
  /-- REM (R78): S-slot signed remainder with the sign of sa. -/
  | rem (g : BitVec 4) (d a b : BitVec 5)
  /-- REMZ (R78): S-slot unsigned remainder. -/
  | remz (g : BitVec 4) (d a b : BitVec 5)
  /-- AND (R77): S-slot bitwise AND. -/
  | and (g : BitVec 4) (d a b : BitVec 5)
  /-- OR (R77): S-slot bitwise OR. -/
  | or (g : BitVec 4) (d a b : BitVec 5)
  /-- XOR (R77): S-slot bitwise XOR. -/
  | xor (g : BitVec 4) (d a b : BitVec 5)
  /-- ANDN (R77): S-slot sa AND NOT sb. -/
  | andn (g : BitVec 4) (d a b : BitVec 5)
  /-- SHL (R77): S-slot left shift by sb[4:0]. -/
  | shl (g : BitVec 4) (d a b : BitVec 5)
  /-- SHR (R77): S-slot logical right shift by sb[4:0]. -/
  | shr (g : BitVec 4) (d a b : BitVec 5)
  /-- SRA (R77): S-slot arithmetic right shift by sb[4:0]. -/
  | sra (g : BitVec 4) (d a b : BitVec 5)
  /-- MIN (R77): S-slot signed minimum. -/
  | min (g : BitVec 4) (d a b : BitVec 5)
  /-- MAX (R77): S-slot signed maximum. -/
  | max (g : BitVec 4) (d a b : BitVec 5)
  /-- MINZ (R77): S-slot unsigned minimum. -/
  | minz (g : BitVec 4) (d a b : BitVec 5)
  /-- MAXZ (R77): S-slot unsigned maximum. -/
  | maxz (g : BitVec 4) (d a b : BitVec 5)
  /-- CLZ (R77): S-slot count of leading zeros of sa. -/
  | clz (g : BitVec 4) (d a : BitVec 5)
  /-- POPC (R77): S-slot count of set bits of sa. -/
  | popc (g : BitVec 4) (d a : BitVec 5)
  /-- ADDI (R79): Add sign-extended 12-bit immediate to sa. -/
  | addi (g : BitVec 4) (d a : BitVec 5) (i : BitVec 12)
  /-- ANDI (R79): AND with zero-extended 12-bit immediate. -/
  | andi (g : BitVec 4) (d a : BitVec 5) (i : BitVec 12)
  /-- ORI (R79): OR with zero-extended 12-bit immediate. -/
  | ori (g : BitVec 4) (d a : BitVec 5) (i : BitVec 12)
  /-- XORI (R79): XOR with zero-extended 12-bit immediate. -/
  | xori (g : BitVec 4) (d a : BitVec 5) (i : BitVec 12)
  /-- SHLI (R79): Left shift by an immediate amount. -/
  | shli (g : BitVec 4) (d a i : BitVec 5)
  /-- SHRI (R79): Logical right shift by an immediate amount. -/
  | shri (g : BitVec 4) (d a i : BitVec 5)
  /-- SRAI (R79): Arithmetic right shift by an immediate amount. -/
  | srai (g : BitVec 4) (d a i : BitVec 5)
  /-- MOVI (R80): Write a sign-extended 17-bit immediate to sd. -/
  | movi (g : BitVec 4) (d : BitVec 5) (i : BitVec 17)
  /-- MOVHI (R80): Write a 16-bit immediate to sd[31:16], keeping sd[15:0]. -/
  | movhi (g : BitVec 4) (d : BitVec 5) (i : BitVec 16)
  /-- SEL (R80): Select sa or sb by a predicate. -/
  | sel (g : BitVec 4) (d a b : BitVec 5) (p : BitVec 4)
  /-- CMP (R81): Compare two s registers and write a complementary predicate pair. -/
  | cmp (g : BitVec 4) (k c : BitVec 3) (a b : BitVec 5)
  /-- CMPI (R81): Compare sa with a signed 11-bit immediate into a predicate pair. -/
  | cmpi (g : BitVec 4) (k c : BitVec 3) (a : BitVec 5) (i : BitVec 11)
  /-- FADD (R82): FP32 add, rounded once, latency 4. -/
  | fadd (g : BitVec 4) (d a b : BitVec 5)
  /-- FSUB (R82): FP32 subtract. -/
  | fsub (g : BitVec 4) (d a b : BitVec 5)
  /-- FMUL (R82): FP32 multiply. -/
  | fmul (g : BitVec 4) (d a b : BitVec 5)
  /-- FDIV (R82): FP32 divide, latency 16. -/
  | fdiv (g : BitVec 4) (d a b : BitVec 5)
  /-- FSQRT (R82): FP32 square root, latency 16. -/
  | fsqrt (g : BitVec 4) (d a : BitVec 5)
  /-- FMIN (R82): FP32 minimum under the special-operand rules. -/
  | fmin (g : BitVec 4) (d a b : BitVec 5)
  /-- FMAX (R82): FP32 maximum under the special-operand rules. -/
  | fmax (g : BitVec 4) (d a b : BitVec 5)
  /-- FSGN (R82): Magnitude of sa with the sign of sb. -/
  | fsgn (g : BitVec 4) (d a b : BitVec 5)
  /-- FCVT_F32_S32 (R83): Convert a signed integer to FP32. -/
  | fcvtF32S32 (g : BitVec 4) (d a : BitVec 5)
  /-- FCVT_F32_Z32 (R83): Convert an unsigned integer to FP32. -/
  | fcvtF32Z32 (g : BitVec 4) (d a : BitVec 5)
  /-- FCVT_S32_F32 (R83): Convert FP32 to a saturating signed integer. -/
  | fcvtS32F32 (g : BitVec 4) (d a : BitVec 5)
  /-- FCVT_Z32_F32 (R83): Convert FP32 to a saturating unsigned integer. -/
  | fcvtZ32F32 (g : BitVec 4) (d a : BitVec 5)
  /-- FCVT_F32_F16 (R83): Convert FP16 in sa[15:0] exactly to FP32. -/
  | fcvtF32F16 (g : BitVec 4) (d a : BitVec 5)
  /-- FCVT_F32_BF16 (R83): Convert BF16 in sa[15:0] exactly to FP32. -/
  | fcvtF32Bf16 (g : BitVec 4) (d a : BitVec 5)
  /-- FCVT_F16_F32 (R83): Convert FP32 to FP16 in sd[15:0]. -/
  | fcvtF16F32 (g : BitVec 4) (d a : BitVec 5)
  /-- FCVT_BF16_F32 (R83): Convert FP32 to BF16 in sd[15:0]. -/
  | fcvtBf16F32 (g : BitVec 4) (d a : BitVec 5)
  /-- FFMA (R84): Fused FP32 multiply-add sa × sb + sc. -/
  | ffma (g : BitVec 4) (d a b c : BitVec 5)
  /-- FCMP (R81): FP32 compare into a predicate pair, latency 4. -/
  | fcmp (g : BitVec 4) (k c : BitVec 3) (a b : BitVec 5)
  /-- PAND (R85): Predicate AND. -/
  | pand (g d a b : BitVec 4)
  /-- POR (R85): Predicate OR. -/
  | por (g d a b : BitVec 4)
  /-- PXOR (R85): Predicate XOR. -/
  | pxor (g d a b : BitVec 4)
  /-- PMOV (R85): Predicate move. -/
  | pmov (g d a : BitVec 4)
  /-- PPACK (R85): Pack eight predicates into an s register. -/
  | ppack (g a : BitVec 4) (s : BitVec 5)
  /-- PUNPK (R85): Unpack eight bits of an s register into predicates. -/
  | punpk (g d : BitVec 4) (s : BitVec 5)
  /-- AADD (R86): Add a sign-extended s register to an address register. -/
  | aadd (g d a : BitVec 4) (s : BitVec 5)
  /-- AADDI (R86): Add a signed 14-bit immediate to an address register. -/
  | aaddi (g d a : BitVec 4) (i : BitVec 14)
  /-- AMOV (R86): Zero-extend an s register into an address register. -/
  | amov (g d : BitVec 4) (s : BitVec 5)
  /-- AMOV_HI (R86): Write an s register into the high half of an address register. -/
  | amovHi (g d : BitVec 4) (s : BitVec 5)
  /-- ATOS (R86): Copy the low half of an address register to an s register. -/
  | atos (g a : BitVec 4) (s : BitVec 5)
  /-- ATOS_HI (R86): Copy the high half of an address register to an s register. -/
  | atosHi (g a : BitVec 4) (s : BitVec 5)
  /-- ATAG (R86): Privileged formation of a tagged pointer. -/
  | atag (g d a : BitVec 4) (s : BitVec 5)
  /-- BR (R87): PC-relative branch to a stored header. -/
  | br (g : BitVec 4) (i : BitVec 22)
  /-- BRL (R87): PC-relative call writing the link to a1. -/
  | brl (g : BitVec 4) (i : BitVec 22)
  /-- JR (R87): Indirect jump to the address in aa. -/
  | jr (g a : BitVec 4)
  /-- JRL (R87): Indirect call writing the link to a1. -/
  | jrl (g a : BitVec 4)
  /-- RET (R87): Return to the address in aa, recorded as a return. -/
  | ret (g a : BitVec 4)
  /-- IBSW (R95): Branch into the other I-space half, making it live. -/
  | ibsw (g : BitVec 4) (i : BitVec 22)
  /-- IFENCE (R94): Hold issue until own I-space copies complete and fetched bundles are discarded. -/
  | ifence (g : BitVec 4)
  /-- LSET (R92): Copy a nest register into the loop configuration. -/
  | lset (g : BitVec 4) (n : BitVec 3) (a y : BitVec 4) (l : BitVec 3)
  /-- LBODY (R92): Start a hardware loop over the next len bundles. -/
  | lbody (g : BitVec 4) (l : BitVec 6)
  /-- LEXIT (R92): Request that the k innermost loop levels end at the end of the pass. -/
  | lexit (g : BitVec 4) (k : BitVec 3)
  /-- NSET (R92): Load a nest register from a 96-byte A-space image. -/
  | nset (g : BitVec 4) (n : BitVec 3) (a : BitVec 4) (o : BitVec 9)
  /-- BWAIT (R97): Wait for a barrier object's phase of a given parity to complete. -/
  | bwait (g a : BitVec 4) (o : BitVec 8) (q : BitVec 1)
  /-- EVPOP (R98): Pop the oldest event record for this context, if any. -/
  | evpop (g : BitVec 4) (s : BitVec 5) (a p : BitVec 4) (o : BitVec 9)
  /-- EVWAIT (R98): Wait until an event record for this context is queued. -/
  | evwait (g : BitVec 4)
  /-- SYNC (R102): Arrive in a group and freeze until the phase restart. -/
  | sync (g : BitVec 4) (n : BitVec 8)
  /-- GDROP (R103): Arrive in and leave a group. -/
  | gdrop (g : BitVec 4) (n : BitVec 8)
  /-- YIELD (R105): End the current quantum. -/
  | yield (g : BitVec 4)
  /-- QPOP (R100): Non-blocking pop of a work-queue entry with an outcome code. -/
  | qpop (g : BitVec 4) (s : BitVec 5) (a p : BitVec 4) (o : BitVec 8)
  /-- QPOP_B (R100): Blocking pop of a work-queue entry. -/
  | qpopB (g : BitVec 4) (s : BitVec 5) (a p : BitVec 4) (o : BitVec 8)
  /-- QPUSH (R101): Push a 64-byte item to a work queue, waiting if full. -/
  | qpush (g : BitVec 4) (s : BitVec 5) (a : BitVec 4) (o : BitVec 8)
  /-- LEAVE (R106): Leave the launch when a capacity notice is pending for the core. -/
  | leave (g : BitVec 4)
  /-- TRAP (R110): Perform the bundle and then take TRAPI with the given code. -/
  | trap (g : BitVec 4) (c : BitVec 8)
  /-- ERET (R230): Resume at CX_TRAPPC, re-injecting the replay buffer. -/
  | eret (g : BitVec 4)
  /-- ERET_D (R230): Resume at CX_TRAPPC, discarding the replay buffer. -/
  | eretD (g : BitVec 4)
  /-- SYSRD (R107): Read a system register into an s or a register. -/
  | sysrd (g : BitVec 4) (s : BitVec 5) (a : BitVec 4) (r : BitVec 9)
  /-- SYSWR (R107): Write a system register from an s or a register. -/
  | syswr (g : BitVec 4) (s : BitVec 5) (a : BitVec 4) (r : BitVec 9)
  /-- CONTAIN (R111): Open a containment region with handler and output list. -/
  | contain (g : BitVec 4) (s : BitVec 5) (a m : BitVec 4)
  /-- UNCONTAIN (R396): Close the innermost containment region. -/
  | uncontain (g : BitVec 4)
  /-- DCHK (R112): Compare two s registers and trap DCHK on mismatch. -/
  | dchk (g : BitVec 4) (a b : BitVec 5)
  /-- CYCRD (R113): Read the low 32 bits of a cycle counter into s. -/
  | cycrd (g : BitVec 4) (s : BitVec 5) (k : BitVec 1)
  /-- CYCRD_W (R113): Read all 64 bits of a cycle counter into an a register. -/
  | cycrdW (g a : BitVec 4) (k : BitVec 1)
  /-- SNOP (R114): Perform the bundle then take n − 1 bubbles. -/
  | snop (g : BitVec 4) (n : BitVec 9)
  /-- HALT (R114): End the context (in ctxS, retire the service request). -/
  | halt (g : BitVec 4)
  -- V slots (R30)
  /-- VADD (R120): Lanewise add. -/
  | vadd (g : BitVec 4) (d a b : BitVec 5) (q : BitVec 3) (t : BitVec 4)
  /-- VSUB (R120): Lanewise subtract. -/
  | vsub (g : BitVec 4) (d a b : BitVec 5) (q : BitVec 3) (t : BitVec 4)
  /-- VMUL (R120): Lanewise multiply. -/
  | vmul (g : BitVec 4) (d a b : BitVec 5) (q : BitVec 3) (t : BitVec 4)
  /-- VFMA (R120): Lanewise fused multiply-add into vd. -/
  | vfma (g : BitVec 4) (d a b : BitVec 5) (q : BitVec 3) (t : BitVec 4)
  /-- VFMS (R120): Lanewise fused vd minus product. -/
  | vfms (g : BitVec 4) (d a b : BitVec 5) (q : BitVec 3) (t : BitVec 4)
  /-- VMIN (R120): Lanewise minimum. -/
  | vmin (g : BitVec 4) (d a b : BitVec 5) (q : BitVec 3) (t : BitVec 4)
  /-- VMAX (R120): Lanewise maximum. -/
  | vmax (g : BitVec 4) (d a b : BitVec 5) (q : BitVec 3) (t : BitVec 4)
  /-- VABS (R120): Lanewise absolute value. -/
  | vabs (g : BitVec 4) (d a : BitVec 5) (q : BitVec 3) (t : BitVec 4)
  /-- VNEG (R120): Lanewise negation. -/
  | vneg (g : BitVec 4) (d a : BitVec 5) (q : BitVec 3) (t : BitVec 4)
  /-- VAND (R123): Lanewise AND. -/
  | vand (g : BitVec 4) (d a b : BitVec 5) (q : BitVec 3) (t : BitVec 4)
  /-- VOR (R123): Lanewise OR. -/
  | vor (g : BitVec 4) (d a b : BitVec 5) (q : BitVec 3) (t : BitVec 4)
  /-- VXOR (R123): Lanewise XOR. -/
  | vxor (g : BitVec 4) (d a b : BitVec 5) (q : BitVec 3) (t : BitVec 4)
  /-- VANDN (R123): Lanewise AND NOT. -/
  | vandn (g : BitVec 4) (d a b : BitVec 5) (q : BitVec 3) (t : BitVec 4)
  /-- VSHL (R123): Lanewise left shift. -/
  | vshl (g : BitVec 4) (d a b : BitVec 5) (q : BitVec 3) (t : BitVec 4)
  /-- VSHR (R123): Lanewise logical right shift. -/
  | vshr (g : BitVec 4) (d a b : BitVec 5) (q : BitVec 3) (t : BitVec 4)
  /-- VSRA (R123): Lanewise arithmetic right shift. -/
  | vsra (g : BitVec 4) (d a b : BitVec 5) (q : BitVec 3) (t : BitVec 4)
  /-- VCMP (R124): Lanewise compare into a complementary mask pair. -/
  | vcmp (g : BitVec 4) (k : BitVec 2) (c : BitVec 3) (a b : BitVec 5) (q : BitVec 3) (t : BitVec 4)
  /-- VSEL (R125): Lanewise select by a mask register. -/
  | vsel (g : BitVec 4) (d a b : BitVec 5) (q : BitVec 3) (t : BitVec 4)
  /-- VMOV (R126): Lanewise move. -/
  | vmov (g : BitVec 4) (d a : BitVec 5) (q : BitVec 3) (t : BitVec 4)
  /-- VBCAST (R126): Broadcast an s register into active lanes. -/
  | vbcast (g : BitVec 4) (d s : BitVec 5) (q : BitVec 3) (t : BitVec 4)
  /-- VEXT (R126): Extract one lane into an s register. -/
  | vext (g : BitVec 4) (d a b : BitVec 5) (t : BitVec 4)
  /-- VINS (R126): Insert an s register into one lane. -/
  | vins (g : BitVec 4) (d a b : BitVec 5) (t : BitVec 4)
  /-- VPERM (R126): Permute lanes by an index vector. -/
  | vperm (g : BitVec 4) (d a b : BitVec 5) (q : BitVec 3) (t : BitVec 4)
  /-- VSHUF (R126): Zip or unzip two vectors by a pattern. -/
  | vshuf (g : BitVec 4) (d a b : BitVec 5) (p : BitVec 3) (t : BitVec 4)
  /-- VROT (R126): Rotate lanes by an s register amount. -/
  | vrot (g : BitVec 4) (d a b : BitVec 5) (q : BitVec 3) (t : BitVec 4)
  /-- VREDS (R127): Fixed-tree sum reduction of lanes. -/
  | vreds (g : BitVec 4) (d a : BitVec 5) (q : BitVec 3) (t : BitVec 4)
  /-- VREDM_MAX (R127): Fixed-tree maximum reduction of lanes. -/
  | vredmMax (g : BitVec 4) (d a : BitVec 5) (q : BitVec 3) (t : BitVec 4)
  /-- VREDM_MIN (R127): Fixed-tree minimum reduction of lanes. -/
  | vredmMin (g : BitVec 4) (d a : BitVec 5) (q : BitVec 3) (t : BitVec 4)
  /-- VDOT (R128): Dot products accumulated into 32-bit lanes. -/
  | vdot (g : BitVec 4) (d a b : BitVec 5) (q : BitVec 3) (t : BitVec 4)
  /-- VCVT (R129): Lanewise type conversion. -/
  | vcvt (g : BitVec 4) (d a : BitVec 5) (x y : BitVec 4) (f : BitVec 3)
  /-- VRND (R130): Round lanes to integral values by a mode. -/
  | vrnd (g : BitVec 4) (d a m : BitVec 5) (q : BitVec 3) (t : BitVec 4)
  /-- VEXP2 (R131): Lanewise 2^a in FP32. -/
  | vexp2 (g : BitVec 4) (d a : BitVec 5) (q : BitVec 3) (t : BitVec 4)
  /-- VLOG2 (R131): Lanewise log2 in FP32. -/
  | vlog2 (g : BitVec 4) (d a : BitVec 5) (q : BitVec 3) (t : BitVec 4)
  /-- VRCP (R131): Lanewise reciprocal in FP32. -/
  | vrcp (g : BitVec 4) (d a : BitVec 5) (q : BitVec 3) (t : BitVec 4)
  /-- VRSQ (R131): Lanewise reciprocal square root in FP32. -/
  | vrsq (g : BitVec 4) (d a : BitVec 5) (q : BitVec 3) (t : BitVec 4)
  /-- VQNT (R133): Quantise 512 values into 64 LAT8 words. -/
  | vqnt (g : BitVec 4) (d a b : BitVec 5) (q : BitVec 3) (l x : BitVec 2)
  /-- VDQL (R134): Decode 64 LAT8 words into a register group. -/
  | vdql (g : BitVec 4) (d a b : BitVec 5) (q : BitVec 3) (l x : BitVec 2)
  /-- VLINS (R135): Replace one element per LAT8 word and re-quantise. -/
  | vlins (g : BitVec 4) (d a b : BitVec 5) (q : BitVec 3) (l x : BitVec 2)
  /-- VLEXT (R136): Extract one element per LAT8 word. -/
  | vlext (g : BitVec 4) (d a b : BitVec 5) (q : BitVec 3) (l x : BitVec 2)
  /-- VLNRM (R137): Move LAT8 words to a new scale. -/
  | vlnrm (g : BitVec 4) (d a b : BitVec 5) (q : BitVec 3) (l : BitVec 2)
  /-- VTRW (R138): Write a row of a tile register from a vector. -/
  | vtrw (g : BitVec 4) (v : BitVec 5) (q : BitVec 2) (i : BitVec 5) (t : BitVec 4) (f : BitVec 3)
  /-- VTRR (R138): Read a row of a tile register into a vector. -/
  | vtrr (g : BitVec 4) (v : BitVec 5) (q : BitVec 2) (i : BitVec 5) (t : BitVec 4) (f : BitVec 3)
  /-- VTCW (R138): Write a column of a tile register from a vector. -/
  | vtcw (g : BitVec 4) (v : BitVec 5) (q : BitVec 2) (i : BitVec 5) (t : BitVec 4) (f : BitVec 3)
  /-- VTCR (R138): Read a column of a tile register into a vector. -/
  | vtcr (g : BitVec 4) (v : BitVec 5) (q : BitVec 2) (i : BitVec 5) (t : BitVec 4) (f : BitVec 3)
  /-- VACR (R140): Read a scaled accumulator-tile row into a vector. -/
  | vacr (g : BitVec 4) (d : BitVec 5) (c r : BitVec 6) (t : BitVec 4)
  /-- VACW (R141): Write an accumulator-tile row from a vector. -/
  | vacw (g : BitVec 4) (d : BitVec 5) (c r : BitVec 6) (t : BitVec 4)
  /-- VDCHK (R143): Compare active lanes of two vectors and trap DCHK on mismatch. -/
  | vdchk (g : BitVec 4) (a b : BitVec 5) (q : BitVec 3) (t : BitVec 4)
  /-- VIOP (R144): Scalar integer operation executed on a vector unit. -/
  | viop (g : BitVec 4) (d a b : BitVec 5) (f : BitVec 7)
  /-- VFOP (R144): Scalar FP32 operation executed on a vector unit. -/
  | vfop (g : BitVec 4) (d a b : BitVec 5) (f : BitVec 7)
  -- A slot (R31)
  /-- LD (R149): Load a byte, halfword or word from A-space, latency 5. -/
  | ld (g : BitVec 4) (d : BitVec 5) (b : BitVec 4) (z : BitVec 3) (o : BitVec 10)
  /-- ST (R149): Store a byte, halfword or word to A-space. -/
  | st (g : BitVec 4) (d : BitVec 5) (b : BitVec 4) (z : BitVec 3) (o : BitVec 10)
  /-- LDV (R150): Load 64 consecutive words into a vector. -/
  | ldv (g : BitVec 4) (d : BitVec 5) (b : BitVec 4) (o : BitVec 10)
  /-- STV (R150): Store a vector to 64 consecutive words. -/
  | stv (g : BitVec 4) (d : BitVec 5) (b : BitVec 4) (o : BitVec 10)
  /-- LDVS (R151): Strided vector load. -/
  | ldvs (g : BitVec 4) (d : BitVec 5) (b : BitVec 4) (x : BitVec 5)
  /-- STVS (R151): Strided vector store. -/
  | stvs (g : BitVec 4) (d : BitVec 5) (b : BitVec 4) (x : BitVec 5)
  /-- LDVX (R151): Indexed vector load. -/
  | ldvx (g : BitVec 4) (d : BitVec 5) (b : BitVec 4) (x : BitVec 5)
  /-- STVX (R151): Indexed vector store. -/
  | stvx (g : BitVec 4) (d : BitVec 5) (b : BitVec 4) (x : BitVec 5)
  /-- LDF (R152): Load a word when full and set it empty. -/
  | ldf (g : BitVec 4) (d : BitVec 5) (b : BitVec 4) (o : BitVec 10)
  /-- STE (R152): Store a word when empty and set it full. -/
  | ste (g : BitVec 4) (d : BitVec 5) (b : BitVec 4) (o : BitVec 10)
  /-- FESET_F (R154): Set the full/empty bits of a run of words to full. -/
  | fesetF (g b : BitVec 4) (x : BitVec 5)
  /-- FESET_E (R154): Set the full/empty bits of a run of words to empty. -/
  | fesetE (g b : BitVec 4) (x : BitVec 5)
  /-- LDA (R149): Load a doubleword into an address register. -/
  | lda (g d b : BitVec 4) (o : BitVec 10)
  /-- STA (R149): Store an address register as a doubleword. -/
  | sta (g d b : BitVec 4) (o : BitVec 10)
  -- W slot (R32)
  /-- WLDM (R158): Stream a W-space row into the matrix engine's B port. -/
  | wldm (g b : BitVec 4) (o : BitVec 18)
  /-- WLDV (R159): Load a W-space row into a vector register pair. -/
  | wldv (g d b : BitVec 4) (o : BitVec 14)
  /-- WLDD (R160): Load a W-space row with an A-space tenant delta applied. -/
  | wldd (g d b x : BitVec 4)
  /-- WATTR (R161): Read a W-page attribute word. -/
  | wattr (g : BitVec 4) (d : BitVec 5) (b : BitVec 4)
  /-- WST (R162): W-slot store encoding that always traps WSTORE when performed. -/
  | wst (g : BitVec 4) (c : BitVec 22)
  -- M slot (R33)
  /-- MCFG (R166): Write the matrix configuration word. -/
  | mcfg (g : BitVec 4) (s : BitVec 5)
  /-- MCFG_R (R166): Write the FP32 readout scale. -/
  | mcfgR (g : BitVec 4) (s : BitVec 5)
  /-- MMA (R172): Dense 64 × K × 64 matrix product into an accumulator tile. -/
  | mma (g : BitVec 4) (c : BitVec 6) (n : BitVec 3) (a b : BitVec 4) (s : BitVec 3) (f : BitVec 1)
  /-- MMAS (R175): Block-sparse matrix product completing through a barrier. -/
  | mmas (g : BitVec 4) (c : BitVec 6) (n : BitVec 3) (a b : BitVec 4) (s : BitVec 3) (f : BitVec 1)
  /-- MMV (R174): Batched matrix-vector product streaming weights from W-space. -/
  | mmv (g : BitVec 4) (c : BitVec 6) (n : BitVec 3) (a b : BitVec 4) (f : BitVec 1)
  /-- MZERO (R176): Zero accumulator tiles and set their format and readout scale. -/
  | mzero (g : BitVec 4) (c : BitVec 6) (s : BitVec 3) (f : BitVec 2)
  /-- MLAT (R177): Set the context's MLAT scale-array binding. -/
  | mlat (g : BitVec 4) (s : BitVec 5) (a : BitVec 4) (l : BitVec 2)
  /-- MSTOP (R178): Abandon every uncommitted matrix command of the context. -/
  | mstop (g : BitVec 4)
  -- C slots (R34)
  /-- CPY (R188): Copy a nest-walked byte range between spaces. -/
  | cpy (g d f : BitVec 4) (n : BitVec 3) (t b : BitVec 4) (x : BitVec 3)
  /-- CPYD (R192): Copy into A-space with a deadline enforced by freezing. -/
  | cpyd (g d f : BitVec 4) (n : BitVec 3) (t : BitVec 4) (s : BitVec 5)
  /-- PUB (R191): Exchange the frames of a shadow window after its stream completes. -/
  | pub (g t : BitVec 4) (w : BitVec 2)
  /-- PUB_DEF (R191): Define a shadow window. -/
  | pubDef (g a y : BitVec 4) (s : BitVec 5) (w : BitVec 2)
  /-- PUB_CLR (R191): End a shadow window. -/
  | pubClr (g : BitVec 4) (w : BitVec 2)
  /-- DRAIN (R194): Complete when a stream's earlier writes are visible to all agents. -/
  | drain (g b t : BitVec 4) (e : BitVec 1)
  /-- XFENCE (R195): Order a stream after the earlier operations of masked streams. -/
  | xfence (g t : BitVec 4) (s : BitVec 5)
  /-- AMO_ADD (R196): Atomic add on a G-space word. -/
  | amoAdd (g x y t : BitVec 4) (s : BitVec 5)
  /-- AMO_MIN (R196): Atomic signed minimum on a G-space word. -/
  | amoMin (g x y t : BitVec 4) (s : BitVec 5)
  /-- AMO_MAX (R196): Atomic signed maximum on a G-space word. -/
  | amoMax (g x y t : BitVec 4) (s : BitVec 5)
  /-- AMO_AND (R196): Atomic AND on a G-space word. -/
  | amoAnd (g x y t : BitVec 4) (s : BitVec 5)
  /-- AMO_OR (R196): Atomic OR on a G-space word. -/
  | amoOr (g x y t : BitVec 4) (s : BitVec 5)
  /-- AMO_XOR (R196): Atomic XOR on a G-space word. -/
  | amoXor (g x y t : BitVec 4) (s : BitVec 5)
  /-- AMO_SWAP (R196): Atomic swap on a G-space word. -/
  | amoSwap (g x y t : BitVec 4) (s : BitVec 5)
  /-- AMO_CAS (R196): Atomic compare-and-swap on a G-space word. -/
  | amoCas (g x y t : BitVec 4) (s : BitVec 5)
  /-- RED_ADD_F32 (R197): Scheduled FP32 add reduction into G-space. -/
  | redAddF32 (g x y t : BitVec 4) (s : BitVec 5)
  /-- RED_ADD_F64 (R197): Scheduled FP64 add reduction into G-space. -/
  | redAddF64 (g x y t : BitVec 4) (s : BitVec 5)
  /-- RED_ADD_S32 (R197): Scheduled wrapping s32 add reduction into G-space. -/
  | redAddS32 (g x y t : BitVec 4) (s : BitVec 5)
  /-- RED_MAX_F32 (R197): Scheduled FP32 maximum reduction into G-space. -/
  | redMaxF32 (g x y t : BitVec 4) (s : BitVec 5)
  /-- RED_MIN_F32 (R197): Scheduled FP32 minimum reduction into G-space. -/
  | redMinF32 (g x y t : BitVec 4) (s : BitVec 5)
  /-- GATH (R193): Gather indexed elements into A-space. -/
  | gath (g d f : BitVec 4) (n : BitVec 3) (t b : BitVec 4) (h : BitVec 1)
  /-- SCAT (R193): Scatter A-space elements to indexed addresses. -/
  | scat (g d f : BitVec 4) (n : BitVec 3) (t b : BitVec 4)
  /-- PFL2 (R198): Hint to bring G-space bytes into L2. -/
  | pfl2 (g x : BitVec 4) (s : BitVec 5)
  /-- CWB_WB (R199): Write back dirty L1 lines of a range. -/
  | cwbWb (g x t : BitVec 4) (s : BitVec 5)
  /-- CWB_WBI (R199): Write back and invalidate L1 lines of a range. -/
  | cwbWbi (g x t : BitVec 4) (s : BitVec 5)
  /-- CWB_INV (R199): Privileged discard of L1 lines of a range. -/
  | cwbInv (g x t : BitVec 4) (s : BitVec 5)
  /-- KVLD (R203): Load key/value rows of one head through a handle. -/
  | kvld (g x y t : BitVec 4) (s : BitVec 5) (d e : BitVec 1)
  /-- KVAPP (R203): Append tokens' key/value rows to a handle's entry. -/
  | kvapp (g x y t : BitVec 4) (s : BitVec 5) (e : BitVec 1)
  /-- KVFORK (R203): Share an entry's pages into an empty entry. -/
  | kvfork (g x y t : BitVec 4) (e : BitVec 1)
  /-- KVREL (R203): Release an entry's pages and advance its generation. -/
  | kvrel (g x t : BitVec 4) (e : BitVec 1)
  /-- WPROG (R205): Program W-space rows through the Potting Shed. -/
  | wprog (g x y t : BitVec 4) (s : BitVec 5) (e : BitVec 1)
  /-- WPROG_ATTR (R256): Privileged write of a W-page attribute word. -/
  | wprogAttr (g x y t : BitVec 4) (e : BitVec 1)
  /-- WFENCE (R206): Wait until the context's earlier WPROGs complete. -/
  | wfence (g : BitVec 4)
  /-- WHASH (R207): SHA-384 over W-space rows on the hash engine. -/
  | whash (g x y t : BitVec 4) (s : BitVec 5) (e : BitVec 1)
  /-- BINIT (R202): Initialise a barrier object's expectations. -/
  | binit (g x y : BitVec 4) (s : BitVec 5)
  /-- BEXP (R202): Add expected bytes to a barrier object. -/
  | bexp (g x t : BitVec 4) (s : BitVec 5) (o : BitVec 1)
  /-- BARR (R202): Arrive at a barrier object with bytes. -/
  | barr (g x t : BitVec 4) (s : BitVec 5) (o : BitVec 1)
  /-- BDROP (R202): Arrive at and drop out of a barrier object. -/
  | bdrop (g x t : BitVec 4) (o : BitVec 1)
  /-- MIGR (R300): Privileged page migration with mapping switch. -/
  | migr (g x y t : BitVec 4) (s : BitVec 5) (e : BitVec 1)
  /-- QCRT (R208): Privileged creation of a work queue. -/
  | qcrt (g x y t : BitVec 4) (s : BitVec 5)
  /-- QDEL (R208): Privileged destruction of a work queue. -/
  | qdel (g t : BitVec 4) (s : BitVec 5)
  -- steps without an encoding
  /-- BUNDLE_ISSUE (R14): The running context issues one expanded bundle in an unfrozen cycle. -/
  | bundleIssue
  /-- EXPOSED_RESULT_LAND (R36): An operation's result is written at issue cycle plus its latency. -/
  | exposedResultLand
  /-- WAIT_END (R75): A blocking wait's condition is first observed and the context may issue again. -/
  | waitEnd
  /-- FE_FREEZE_TIMEOUT (R153): After 16 frozen cycles an unready LDF or STE becomes a blocking wait. -/
  | feFreezeTimeout
  /-- QUANTUM_EXPIRY (R221): A context's 65,536-cycle quantum ends. -/
  | quantumExpiry
  /-- CONTEXT_SWITCH (R220): The selector passes the issue width to the next ready context after four switch cycles. -/
  | contextSwitch
  /-- TRAP_ENTRY (R227): A context takes a trap, recording it and entering its handler or stopping. -/
  | trapEntry
  /-- SERVICE_REQUEST (R234): A service request starts ctxS and freezes the user contexts. -/
  | serviceRequest
  /-- PREEMPTION (R236): The Pavilion saves a lower-priority context to its image and frees its slot. -/
  | preemption
  /-- CONTEXT_RESUME (R237): A context is restored from its image and becomes ready. -/
  | contextResume
  /-- SYNC_RESTART (R102): Members frozen in SYNC issue again 48 cycles after the phase completes. -/
  | syncRestart
  /-- SYNC_TIMEOUT (R363): A SYNC's timeout expires, withdrawing its arrival and raising SYNCTO. -/
  | syncTimeout
  /-- MATRIX_COMMIT (R170): An MMA or MMV writes its result to the tile in one cycle. -/
  | matrixCommit
  /-- MMAS_COMMIT (R175): An MMAS commits its tile and signals its barrier and record. -/
  | mmasCommit
  /-- COMMAND_ABANDON (R179): A running matrix command faults, commits its partial sums and traps. -/
  | commandAbandon
  /-- OPERATION_COMPLETE (R185): A copy-engine operation's last write performs and it signals completion. -/
  | operationComplete
  /-- OPERATION_FAULT (R186): A running operation meets an unserviceable fault and its stream is cancelled. -/
  | operationFault
  /-- BARRIER_ORDERED_ACTION (R202): A .o barrier instruction acts once its stream's earlier operations complete. -/
  | barrierOrderedAction
  /-- PUB_PERFORM (R191): A publish exchanges the window's frames once its stream allows. -/
  | pubPerform
  /-- CPYD_DEADLINE (R192): A CPYD or KVLD.d deadline expires with data missing and freezes the core. -/
  | cpydDeadline
  /-- EVENT_RECORD_ENQUEUE (R99): A held event record enters the event queue when room frees. -/
  | eventRecordEnqueue
  /-- REDUCTION_APPLY (R317): A home L2 slice applies staged RED contributions in slot order. -/
  | reductionApply
  /-- CONTAINMENT_PUBLISH (R396): The outermost region publishes its staged writes once its copies complete. -/
  | containmentPublish
  /-- MONITOR_WAKE (R297): A write making a watched page-table entry valid wakes the waiting walks. -/
  | monitorWake
  /-- WALK_RETRY (R297): A walk with no free monitor repeats every 1,024 cycles. -/
  | walkRetry
  /-- MIGRATION_COMMIT (R300): A migration switches the entry to the destination once readers drain. -/
  | migrationCommit
  /-- MIGRATION_ABANDON (R301): A faulting migration restores the old mapping with SUS set. -/
  | migrationAbandon
  /-- ARBITER_GRANT (R260): A W-bank arbiter grants a waiting read at a phase boundary or after bank reuse. -/
  | arbiterGrant
  /-- WPROG_ROW_START (R263): A row engine starts programming a row when free and allowed. -/
  | wprogRowStart
  /-- PROGRAM_PHASE_END (R263): A capture, pulse or verify phase of a row ends. -/
  | programPhaseEnd
  /-- WPROG_COMPLETION (R265): A WPROG completes when all its rows have committed or failed. -/
  | wprogCompletion
  /-- ATTR_COMMIT (R256): A W-page attribute change commits at bank 0's arbiter and clears SEALED. -/
  | attrCommit
  /-- WHASH_COMPLETION (R207): The hash engine writes a WHASH digest to A-space. -/
  | whashCompletion
  /-- QUEUE_DESTROY (R367): A QDEL performs at the home slice and the queue stops being live. -/
  | queueDestroy
  /-- HOST_TAIL_WRITE (R366): A producer's TAIL store is accepted or refused at the home slice. -/
  | hostTailWrite (pa : BitVec 52) (value : BitVec 32)
  /-- HOST_APERTURE_ACCESS (R423): A host access through the aperture reaches device G-physical memory. -/
  | hostApertureAccess (pa : BitVec 52) (write : Bool) (bytes : List (BitVec 8))
  /-- LAUNCH_DESCRIPTOR_POP (R368): The Pavilion pops a launch descriptor into its pending pool. -/
  | launchDescriptorPop
  /-- PLACEMENT_PASS (R371): Every 256 cycles the Pavilion considers and places pool launches. -/
  | placementPass
  /-- CONTEXT_START (R374): At the end of placement a launch's contexts start in one cycle. -/
  | contextStart
  /-- LAUNCH_COMPLETION (R369): The Pavilion writes a launch's completion record and releases its resources. -/
  | launchCompletion
  /-- NOTICE_ITEM_DELIVERY (R354): A held notice-queue item is placed when the queue has room. -/
  | noticeItemDelivery
  /-- LEASE_START (R377): The Lodge starts a routine or early lease when the limits allow. -/
  | leaseStart
  /-- LEASE_GRANT (R379): A noticed core is granted once its last user context is gone. -/
  | leaseGrant
  /-- GRANT_DEADLINE (R380): The grant deadline passes and remaining contexts are pre-empted. -/
  | grantDeadline
  /-- LEASE_PREPARED (R384): A non-core unit finishes its preparation and is granted. -/
  | leasePrepared
  /-- LEASE_SCRUB_DONE (R380): A leased core's scrub ends and its test patterns begin. -/
  | leaseScrubDone
  /-- LEASE_TEST_END (R388): A lease's patterns end and the unit is returned or retired. -/
  | leaseTestEnd
  /-- CLOCK_STRETCH (R428): A thermal or power interval freezes cores for a stretch. -/
  | clockStretch (temps : List (Nat × Nat)) (overPower : Bool)
  /-- THERMAL_SHUTDOWN (R428): A 115 °C reading makes the board controller remove power. -/
  | thermalShutdown
  /-- POWER_ON (R276): Power is applied and a cold start runs its steps. -/
  | powerOn
  /-- RESET (R276): A reset with power held starts a warm or cold start. -/
  | reset
  /-- POWER_LOSS (R240): Power is removed, keeping only the non-volatile state. -/
  | powerLoss
  /-- IMAGE_ROOT_FORMED (R280): The firmware forms a weight image's root and seals its pages. -/
  | imageRootFormed
  /-- PACKAGE_DUMP (R398): A fatal error writes the package dump and takes a warm start. -/
  | packageDump
  /-- GET_VERSION (R282): SPDM version request. -/
  | getVersion (endpoint : Nat)
  /-- GET_CAPABILITIES (R282): SPDM capabilities request. -/
  | getCapabilities (endpoint : Nat)
  /-- NEGOTIATE_ALGORITHMS (R282): SPDM algorithm negotiation. -/
  | negotiateAlgorithms (endpoint : Nat) (baseAsym baseHash dhe aead keySchedule : Bool)
  /-- GET_DIGESTS (R282): SPDM certificate digests request. -/
  | getDigests (endpoint : Nat)
  /-- GET_CERTIFICATE (R282): SPDM certificate chain request for slot 0. -/
  | getCertificate (endpoint : Nat) (slot : BitVec 8)
  /-- CHALLENGE (R282): SPDM challenge-response authentication. -/
  | challenge (endpoint : Nat) (slot : BitVec 8)
  /-- GET_MEASUREMENTS (R242, R283): SPDM request for measurement blocks by index; its other fields are `State.asks`. -/
  | getMeasurements (endpoint : Nat) (index : BitVec 8)
  /-- KEY_EXCHANGE (R282): SPDM secured-session key exchange, up to 17 sessions. -/
  | keyExchange (endpoint : Nat) (slot : BitVec 8)
  /-- FINISH (R282): SPDM session establishment finish. -/
  | finish (session : Nat)
  /-- UNSUPPORTED_REQUEST (R282): Any other SPDM request receives an UnsupportedRequest error. -/
  | unsupportedRequest (endpoint : Nat) (code : BitVec 8)
  /-- SESSION_END (R422): Ending a secured session unbinds it from its partition. -/
  | sessionEnd (session : Nat)
  /-- GET_STATE (R410): Partition-interface request returning PT_STATE. -/
  | getState (session : Nat) (part : BitVec 8)
  /-- LOCK (R412): Partition-interface request that checks and freezes the configuration. -/
  | lock (session : Nat) (part : BitVec 8)
  /-- GET_REPORT (R414): Partition-interface request returning the interface report. -/
  | getReport (session : Nat) (part : BitVec 8)
  /-- START (R410): Partition-interface request with the nonce entering RUN. -/
  | start (session : Nat) (part : BitVec 8) (nonce : BitVec 64)
  /-- STOP (R416): Partition-interface request returning the partition to CONFIG_UNLOCKED. -/
  | stop (session : Nat) (part : BitVec 8)
  /-- PT_REGISTER_WRITE (R413): Host write of a partition configuration register, frozen after lock. -/
  | ptRegisterWrite (part : BitVec 4) (off : BitVec 12) (wide : Bool) (value : BitVec 64)
  /-- PARTITION_SCRUB_DONE (R416): The ERROR scrub ends, completion records are written and SCRUB clears. -/
  | partitionScrubDone
  /-- MG_WPMOVE_WRITE (R420): Write of MG_WPMOVE starting a W-page move between partitions. -/
  | mgWpmoveWrite (value : BitVec 32)
  /-- WPAGE_MOVE_DONE (R420): A W-page move finishes by writing the zeroed page's new attribute word. -/
  | wpageMoveDone
  /-- MG_REMEAS_WRITE (R424): Write of MG_REMEAS requesting re-measurement of an image. -/
  | mgRemeasWrite (value : BitVec 32)
  /-- MG_THERM_READ (R428): Read of MG_THERM that clears its stretch-event count. -/
  | mgThermRead
  /-- MANAGEMENT_WRITE (R423): Write of a management register with no behaviour of its own. -/
  | managementWrite (off : BitVec 20) (value : BitVec 64)
  /-- FABRIC_ACK (R426): A destination package acknowledges flits, reopening the sender window. -/
  | fabricAck (port flits : Nat)
  /-- LANE_WIDTH_CHANGE (R385): A fabric port switches between full and half width at a flit boundary. -/
  | laneWidthChange (port lane : Nat) (half : Bool)
  /-- START_STEP_COMPLETE (R277): A step of a cold or warm start completes and the next begins; completion of step 8 lets the Pavilion take launches. -/
  | startStepComplete
  /-- WALK_COMPLETE (R296): A page-table walk reaches a valid leaf, fills the TLBs and frees its walk slot. -/
  | walkComplete
  /-- LOAD_PIPE_DATA_ARRIVAL (R247): Late G-space operand data reaches a matrix load pipe, ending the freeze or array stall. -/
  | loadPipeDataArrival
  /-- HANDLE_ENTRY_ARRIVAL (R203): A handle-table entry missed in the handle cache arrives, ending the freeze so the KV instruction can check it. -/
  | handleEntryArrival
  /-- IMAGE_WRITE_DRAINED (R236): A pre-empted context's image write drains, and its slot and tiles are freed. -/
  | imageWriteDrained
  /-- FABRIC_FLIT_RECEIVED (R426): A data or request flit from another package arrives on a scale-up fabric port. -/
  | fabricFlitReceived (port : Nat) (source : BitVec 12) (header : BitVec 128) (payload : BitVec 512)
  deriving DecidableEq, Repr

end Sys2Proof
end

