-- ==== Sys2Proof/Machine/Illegal.lean ====
section
/-! DEFINITION. The checks a slot word's own fields must pass once its cell and function code are known: condition codes,
register indices and groups, type codes, system register numbers (R20, R23, R24, R107, R118, R132, R172, R176). Each
failure traps ILLEGAL at decode, whatever the guard. -/
namespace Sys2Proof

/-- Why decode traps ILLEGAL on a word of a known cell. -/
inductive IllegalReason where
  /-- A condition code the compare does not accept (R23, R24, R81). -/
  | conditionCode
  /-- A compare or pop that names no predicate or mask pair (R23, R24, R96). -/
  | predicatePair
  /-- PPACK or PUNPK beyond p15 (R85). -/
  | predicateRange
  /-- A loop or matrix level count out of range (R92, R172). -/
  | levelCount
  /-- A system register number absent from the table (R107). -/
  | systemRegister
  /-- A reserved field that the width of the register leaves unused, or another reserved field (R22, R107). -/
  | reservedField
  /-- SNOP of 0 (R114). -/
  | zeroCount
  /-- A type code the instruction does not list (R118). -/
  | typeCode
  /-- A reserved shuffle pattern (R126). -/
  | pattern
  /-- A reserved rounding mode (R130). -/
  | roundingMode
  /-- aux value 3 (R132). -/
  | ordinaryFormat
  /-- A register group or pair that is not aligned (R132, R140, R141). -/
  | registerGroup
  /-- An FMT field without an nf8 side (R129, R138). -/
  | formatIndex
  /-- A function code that a scalar form does not take (R30). -/
  | functionCode
  /-- A reserved access size (R25, R149). -/
  | accessSize
  /-- An accumulator format or range (R176). -/
  | accumulator
  /-- A pointer register without its index register (R208). -/
  | pointerRegister
  deriving DecidableEq, Repr

/-- `none` when the condition holds. -/
def checkThat (r : IllegalReason) (ok : Bool) : Option IllegalReason := if ok then none else some r

/-- Two conditions, in order. -/
def checkBoth (r1 : IllegalReason) (ok1 : Bool) (r2 : IllegalReason) (ok2 : Bool) : Option IllegalReason :=
  if !ok1 then some r1 else checkThat r2 ok2

/-- Three conditions, in order. -/
def checkThird (ok1 : Bool) (r1 : IllegalReason) (ok2 : Bool) (r2 : IllegalReason) (ok3 : Bool) (r3 : IllegalReason) :
    Option IllegalReason :=
  if !ok1 then some r1 else checkBoth r2 ok2 r3 ok3

/-- A scalar compare's pair index is 1 to 6 (R23). -/
def checkPair (k : BitVec 3) (next : Option IllegalReason) : Option IllegalReason :=
  if 1 ≤ k.toNat ∧ k.toNat ≤ 6 then next else some .predicatePair

/-- The integer types *I* (R118). -/
def isInt (t : BitVec 4) : Bool := decide (t.toNat ≤ 5)

/-- The floating types *F* (R118). -/
def isFloat (t : BitVec 4) : Bool := decide (6 ≤ t.toNat ∧ t.toNat ≤ 9)

/-- The registers of a lattice group: eight for f32, four for the 16-bit formats (R132). -/
def groupSize (aux : BitVec 2) : Nat := if aux = 0 then 8 else 4

/-- The system registers of R107 that are 64 bits wide. -/
def sysReg64 (r : Nat) : Bool :=
  decide (r = 0x001 ∨ r = 0x003 ∨ r = 0x004 ∨ r = 0x007 ∨ r = 0x008 ∨ r = 0x009 ∨ r = 0x01F)

/-- The system registers of R107 that are 32 bits wide. -/
def sysReg32 (r : Nat) : Bool :=
  decide (r = 0x000 ∨ r = 0x002 ∨ r = 0x005 ∨ r = 0x006 ∨ r = 0x00A ∨ r = 0x00B ∨ r = 0x00C ∨ r = 0x00F
    ∨ (0x010 ≤ r ∧ r ≤ 0x01E) ∨ (0x040 ≤ r ∧ r ≤ 0x043) ∨ r = 0x080 ∨ r = 0x081)

/-- SYSRD and SYSWR: the number is in the table, and the register field of the other width is zero (R107). -/
def sysRegCheck (s : BitVec 5) (a : BitVec 4) (r : BitVec 9) : Option IllegalReason :=
  if sysReg64 r.toNat then checkThat .reservedField (decide (s = 0))
  else if sysReg32 r.toNat then checkThat .reservedField (decide (a = 0))
  else some .systemRegister

/-- VCVT: no lat8, different types, nf8 on one side at most, and fidx only for it (R129). -/
def vcvtCheck (x y : BitVec 4) (f : BitVec 3) : Option IllegalReason :=
  if ¬ (x.toNat ≤ 10 ∧ y.toNat ≤ 10 ∧ x ≠ y) then some .typeCode
  else checkThat .formatIndex (decide (x = 10 ∨ y = 10 ∨ f = 0))

/-- The scalar form of IOP: not the divisions, and CLZ and POPC leave sb reserved (R30, R77). -/
def viopCheck (b : BitVec 5) (f : BitVec 7) : Option IllegalReason :=
  if 0x15 < f.toNat ∨ (0x05 ≤ f.toNat ∧ f.toNat ≤ 0x08) then some .functionCode
  else checkThat .reservedField (decide (f.toNat < 0x14 ∨ b = 0))

/-- The scalar form of FOP: not FDIV and FSQRT, and FCVT takes codes 0 to 7 (R30, R83). -/
def vfopCheck (b : BitVec 5) (f : BitVec 7) : Option IllegalReason :=
  if 0x08 < f.toNat ∨ f.toNat = 3 ∨ f.toNat = 4 then some .functionCode
  else checkThat .functionCode (decide (f.toNat < 8 ∨ b.toNat ≤ 7))

/-- MZERO: a format, tiles up to acc63, and whole FP64 pairs (R176). -/
def mzeroCheck (c : BitVec 6) (s : BitVec 3) (f : BitVec 2) : Option IllegalReason :=
  checkThat .accumulator (decide (f ≠ 3 ∧ c.toNat + s.toNat ≤ 63 ∧ (f = 2 → c.toNat % 2 = 0 ∧ s.toNat % 2 = 1)))

/-- The decode checks of an instruction's own fields; `none` when it passes them all. -/
def Instr.decodeCheck : Instr → Option IllegalReason
  | .nop _ => none
  | .add _ _ _ _ => none
  | .sub _ _ _ _ => none
  | .mul _ _ _ _ => none
  | .mulh _ _ _ _ => none
  | .mulhz _ _ _ _ => none
  | .div _ _ _ _ => none
  | .divz _ _ _ _ => none
  | .rem _ _ _ _ => none
  | .remz _ _ _ _ => none
  | .and _ _ _ _ => none
  | .or _ _ _ _ => none
  | .xor _ _ _ _ => none
  | .andn _ _ _ _ => none
  | .shl _ _ _ _ => none
  | .shr _ _ _ _ => none
  | .sra _ _ _ _ => none
  | .min _ _ _ _ => none
  | .max _ _ _ _ => none
  | .minz _ _ _ _ => none
  | .maxz _ _ _ _ => none
  | .clz _ _ _ => none
  | .popc _ _ _ => none
  | .addi _ _ _ _ => none
  | .andi _ _ _ _ => none
  | .ori _ _ _ _ => none
  | .xori _ _ _ _ => none
  | .shli _ _ _ _ => none
  | .shri _ _ _ _ => none
  | .srai _ _ _ _ => none
  | .movi _ _ _ => none
  | .movhi _ _ _ => none
  | .sel _ _ _ _ _ => none
  | .cmp _ k c _ _ => checkPair k (checkThat .conditionCode (decide (c.toNat ≤ 5)))
  | .cmpi _ k c _ _ => checkPair k (checkThat .conditionCode (decide (c.toNat ≤ 5)))
  | .fadd _ _ _ _ => none
  | .fsub _ _ _ _ => none
  | .fmul _ _ _ _ => none
  | .fdiv _ _ _ _ => none
  | .fsqrt _ _ _ => none
  | .fmin _ _ _ _ => none
  | .fmax _ _ _ _ => none
  | .fsgn _ _ _ _ => none
  | .fcvtF32S32 _ _ _ => none
  | .fcvtF32Z32 _ _ _ => none
  | .fcvtS32F32 _ _ _ => none
  | .fcvtZ32F32 _ _ _ => none
  | .fcvtF32F16 _ _ _ => none
  | .fcvtF32Bf16 _ _ _ => none
  | .fcvtF16F32 _ _ _ => none
  | .fcvtBf16F32 _ _ _ => none
  | .ffma _ _ _ _ _ => none
  | .fcmp _ k c _ _ => checkPair k (checkThat .conditionCode (decide (c.toNat ≤ 3)))
  | .pand _ _ _ _ => none
  | .por _ _ _ _ => none
  | .pxor _ _ _ _ => none
  | .pmov _ _ _ => none
  | .ppack _ a _ => checkThat .predicateRange (decide (a.toNat ≤ 8))
  | .punpk _ d _ => checkThat .predicateRange (decide (d.toNat ≤ 8))
  | .aadd _ _ _ _ => none
  | .aaddi _ _ _ _ => none
  | .amov _ _ _ => none
  | .amovHi _ _ _ => none
  | .atos _ _ _ => none
  | .atosHi _ _ _ => none
  | .atag _ _ _ _ => none
  | .br _ _ => none
  | .brl _ _ => none
  | .jr _ _ => none
  | .jrl _ _ => none
  | .ret _ _ => none
  | .ibsw _ _ => none
  | .ifence _ => none
  | .lset _ _ _ _ l => checkThat .levelCount (decide (l.toNat ≤ 5))
  | .lbody _ _ => none
  | .lexit _ k => checkThat .levelCount (decide (1 ≤ k.toNat ∧ k.toNat ≤ 6))
  | .nset _ _ _ _ => none
  | .bwait _ _ _ _ => none
  | .evpop _ _ _ p _ => checkThat .predicatePair (decide (p.toNat % 2 = 0 ∧ p ≠ 0))
  | .evwait _ => none
  | .sync _ _ => none
  | .gdrop _ _ => none
  | .yield _ => none
  | .qpop _ _ _ p _ => checkThat .predicatePair (decide (p.toNat % 2 = 0 ∧ p ≠ 0))
  | .qpopB _ _ _ p _ => checkThat .predicatePair (decide (p.toNat % 2 = 0 ∧ p ≠ 0))
  | .qpush _ _ _ _ => none
  | .leave _ => none
  | .trap _ _ => none
  | .eret _ => none
  | .eretD _ => none
  | .sysrd _ s a r => sysRegCheck s a r
  | .syswr _ s a r => sysRegCheck s a r
  | .contain _ _ _ _ => none
  | .uncontain _ => none
  | .dchk _ _ _ => none
  | .cycrd _ _ _ => none
  | .cycrdW _ _ _ => none
  | .snop _ n => checkThat .zeroCount (decide (n ≠ 0))
  | .halt _ => none
  | .vadd _ _ _ _ _ t => checkThat .typeCode (isInt t || isFloat t)
  | .vsub _ _ _ _ _ t => checkThat .typeCode (isInt t || isFloat t)
  | .vmul _ _ _ _ _ t => checkThat .typeCode (isInt t || isFloat t)
  | .vfma _ _ _ _ _ t => checkThat .typeCode (isInt t || isFloat t)
  | .vfms _ _ _ _ _ t => checkThat .typeCode (isInt t || isFloat t)
  | .vmin _ _ _ _ _ t => checkThat .typeCode (isInt t || isFloat t)
  | .vmax _ _ _ _ _ t => checkThat .typeCode (isInt t || isFloat t)
  | .vabs _ _ _ _ t => checkThat .typeCode (isInt t || isFloat t)
  | .vneg _ _ _ _ t => checkThat .typeCode (isInt t || isFloat t)
  | .vand _ _ _ _ _ t => checkThat .typeCode (isInt t)
  | .vor _ _ _ _ _ t => checkThat .typeCode (isInt t)
  | .vxor _ _ _ _ _ t => checkThat .typeCode (isInt t)
  | .vandn _ _ _ _ _ t => checkThat .typeCode (isInt t)
  | .vshl _ _ _ _ _ t => checkThat .typeCode (isInt t)
  | .vshr _ _ _ _ _ t => checkThat .typeCode (isInt t)
  | .vsra _ _ _ _ _ t => checkThat .typeCode (isInt t)
  | .vcmp _ k c _ _ _ t => checkThird (decide (1 ≤ k.toNat)) .predicatePair (isInt t || isFloat t) .typeCode (decide (c.toNat ≤ 5) && (isInt t || decide (c.toNat ≤ 3))) .conditionCode
  | .vsel _ _ _ _ _ t => checkThat .typeCode (isInt t || isFloat t)
  | .vmov _ _ _ _ t => checkThat .typeCode (isInt t || isFloat t)
  | .vbcast _ _ _ _ t => checkThat .typeCode (isInt t)
  | .vext _ _ _ _ t => checkThat .typeCode (isInt t)
  | .vins _ _ _ _ t => checkThat .typeCode (isInt t)
  | .vperm _ _ _ _ _ t => checkThat .typeCode (isInt t)
  | .vshuf _ _ _ _ p t => checkBoth .typeCode (isInt t) .pattern (decide (p.toNat ≤ 3))
  | .vrot _ _ _ _ _ t => checkThat .typeCode (isInt t)
  | .vreds _ _ _ _ t => checkThat .typeCode (isInt t || isFloat t)
  | .vredmMax _ _ _ _ t => checkThat .typeCode (isInt t || isFloat t)
  | .vredmMin _ _ _ _ t => checkThat .typeCode (isInt t || isFloat t)
  | .vdot _ _ _ _ _ t => checkThat .typeCode (decide (t = 0 ∨ t = 1 ∨ t = 3 ∨ t = 4 ∨ t = 6 ∨ t = 7))
  | .vcvt _ _ _ x y f => vcvtCheck x y f
  | .vrnd _ _ _ m _ t => checkBoth .typeCode (isFloat t) .roundingMode (decide (m.toNat ≤ 4))
  | .vexp2 _ _ _ _ t => checkThat .typeCode (decide (t = 8))
  | .vlog2 _ _ _ _ t => checkThat .typeCode (decide (t = 8))
  | .vrcp _ _ _ _ t => checkThat .typeCode (decide (t = 8))
  | .vrsq _ _ _ _ t => checkThat .typeCode (decide (t = 8))
  | .vqnt _ _ a _ _ _ x => checkBoth .ordinaryFormat (decide (x ≠ 3)) .registerGroup (decide (a.toNat % groupSize x = 0))
  | .vdql _ d _ _ _ _ x => checkBoth .ordinaryFormat (decide (x ≠ 3)) .registerGroup (decide (d.toNat % groupSize x = 0))
  | .vlins _ _ a _ _ _ x => checkBoth .ordinaryFormat (decide (x ≠ 3)) .registerGroup (decide (a.toNat % 2 = 0))
  | .vlext _ _ _ b _ _ x => checkBoth .ordinaryFormat (decide (x ≠ 3)) .registerGroup (decide (b.toNat % 2 = 0))
  | .vlnrm _ _ _ b _ _ => checkThat .registerGroup (decide (b.toNat % 2 = 0))
  | .vtrw _ _ _ _ t f => checkBoth .typeCode (isInt t || decide (t = 6 ∨ t = 7 ∨ t = 8 ∨ t = 10)) .formatIndex (decide (t = 10 ∨ f = 0))
  | .vtrr _ _ _ _ t f => checkBoth .typeCode (isInt t || decide (t = 6 ∨ t = 7 ∨ t = 8 ∨ t = 10)) .formatIndex (decide (t = 10 ∨ f = 0))
  | .vtcw _ _ _ _ t f => checkBoth .typeCode (isInt t || decide (t = 6 ∨ t = 7 ∨ t = 8 ∨ t = 10)) .formatIndex (decide (t = 10 ∨ f = 0))
  | .vtcr _ _ _ _ t f => checkBoth .typeCode (isInt t || decide (t = 6 ∨ t = 7 ∨ t = 8 ∨ t = 10)) .formatIndex (decide (t = 10 ∨ f = 0))
  | .vacr _ d _ _ t => checkBoth .typeCode (isInt t || isFloat t) .registerGroup (decide (t ≠ 9 ∨ d.toNat % 2 = 0))
  | .vacw _ d _ _ t => checkBoth .typeCode (isInt t || isFloat t) .registerGroup (decide (t ≠ 9 ∨ d.toNat % 2 = 0))
  | .vdchk _ _ _ _ t => checkThat .typeCode (decide (t.toNat ≤ 11))
  | .viop _ _ _ b f => viopCheck b f
  | .vfop _ _ _ b f => vfopCheck b f
  | .ld _ _ _ z _ => checkThat .accessSize (decide (z.toNat ≤ 4))
  | .st _ _ _ z _ => checkThat .accessSize (decide (z = 0 ∨ z = 2 ∨ z = 4))
  | .ldv _ _ _ _ => none
  | .stv _ _ _ _ => none
  | .ldvs _ _ _ _ => none
  | .stvs _ _ _ _ => none
  | .ldvx _ _ _ _ => none
  | .stvx _ _ _ _ => none
  | .ldf _ _ _ _ => none
  | .ste _ _ _ _ => none
  | .fesetF _ _ _ => none
  | .fesetE _ _ _ => none
  | .lda _ _ _ _ => none
  | .sta _ _ _ _ => none
  | .wldm _ _ _ => none
  | .wldv _ _ _ _ => none
  | .wldd _ _ _ _ => none
  | .wattr _ _ _ => none
  | .wst _ _ => none
  | .mcfg _ _ => none
  | .mcfgR _ _ => none
  | .mma _ _ _ _ _ s _ => checkThat .levelCount (decide (s.toNat ≤ 5))
  | .mmas _ _ _ _ _ _ _ => none
  | .mmv _ _ _ _ _ _ => none
  | .mzero _ c s f => mzeroCheck c s f
  | .mlat _ _ _ _ => none
  | .mstop _ => none
  | .cpy _ _ _ _ _ _ _ => none
  | .cpyd _ _ _ _ _ _ => none
  | .pub _ _ _ => none
  | .pubDef _ _ _ _ _ => none
  | .pubClr _ _ => none
  | .drain _ _ _ _ => none
  | .xfence _ _ _ => none
  | .amoAdd _ _ _ _ _ => none
  | .amoMin _ _ _ _ _ => none
  | .amoMax _ _ _ _ _ => none
  | .amoAnd _ _ _ _ _ => none
  | .amoOr _ _ _ _ _ => none
  | .amoXor _ _ _ _ _ => none
  | .amoSwap _ _ _ _ _ => none
  | .amoCas _ _ _ _ _ => none
  | .redAddF32 _ _ _ _ _ => none
  | .redAddF64 _ _ _ _ _ => none
  | .redAddS32 _ _ _ _ _ => none
  | .redMaxF32 _ _ _ _ _ => none
  | .redMinF32 _ _ _ _ _ => none
  | .gath _ _ f _ _ _ _ => checkThat .pointerRegister (decide (f ≠ 15))
  | .scat _ d _ _ _ _ => checkThat .pointerRegister (decide (d ≠ 15))
  | .pfl2 _ _ _ => none
  | .cwbWb _ _ _ _ => none
  | .cwbWbi _ _ _ _ => none
  | .cwbInv _ _ _ _ => none
  | .kvld _ _ _ _ _ _ _ => none
  | .kvapp _ _ _ _ _ _ => none
  | .kvfork _ _ _ _ _ => none
  | .kvrel _ _ _ _ => none
  | .wprog _ _ _ _ _ _ => none
  | .wprogAttr _ _ _ _ _ => none
  | .wfence _ => none
  | .whash _ _ _ _ _ _ => none
  | .binit _ _ _ _ => none
  | .bexp _ _ _ _ _ => none
  | .barr _ _ _ _ _ => none
  | .bdrop _ _ _ _ => none
  | .migr _ _ _ _ _ _ => none
  | .qcrt _ _ _ _ _ => none
  | .qdel _ _ _ => none
  | .bundleIssue => none
  | .exposedResultLand => none
  | .waitEnd => none
  | .feFreezeTimeout => none
  | .quantumExpiry => none
  | .contextSwitch => none
  | .trapEntry => none
  | .serviceRequest => none
  | .preemption => none
  | .contextResume => none
  | .syncRestart => none
  | .syncTimeout => none
  | .matrixCommit => none
  | .mmasCommit => none
  | .commandAbandon => none
  | .operationComplete => none
  | .operationFault => none
  | .barrierOrderedAction => none
  | .pubPerform => none
  | .cpydDeadline => none
  | .eventRecordEnqueue => none
  | .reductionApply => none
  | .containmentPublish => none
  | .monitorWake => none
  | .walkRetry => none
  | .migrationCommit => none
  | .migrationAbandon => none
  | .arbiterGrant => none
  | .wprogRowStart => none
  | .programPhaseEnd => none
  | .wprogCompletion => none
  | .attrCommit => none
  | .whashCompletion => none
  | .queueDestroy => none
  | .hostTailWrite _ _ => none
  | .hostApertureAccess _ _ _ => none
  | .launchDescriptorPop => none
  | .placementPass => none
  | .contextStart => none
  | .launchCompletion => none
  | .noticeItemDelivery => none
  | .leaseStart => none
  | .leaseGrant => none
  | .grantDeadline => none
  | .leasePrepared => none
  | .leaseScrubDone => none
  | .leaseTestEnd => none
  | .clockStretch _ _ => none
  | .thermalShutdown => none
  | .powerOn => none
  | .reset => none
  | .powerLoss => none
  | .imageRootFormed => none
  | .packageDump => none
  | .getVersion _ => none
  | .getCapabilities _ => none
  | .negotiateAlgorithms _ _ _ _ _ _ => none
  | .getDigests _ => none
  | .getCertificate _ _ => none
  | .challenge _ _ => none
  | .getMeasurements _ _ => none
  | .keyExchange _ _ => none
  | .finish _ => none
  | .unsupportedRequest _ _ => none
  | .sessionEnd _ => none
  | .getState _ _ => none
  | .lock _ _ => none
  | .getReport _ _ => none
  | .start _ _ _ => none
  | .stop _ _ => none
  | .ptRegisterWrite _ _ _ _ => none
  | .partitionScrubDone => none
  | .mgWpmoveWrite _ => none
  | .wpageMoveDone => none
  | .mgRemeasWrite _ => none
  | .mgThermRead => none
  | .managementWrite _ _ => none
  | .fabricAck _ _ => none
  | .laneWidthChange _ _ _ => none
  | .startStepComplete => none
  | .walkComplete => none
  | .loadPipeDataArrival => none
  | .handleEntryArrival => none
  | .imageWriteDrained => none
  | .fabricFlitReceived _ _ _ _ => none

end Sys2Proof
end

