-- ==== Sys2Proof/WellFormed.lean ====
section
/-! DEFINITION. The instructions a program may hold: those whose fields pass the decode checks (R20). -/
namespace Sys2Proof

/-- An instruction is well formed when decode has no ILLEGAL reason for its fields. -/
def Instr.wf (i : Instr) : Bool := i.decodeCheck.isNone

end Sys2Proof
end

