-- ==== Sys2Proof/Decode.lean ====
section
/-! DEFINITION. Slot words to instructions and back (R16, R20, R23 to R34, spec/opcode_table.json), stored bundles
(R39), and the host's reading of a table word. Decoding is total and refuses by name; the checks of an instruction's
own field values (type codes, condition codes, register alignment) are those of `Instr.decodeCheck`. -/
namespace Sys2Proof

/-- Why a slot word is no instruction. Each traps ILLEGAL (R11, R19, R20). -/
inductive DecodeError where
  /-- The opcode names a reserved cell of the slot's map (R20). -/
  | reservedCell
  /-- A reserved function code, or a non-zero reserved field (R11, R20). -/
  | reservedField
  deriving DecidableEq, Repr

/-- Bits `[lo + len - 1 : lo]` of a slot word. -/
abbrev bits (w : Word) (lo len : Nat) : BitVec len := w.extractLsb' lo len

/-- The primary opcode of a slot word (R16). -/
def opOf (w : Word) : BitVec 6 := bits w 22 6

/-- The guard field of a slot word (R16). -/
def guardOf (w : Word) : BitVec 4 := bits w 28 4

/-- Opcode 0x00 of every class (R19). -/
def decodeNop (w : Word) : Except DecodeError Instr :=
  if bits w 0 22 = 0 then .ok (.nop (guardOf w)) else .error .reservedField

/-- Cell 0x01 of the S slot (R29): ADD, SUB, MUL, MULH, MULHZ, DIV, DIVZ, REM, REMZ, AND, OR, XOR, ANDN, SHL, SHR, SRA, MIN, MAX, MINZ, MAXZ, CLZ, POPC. -/
def decodeS01 (w : Word) : Except DecodeError Instr :=
  if bits w 0 7 = 0 then .ok (.add (bits w 28 4) (bits w 17 5) (bits w 12 5) (bits w 7 5))
  else if bits w 0 7 = 1 then .ok (.sub (bits w 28 4) (bits w 17 5) (bits w 12 5) (bits w 7 5))
  else if bits w 0 7 = 2 then .ok (.mul (bits w 28 4) (bits w 17 5) (bits w 12 5) (bits w 7 5))
  else if bits w 0 7 = 3 then .ok (.mulh (bits w 28 4) (bits w 17 5) (bits w 12 5) (bits w 7 5))
  else if bits w 0 7 = 4 then .ok (.mulhz (bits w 28 4) (bits w 17 5) (bits w 12 5) (bits w 7 5))
  else if bits w 0 7 = 5 then .ok (.div (bits w 28 4) (bits w 17 5) (bits w 12 5) (bits w 7 5))
  else if bits w 0 7 = 6 then .ok (.divz (bits w 28 4) (bits w 17 5) (bits w 12 5) (bits w 7 5))
  else if bits w 0 7 = 7 then .ok (.rem (bits w 28 4) (bits w 17 5) (bits w 12 5) (bits w 7 5))
  else if bits w 0 7 = 8 then .ok (.remz (bits w 28 4) (bits w 17 5) (bits w 12 5) (bits w 7 5))
  else if bits w 0 7 = 9 then .ok (.and (bits w 28 4) (bits w 17 5) (bits w 12 5) (bits w 7 5))
  else if bits w 0 7 = 10 then .ok (.or (bits w 28 4) (bits w 17 5) (bits w 12 5) (bits w 7 5))
  else if bits w 0 7 = 11 then .ok (.xor (bits w 28 4) (bits w 17 5) (bits w 12 5) (bits w 7 5))
  else if bits w 0 7 = 12 then .ok (.andn (bits w 28 4) (bits w 17 5) (bits w 12 5) (bits w 7 5))
  else if bits w 0 7 = 13 then .ok (.shl (bits w 28 4) (bits w 17 5) (bits w 12 5) (bits w 7 5))
  else if bits w 0 7 = 14 then .ok (.shr (bits w 28 4) (bits w 17 5) (bits w 12 5) (bits w 7 5))
  else if bits w 0 7 = 15 then .ok (.sra (bits w 28 4) (bits w 17 5) (bits w 12 5) (bits w 7 5))
  else if bits w 0 7 = 16 then .ok (.min (bits w 28 4) (bits w 17 5) (bits w 12 5) (bits w 7 5))
  else if bits w 0 7 = 17 then .ok (.max (bits w 28 4) (bits w 17 5) (bits w 12 5) (bits w 7 5))
  else if bits w 0 7 = 18 then .ok (.minz (bits w 28 4) (bits w 17 5) (bits w 12 5) (bits w 7 5))
  else if bits w 0 7 = 19 then .ok (.maxz (bits w 28 4) (bits w 17 5) (bits w 12 5) (bits w 7 5))
  else if bits w 0 12 = 20 then .ok (.clz (bits w 28 4) (bits w 17 5) (bits w 12 5))
  else if bits w 0 12 = 21 then .ok (.popc (bits w 28 4) (bits w 17 5) (bits w 12 5))
  else .error .reservedField

/-- Cell 0x06 of the S slot (R29): SHLI. -/
def decodeS06 (w : Word) : Except DecodeError Instr :=
  if bits w 5 7 = 0 then .ok (.shli (bits w 28 4) (bits w 17 5) (bits w 12 5) (bits w 0 5))
  else .error .reservedField

/-- Cell 0x07 of the S slot (R29): SHRI. -/
def decodeS07 (w : Word) : Except DecodeError Instr :=
  if bits w 5 7 = 0 then .ok (.shri (bits w 28 4) (bits w 17 5) (bits w 12 5) (bits w 0 5))
  else .error .reservedField

/-- Cell 0x08 of the S slot (R29): SRAI. -/
def decodeS08 (w : Word) : Except DecodeError Instr :=
  if bits w 5 7 = 0 then .ok (.srai (bits w 28 4) (bits w 17 5) (bits w 12 5) (bits w 0 5))
  else .error .reservedField

/-- Cell 0x0A of the S slot (R29): MOVHI. -/
def decodeS0A (w : Word) : Except DecodeError Instr :=
  if bits w 16 1 = 0 then .ok (.movhi (bits w 28 4) (bits w 17 5) (bits w 0 16))
  else .error .reservedField

/-- Cell 0x0B of the S slot (R29): SEL. -/
def decodeS0B (w : Word) : Except DecodeError Instr :=
  if bits w 0 3 = 0 then .ok (.sel (bits w 28 4) (bits w 17 5) (bits w 12 5) (bits w 7 5) (bits w 3 4))
  else .error .reservedField

/-- Cell 0x0C of the S slot (R29): CMP. -/
def decodeS0C (w : Word) : Except DecodeError Instr :=
  if bits w 0 6 = 0 then .ok (.cmp (bits w 28 4) (bits w 19 3) (bits w 16 3) (bits w 11 5) (bits w 6 5))
  else .error .reservedField

/-- Cell 0x0E of the S slot (R29): FADD, FSUB, FMUL, FDIV, FSQRT, FMIN, FMAX, FSGN, FCVT_F32_S32, FCVT_F32_Z32, FCVT_S32_F32, FCVT_Z32_F32, FCVT_F32_F16, FCVT_F32_BF16, FCVT_F16_F32, FCVT_BF16_F32. -/
def decodeS0E (w : Word) : Except DecodeError Instr :=
  if bits w 0 7 = 0 then .ok (.fadd (bits w 28 4) (bits w 17 5) (bits w 12 5) (bits w 7 5))
  else if bits w 0 7 = 1 then .ok (.fsub (bits w 28 4) (bits w 17 5) (bits w 12 5) (bits w 7 5))
  else if bits w 0 7 = 2 then .ok (.fmul (bits w 28 4) (bits w 17 5) (bits w 12 5) (bits w 7 5))
  else if bits w 0 7 = 3 then .ok (.fdiv (bits w 28 4) (bits w 17 5) (bits w 12 5) (bits w 7 5))
  else if bits w 0 12 = 4 then .ok (.fsqrt (bits w 28 4) (bits w 17 5) (bits w 12 5))
  else if bits w 0 7 = 5 then .ok (.fmin (bits w 28 4) (bits w 17 5) (bits w 12 5) (bits w 7 5))
  else if bits w 0 7 = 6 then .ok (.fmax (bits w 28 4) (bits w 17 5) (bits w 12 5) (bits w 7 5))
  else if bits w 0 7 = 7 then .ok (.fsgn (bits w 28 4) (bits w 17 5) (bits w 12 5) (bits w 7 5))
  else if bits w 0 12 = 8 then .ok (.fcvtF32S32 (bits w 28 4) (bits w 17 5) (bits w 12 5))
  else if bits w 0 12 = 136 then .ok (.fcvtF32Z32 (bits w 28 4) (bits w 17 5) (bits w 12 5))
  else if bits w 0 12 = 264 then .ok (.fcvtS32F32 (bits w 28 4) (bits w 17 5) (bits w 12 5))
  else if bits w 0 12 = 392 then .ok (.fcvtZ32F32 (bits w 28 4) (bits w 17 5) (bits w 12 5))
  else if bits w 0 12 = 520 then .ok (.fcvtF32F16 (bits w 28 4) (bits w 17 5) (bits w 12 5))
  else if bits w 0 12 = 648 then .ok (.fcvtF32Bf16 (bits w 28 4) (bits w 17 5) (bits w 12 5))
  else if bits w 0 12 = 776 then .ok (.fcvtF16F32 (bits w 28 4) (bits w 17 5) (bits w 12 5))
  else if bits w 0 12 = 904 then .ok (.fcvtBf16F32 (bits w 28 4) (bits w 17 5) (bits w 12 5))
  else .error .reservedField

/-- Cell 0x0F of the S slot (R29): FFMA. -/
def decodeS0F (w : Word) : Except DecodeError Instr :=
  if bits w 0 2 = 0 then .ok (.ffma (bits w 28 4) (bits w 17 5) (bits w 12 5) (bits w 7 5) (bits w 2 5))
  else .error .reservedField

/-- Cell 0x10 of the S slot (R29): FCMP. -/
def decodeS10 (w : Word) : Except DecodeError Instr :=
  if bits w 0 6 = 0 then .ok (.fcmp (bits w 28 4) (bits w 19 3) (bits w 16 3) (bits w 11 5) (bits w 6 5))
  else .error .reservedField

/-- Cell 0x11 of the S slot (R29): PAND, POR, PXOR, PMOV, PPACK, PUNPK. -/
def decodeS11 (w : Word) : Except DecodeError Instr :=
  if bits w 0 10 = 0 then .ok (.pand (bits w 28 4) (bits w 18 4) (bits w 14 4) (bits w 10 4))
  else if bits w 0 10 = 1 then .ok (.por (bits w 28 4) (bits w 18 4) (bits w 14 4) (bits w 10 4))
  else if bits w 0 10 = 2 then .ok (.pxor (bits w 28 4) (bits w 18 4) (bits w 14 4) (bits w 10 4))
  else if bits w 0 14 = 3 then .ok (.pmov (bits w 28 4) (bits w 18 4) (bits w 14 4))
  else if bits w 18 4 = 0 ∧ bits w 10 4 = 0 ∧ bits w 0 5 = 4 then .ok (.ppack (bits w 28 4) (bits w 14 4) (bits w 5 5))
  else if bits w 10 8 = 0 ∧ bits w 0 5 = 5 then .ok (.punpk (bits w 28 4) (bits w 18 4) (bits w 5 5))
  else .error .reservedField

/-- Cell 0x12 of the S slot (R29): AADD. -/
def decodeS12 (w : Word) : Except DecodeError Instr :=
  if bits w 0 9 = 0 then .ok (.aadd (bits w 28 4) (bits w 18 4) (bits w 14 4) (bits w 9 5))
  else .error .reservedField

/-- Cell 0x14 of the S slot (R29): AMOV, AMOV_HI. -/
def decodeS14 (w : Word) : Except DecodeError Instr :=
  if bits w 14 4 = 0 ∧ bits w 0 9 = 0 then .ok (.amov (bits w 28 4) (bits w 18 4) (bits w 9 5))
  else if bits w 14 4 = 1 ∧ bits w 0 9 = 0 then .ok (.amovHi (bits w 28 4) (bits w 18 4) (bits w 9 5))
  else .error .reservedField

/-- Cell 0x15 of the S slot (R29): ATOS, ATOS_HI. -/
def decodeS15 (w : Word) : Except DecodeError Instr :=
  if bits w 18 4 = 0 ∧ bits w 0 9 = 0 then .ok (.atos (bits w 28 4) (bits w 14 4) (bits w 9 5))
  else if bits w 18 4 = 1 ∧ bits w 0 9 = 0 then .ok (.atosHi (bits w 28 4) (bits w 14 4) (bits w 9 5))
  else .error .reservedField

/-- Cell 0x16 of the S slot (R29): ATAG. -/
def decodeS16 (w : Word) : Except DecodeError Instr :=
  if bits w 0 9 = 0 then .ok (.atag (bits w 28 4) (bits w 18 4) (bits w 14 4) (bits w 9 5))
  else .error .reservedField

/-- Cell 0x1A of the S slot (R29): JR. -/
def decodeS1A (w : Word) : Except DecodeError Instr :=
  if bits w 0 18 = 0 then .ok (.jr (bits w 28 4) (bits w 18 4))
  else .error .reservedField

/-- Cell 0x1B of the S slot (R29): JRL. -/
def decodeS1B (w : Word) : Except DecodeError Instr :=
  if bits w 0 18 = 0 then .ok (.jrl (bits w 28 4) (bits w 18 4))
  else .error .reservedField

/-- Cell 0x1C of the S slot (R29): RET. -/
def decodeS1C (w : Word) : Except DecodeError Instr :=
  if bits w 0 18 = 0 then .ok (.ret (bits w 28 4) (bits w 18 4))
  else .error .reservedField

/-- Cell 0x1E of the S slot (R29): IFENCE. -/
def decodeS1E (w : Word) : Except DecodeError Instr :=
  if bits w 0 22 = 0 then .ok (.ifence (bits w 28 4))
  else .error .reservedField

/-- Cell 0x20 of the S slot (R29): LSET. -/
def decodeS20 (w : Word) : Except DecodeError Instr :=
  if bits w 20 2 = 0 ∧ bits w 3 6 = 0 then .ok (.lset (bits w 28 4) (bits w 17 3) (bits w 13 4) (bits w 9 4) (bits w 0 3))
  else .error .reservedField

/-- Cell 0x21 of the S slot (R29): LBODY. -/
def decodeS21 (w : Word) : Except DecodeError Instr :=
  if bits w 6 16 = 0 then .ok (.lbody (bits w 28 4) (bits w 0 6))
  else .error .reservedField

/-- Cell 0x22 of the S slot (R29): LEXIT. -/
def decodeS22 (w : Word) : Except DecodeError Instr :=
  if bits w 3 19 = 0 then .ok (.lexit (bits w 28 4) (bits w 0 3))
  else .error .reservedField

/-- Cell 0x23 of the S slot (R29): NSET. -/
def decodeS23 (w : Word) : Except DecodeError Instr :=
  if bits w 20 2 = 0 ∧ bits w 9 4 = 0 then .ok (.nset (bits w 28 4) (bits w 17 3) (bits w 13 4) (bits w 0 9))
  else .error .reservedField

/-- Cell 0x24 of the S slot (R29): BWAIT. -/
def decodeS24 (w : Word) : Except DecodeError Instr :=
  if bits w 17 5 = 0 ∧ bits w 9 4 = 0 then .ok (.bwait (bits w 28 4) (bits w 13 4) (bits w 1 8) (bits w 0 1))
  else .error .reservedField

/-- Cell 0x26 of the S slot (R29): EVWAIT. -/
def decodeS26 (w : Word) : Except DecodeError Instr :=
  if bits w 0 22 = 0 then .ok (.evwait (bits w 28 4))
  else .error .reservedField

/-- Cell 0x27 of the S slot (R29): SYNC. -/
def decodeS27 (w : Word) : Except DecodeError Instr :=
  if bits w 8 14 = 0 then .ok (.sync (bits w 28 4) (bits w 0 8))
  else .error .reservedField

/-- Cell 0x28 of the S slot (R29): GDROP. -/
def decodeS28 (w : Word) : Except DecodeError Instr :=
  if bits w 8 14 = 0 then .ok (.gdrop (bits w 28 4) (bits w 0 8))
  else .error .reservedField

/-- Cell 0x29 of the S slot (R29): YIELD. -/
def decodeS29 (w : Word) : Except DecodeError Instr :=
  if bits w 0 22 = 0 then .ok (.yield (bits w 28 4))
  else .error .reservedField

/-- Cell 0x2A of the S slot (R29): QPOP, QPOP_B. -/
def decodeS2A (w : Word) : Except DecodeError Instr :=
  if bits w 0 1 = 0 then .ok (.qpop (bits w 28 4) (bits w 17 5) (bits w 13 4) (bits w 9 4) (bits w 1 8))
  else if bits w 0 1 = 1 then .ok (.qpopB (bits w 28 4) (bits w 17 5) (bits w 13 4) (bits w 9 4) (bits w 1 8))
  else .error .reservedField

/-- Cell 0x2B of the S slot (R29): QPUSH. -/
def decodeS2B (w : Word) : Except DecodeError Instr :=
  if bits w 9 4 = 0 ∧ bits w 0 1 = 0 then .ok (.qpush (bits w 28 4) (bits w 17 5) (bits w 13 4) (bits w 1 8))
  else .error .reservedField

/-- Cell 0x2C of the S slot (R29): LEAVE. -/
def decodeS2C (w : Word) : Except DecodeError Instr :=
  if bits w 0 22 = 0 then .ok (.leave (bits w 28 4))
  else .error .reservedField

/-- Cell 0x30 of the S slot (R29): TRAP. -/
def decodeS30 (w : Word) : Except DecodeError Instr :=
  if bits w 8 14 = 0 then .ok (.trap (bits w 28 4) (bits w 0 8))
  else .error .reservedField

/-- Cell 0x31 of the S slot (R29): ERET, ERET_D. -/
def decodeS31 (w : Word) : Except DecodeError Instr :=
  if bits w 0 22 = 0 then .ok (.eret (bits w 28 4))
  else if bits w 0 22 = 1 then .ok (.eretD (bits w 28 4))
  else .error .reservedField

/-- Cell 0x32 of the S slot (R29): SYSRD. -/
def decodeS32 (w : Word) : Except DecodeError Instr :=
  if bits w 9 4 = 0 then .ok (.sysrd (bits w 28 4) (bits w 17 5) (bits w 13 4) (bits w 0 9))
  else .error .reservedField

/-- Cell 0x33 of the S slot (R29): SYSWR. -/
def decodeS33 (w : Word) : Except DecodeError Instr :=
  if bits w 9 4 = 0 then .ok (.syswr (bits w 28 4) (bits w 17 5) (bits w 13 4) (bits w 0 9))
  else .error .reservedField

/-- Cell 0x34 of the S slot (R29): CONTAIN. -/
def decodeS34 (w : Word) : Except DecodeError Instr :=
  if bits w 4 9 = 0 then .ok (.contain (bits w 28 4) (bits w 17 5) (bits w 13 4) (bits w 0 4))
  else .error .reservedField

/-- Cell 0x35 of the S slot (R29): UNCONTAIN. -/
def decodeS35 (w : Word) : Except DecodeError Instr :=
  if bits w 0 22 = 0 then .ok (.uncontain (bits w 28 4))
  else .error .reservedField

/-- Cell 0x36 of the S slot (R29): DCHK. -/
def decodeS36 (w : Word) : Except DecodeError Instr :=
  if bits w 17 5 = 0 ∧ bits w 0 7 = 0 then .ok (.dchk (bits w 28 4) (bits w 12 5) (bits w 7 5))
  else .error .reservedField

/-- Cell 0x37 of the S slot (R29): CYCRD, CYCRD_W. -/
def decodeS37 (w : Word) : Except DecodeError Instr :=
  if bits w 1 16 = 0 then .ok (.cycrd (bits w 28 4) (bits w 17 5) (bits w 0 1))
  else if bits w 17 5 = 0 ∧ bits w 1 12 = 1 then .ok (.cycrdW (bits w 28 4) (bits w 13 4) (bits w 0 1))
  else .error .reservedField

/-- Cell 0x38 of the S slot (R29): SNOP. -/
def decodeS38 (w : Word) : Except DecodeError Instr :=
  if bits w 9 13 = 0 then .ok (.snop (bits w 28 4) (bits w 0 9))
  else .error .reservedField

/-- Cell 0x39 of the S slot (R29): HALT. -/
def decodeS39 (w : Word) : Except DecodeError Instr :=
  if bits w 0 22 = 0 then .ok (.halt (bits w 28 4))
  else .error .reservedField

/-- The opcode map of the S slot (R29). -/
def decodeS (w : Word) : Except DecodeError Instr :=
  match (opOf w).toNat with
  | 0x00 => decodeNop w
  | 0x01 => decodeS01 w
  | 0x02 => .ok (.addi (bits w 28 4) (bits w 17 5) (bits w 12 5) (bits w 0 12))
  | 0x03 => .ok (.andi (bits w 28 4) (bits w 17 5) (bits w 12 5) (bits w 0 12))
  | 0x04 => .ok (.ori (bits w 28 4) (bits w 17 5) (bits w 12 5) (bits w 0 12))
  | 0x05 => .ok (.xori (bits w 28 4) (bits w 17 5) (bits w 12 5) (bits w 0 12))
  | 0x06 => decodeS06 w
  | 0x07 => decodeS07 w
  | 0x08 => decodeS08 w
  | 0x09 => .ok (.movi (bits w 28 4) (bits w 17 5) (bits w 0 17))
  | 0x0A => decodeS0A w
  | 0x0B => decodeS0B w
  | 0x0C => decodeS0C w
  | 0x0D => .ok (.cmpi (bits w 28 4) (bits w 19 3) (bits w 16 3) (bits w 11 5) (bits w 0 11))
  | 0x0E => decodeS0E w
  | 0x0F => decodeS0F w
  | 0x10 => decodeS10 w
  | 0x11 => decodeS11 w
  | 0x12 => decodeS12 w
  | 0x13 => .ok (.aaddi (bits w 28 4) (bits w 18 4) (bits w 14 4) (bits w 0 14))
  | 0x14 => decodeS14 w
  | 0x15 => decodeS15 w
  | 0x16 => decodeS16 w
  | 0x18 => .ok (.br (bits w 28 4) (bits w 0 22))
  | 0x19 => .ok (.brl (bits w 28 4) (bits w 0 22))
  | 0x1A => decodeS1A w
  | 0x1B => decodeS1B w
  | 0x1C => decodeS1C w
  | 0x1D => .ok (.ibsw (bits w 28 4) (bits w 0 22))
  | 0x1E => decodeS1E w
  | 0x20 => decodeS20 w
  | 0x21 => decodeS21 w
  | 0x22 => decodeS22 w
  | 0x23 => decodeS23 w
  | 0x24 => decodeS24 w
  | 0x25 => .ok (.evpop (bits w 28 4) (bits w 17 5) (bits w 13 4) (bits w 9 4) (bits w 0 9))
  | 0x26 => decodeS26 w
  | 0x27 => decodeS27 w
  | 0x28 => decodeS28 w
  | 0x29 => decodeS29 w
  | 0x2A => decodeS2A w
  | 0x2B => decodeS2B w
  | 0x2C => decodeS2C w
  | 0x30 => decodeS30 w
  | 0x31 => decodeS31 w
  | 0x32 => decodeS32 w
  | 0x33 => decodeS33 w
  | 0x34 => decodeS34 w
  | 0x35 => decodeS35 w
  | 0x36 => decodeS36 w
  | 0x37 => decodeS37 w
  | 0x38 => decodeS38 w
  | 0x39 => decodeS39 w
  | _ => .error .reservedCell

/-- Cell 0x08 of the V slots (R30): VABS. -/
def decodeV08 (w : Word) : Except DecodeError Instr :=
  if bits w 7 5 = 0 then .ok (.vabs (bits w 28 4) (bits w 17 5) (bits w 12 5) (bits w 4 3) (bits w 0 4))
  else .error .reservedField

/-- Cell 0x09 of the V slots (R30): VNEG. -/
def decodeV09 (w : Word) : Except DecodeError Instr :=
  if bits w 7 5 = 0 then .ok (.vneg (bits w 28 4) (bits w 17 5) (bits w 12 5) (bits w 4 3) (bits w 0 4))
  else .error .reservedField

/-- Cell 0x13 of the V slots (R30): VMOV. -/
def decodeV13 (w : Word) : Except DecodeError Instr :=
  if bits w 7 5 = 0 then .ok (.vmov (bits w 28 4) (bits w 17 5) (bits w 12 5) (bits w 4 3) (bits w 0 4))
  else .error .reservedField

/-- Cell 0x14 of the V slots (R30): VBCAST. -/
def decodeV14 (w : Word) : Except DecodeError Instr :=
  if bits w 7 5 = 0 then .ok (.vbcast (bits w 28 4) (bits w 17 5) (bits w 12 5) (bits w 4 3) (bits w 0 4))
  else .error .reservedField

/-- Cell 0x15 of the V slots (R30): VEXT. -/
def decodeV15 (w : Word) : Except DecodeError Instr :=
  if bits w 4 3 = 0 then .ok (.vext (bits w 28 4) (bits w 17 5) (bits w 12 5) (bits w 7 5) (bits w 0 4))
  else .error .reservedField

/-- Cell 0x16 of the V slots (R30): VINS. -/
def decodeV16 (w : Word) : Except DecodeError Instr :=
  if bits w 4 3 = 0 then .ok (.vins (bits w 28 4) (bits w 17 5) (bits w 12 5) (bits w 7 5) (bits w 0 4))
  else .error .reservedField

/-- Cell 0x1A of the V slots (R30): VREDS. -/
def decodeV1A (w : Word) : Except DecodeError Instr :=
  if bits w 7 5 = 0 then .ok (.vreds (bits w 28 4) (bits w 17 5) (bits w 12 5) (bits w 4 3) (bits w 0 4))
  else .error .reservedField

/-- Cell 0x1B of the V slots (R30): VREDM_MAX, VREDM_MIN. -/
def decodeV1B (w : Word) : Except DecodeError Instr :=
  if bits w 7 5 = 0 then .ok (.vredmMax (bits w 28 4) (bits w 17 5) (bits w 12 5) (bits w 4 3) (bits w 0 4))
  else if bits w 7 5 = 1 then .ok (.vredmMin (bits w 28 4) (bits w 17 5) (bits w 12 5) (bits w 4 3) (bits w 0 4))
  else .error .reservedField

/-- Cell 0x1D of the V slots (R30): VCVT. -/
def decodeV1D (w : Word) : Except DecodeError Instr :=
  if bits w 0 1 = 0 then .ok (.vcvt (bits w 28 4) (bits w 17 5) (bits w 12 5) (bits w 8 4) (bits w 4 4) (bits w 1 3))
  else .error .reservedField

/-- Cell 0x1F of the V slots (R30): VEXP2. -/
def decodeV1F (w : Word) : Except DecodeError Instr :=
  if bits w 7 5 = 0 then .ok (.vexp2 (bits w 28 4) (bits w 17 5) (bits w 12 5) (bits w 4 3) (bits w 0 4))
  else .error .reservedField

/-- Cell 0x20 of the V slots (R30): VLOG2. -/
def decodeV20 (w : Word) : Except DecodeError Instr :=
  if bits w 7 5 = 0 then .ok (.vlog2 (bits w 28 4) (bits w 17 5) (bits w 12 5) (bits w 4 3) (bits w 0 4))
  else .error .reservedField

/-- Cell 0x21 of the V slots (R30): VRCP. -/
def decodeV21 (w : Word) : Except DecodeError Instr :=
  if bits w 7 5 = 0 then .ok (.vrcp (bits w 28 4) (bits w 17 5) (bits w 12 5) (bits w 4 3) (bits w 0 4))
  else .error .reservedField

/-- Cell 0x22 of the V slots (R30): VRSQ. -/
def decodeV22 (w : Word) : Except DecodeError Instr :=
  if bits w 7 5 = 0 then .ok (.vrsq (bits w 28 4) (bits w 17 5) (bits w 12 5) (bits w 4 3) (bits w 0 4))
  else .error .reservedField

/-- Cell 0x27 of the V slots (R30): VLNRM. -/
def decodeV27 (w : Word) : Except DecodeError Instr :=
  if bits w 0 2 = 0 then .ok (.vlnrm (bits w 28 4) (bits w 17 5) (bits w 12 5) (bits w 7 5) (bits w 4 3) (bits w 2 2))
  else .error .reservedField

/-- Cell 0x28 of the V slots (R30): VTRW. -/
def decodeV28 (w : Word) : Except DecodeError Instr :=
  if bits w 0 3 = 0 then .ok (.vtrw (bits w 28 4) (bits w 17 5) (bits w 15 2) (bits w 10 5) (bits w 6 4) (bits w 3 3))
  else .error .reservedField

/-- Cell 0x29 of the V slots (R30): VTRR. -/
def decodeV29 (w : Word) : Except DecodeError Instr :=
  if bits w 0 3 = 0 then .ok (.vtrr (bits w 28 4) (bits w 17 5) (bits w 15 2) (bits w 10 5) (bits w 6 4) (bits w 3 3))
  else .error .reservedField

/-- Cell 0x2A of the V slots (R30): VTCW. -/
def decodeV2A (w : Word) : Except DecodeError Instr :=
  if bits w 0 3 = 0 then .ok (.vtcw (bits w 28 4) (bits w 17 5) (bits w 15 2) (bits w 10 5) (bits w 6 4) (bits w 3 3))
  else .error .reservedField

/-- Cell 0x2B of the V slots (R30): VTCR. -/
def decodeV2B (w : Word) : Except DecodeError Instr :=
  if bits w 0 3 = 0 then .ok (.vtcr (bits w 28 4) (bits w 17 5) (bits w 15 2) (bits w 10 5) (bits w 6 4) (bits w 3 3))
  else .error .reservedField

/-- Cell 0x2C of the V slots (R30): VACR. -/
def decodeV2C (w : Word) : Except DecodeError Instr :=
  if bits w 0 1 = 0 then .ok (.vacr (bits w 28 4) (bits w 17 5) (bits w 11 6) (bits w 5 6) (bits w 1 4))
  else .error .reservedField

/-- Cell 0x2D of the V slots (R30): VACW. -/
def decodeV2D (w : Word) : Except DecodeError Instr :=
  if bits w 0 1 = 0 then .ok (.vacw (bits w 28 4) (bits w 17 5) (bits w 11 6) (bits w 5 6) (bits w 1 4))
  else .error .reservedField

/-- Cell 0x2E of the V slots (R30): VDCHK. -/
def decodeV2E (w : Word) : Except DecodeError Instr :=
  if bits w 17 5 = 0 then .ok (.vdchk (bits w 28 4) (bits w 12 5) (bits w 7 5) (bits w 4 3) (bits w 0 4))
  else .error .reservedField

/-- The opcode map of the V slots (R30). -/
def decodeV (w : Word) : Except DecodeError Instr :=
  match (opOf w).toNat with
  | 0x00 => decodeNop w
  | 0x01 => .ok (.vadd (bits w 28 4) (bits w 17 5) (bits w 12 5) (bits w 7 5) (bits w 4 3) (bits w 0 4))
  | 0x02 => .ok (.vsub (bits w 28 4) (bits w 17 5) (bits w 12 5) (bits w 7 5) (bits w 4 3) (bits w 0 4))
  | 0x03 => .ok (.vmul (bits w 28 4) (bits w 17 5) (bits w 12 5) (bits w 7 5) (bits w 4 3) (bits w 0 4))
  | 0x04 => .ok (.vfma (bits w 28 4) (bits w 17 5) (bits w 12 5) (bits w 7 5) (bits w 4 3) (bits w 0 4))
  | 0x05 => .ok (.vfms (bits w 28 4) (bits w 17 5) (bits w 12 5) (bits w 7 5) (bits w 4 3) (bits w 0 4))
  | 0x06 => .ok (.vmin (bits w 28 4) (bits w 17 5) (bits w 12 5) (bits w 7 5) (bits w 4 3) (bits w 0 4))
  | 0x07 => .ok (.vmax (bits w 28 4) (bits w 17 5) (bits w 12 5) (bits w 7 5) (bits w 4 3) (bits w 0 4))
  | 0x08 => decodeV08 w
  | 0x09 => decodeV09 w
  | 0x0A => .ok (.vand (bits w 28 4) (bits w 17 5) (bits w 12 5) (bits w 7 5) (bits w 4 3) (bits w 0 4))
  | 0x0B => .ok (.vor (bits w 28 4) (bits w 17 5) (bits w 12 5) (bits w 7 5) (bits w 4 3) (bits w 0 4))
  | 0x0C => .ok (.vxor (bits w 28 4) (bits w 17 5) (bits w 12 5) (bits w 7 5) (bits w 4 3) (bits w 0 4))
  | 0x0D => .ok (.vandn (bits w 28 4) (bits w 17 5) (bits w 12 5) (bits w 7 5) (bits w 4 3) (bits w 0 4))
  | 0x0E => .ok (.vshl (bits w 28 4) (bits w 17 5) (bits w 12 5) (bits w 7 5) (bits w 4 3) (bits w 0 4))
  | 0x0F => .ok (.vshr (bits w 28 4) (bits w 17 5) (bits w 12 5) (bits w 7 5) (bits w 4 3) (bits w 0 4))
  | 0x10 => .ok (.vsra (bits w 28 4) (bits w 17 5) (bits w 12 5) (bits w 7 5) (bits w 4 3) (bits w 0 4))
  | 0x11 => .ok (.vcmp (bits w 28 4) (bits w 20 2) (bits w 17 3) (bits w 12 5) (bits w 7 5) (bits w 4 3) (bits w 0 4))
  | 0x12 => .ok (.vsel (bits w 28 4) (bits w 17 5) (bits w 12 5) (bits w 7 5) (bits w 4 3) (bits w 0 4))
  | 0x13 => decodeV13 w
  | 0x14 => decodeV14 w
  | 0x15 => decodeV15 w
  | 0x16 => decodeV16 w
  | 0x17 => .ok (.vperm (bits w 28 4) (bits w 17 5) (bits w 12 5) (bits w 7 5) (bits w 4 3) (bits w 0 4))
  | 0x18 => .ok (.vshuf (bits w 28 4) (bits w 17 5) (bits w 12 5) (bits w 7 5) (bits w 4 3) (bits w 0 4))
  | 0x19 => .ok (.vrot (bits w 28 4) (bits w 17 5) (bits w 12 5) (bits w 7 5) (bits w 4 3) (bits w 0 4))
  | 0x1A => decodeV1A w
  | 0x1B => decodeV1B w
  | 0x1C => .ok (.vdot (bits w 28 4) (bits w 17 5) (bits w 12 5) (bits w 7 5) (bits w 4 3) (bits w 0 4))
  | 0x1D => decodeV1D w
  | 0x1E => .ok (.vrnd (bits w 28 4) (bits w 17 5) (bits w 12 5) (bits w 7 5) (bits w 4 3) (bits w 0 4))
  | 0x1F => decodeV1F w
  | 0x20 => decodeV20 w
  | 0x21 => decodeV21 w
  | 0x22 => decodeV22 w
  | 0x23 => .ok (.vqnt (bits w 28 4) (bits w 17 5) (bits w 12 5) (bits w 7 5) (bits w 4 3) (bits w 2 2) (bits w 0 2))
  | 0x24 => .ok (.vdql (bits w 28 4) (bits w 17 5) (bits w 12 5) (bits w 7 5) (bits w 4 3) (bits w 2 2) (bits w 0 2))
  | 0x25 => .ok (.vlins (bits w 28 4) (bits w 17 5) (bits w 12 5) (bits w 7 5) (bits w 4 3) (bits w 2 2) (bits w 0 2))
  | 0x26 => .ok (.vlext (bits w 28 4) (bits w 17 5) (bits w 12 5) (bits w 7 5) (bits w 4 3) (bits w 2 2) (bits w 0 2))
  | 0x27 => decodeV27 w
  | 0x28 => decodeV28 w
  | 0x29 => decodeV29 w
  | 0x2A => decodeV2A w
  | 0x2B => decodeV2B w
  | 0x2C => decodeV2C w
  | 0x2D => decodeV2D w
  | 0x2E => decodeV2E w
  | 0x2F => .ok (.viop (bits w 28 4) (bits w 17 5) (bits w 12 5) (bits w 7 5) (bits w 0 7))
  | 0x30 => .ok (.vfop (bits w 28 4) (bits w 17 5) (bits w 12 5) (bits w 7 5) (bits w 0 7))
  | _ => .error .reservedCell

/-- Cell 0x03 of the A slot (R31): LDV. -/
def decodeA03 (w : Word) : Except DecodeError Instr :=
  if bits w 10 3 = 0 then .ok (.ldv (bits w 28 4) (bits w 17 5) (bits w 13 4) (bits w 0 10))
  else .error .reservedField

/-- Cell 0x04 of the A slot (R31): STV. -/
def decodeA04 (w : Word) : Except DecodeError Instr :=
  if bits w 10 3 = 0 then .ok (.stv (bits w 28 4) (bits w 17 5) (bits w 13 4) (bits w 0 10))
  else .error .reservedField

/-- Cell 0x05 of the A slot (R31): LDVS. -/
def decodeA05 (w : Word) : Except DecodeError Instr :=
  if bits w 0 8 = 128 then .ok (.ldvs (bits w 28 4) (bits w 17 5) (bits w 13 4) (bits w 8 5))
  else .error .reservedField

/-- Cell 0x06 of the A slot (R31): STVS. -/
def decodeA06 (w : Word) : Except DecodeError Instr :=
  if bits w 0 8 = 128 then .ok (.stvs (bits w 28 4) (bits w 17 5) (bits w 13 4) (bits w 8 5))
  else .error .reservedField

/-- Cell 0x07 of the A slot (R31): LDVX. -/
def decodeA07 (w : Word) : Except DecodeError Instr :=
  if bits w 0 8 = 128 then .ok (.ldvx (bits w 28 4) (bits w 17 5) (bits w 13 4) (bits w 8 5))
  else .error .reservedField

/-- Cell 0x08 of the A slot (R31): STVX. -/
def decodeA08 (w : Word) : Except DecodeError Instr :=
  if bits w 0 8 = 128 then .ok (.stvx (bits w 28 4) (bits w 17 5) (bits w 13 4) (bits w 8 5))
  else .error .reservedField

/-- Cell 0x09 of the A slot (R31): LDF. -/
def decodeA09 (w : Word) : Except DecodeError Instr :=
  if bits w 10 3 = 4 then .ok (.ldf (bits w 28 4) (bits w 17 5) (bits w 13 4) (bits w 0 10))
  else .error .reservedField

/-- Cell 0x0A of the A slot (R31): STE. -/
def decodeA0A (w : Word) : Except DecodeError Instr :=
  if bits w 10 3 = 4 then .ok (.ste (bits w 28 4) (bits w 17 5) (bits w 13 4) (bits w 0 10))
  else .error .reservedField

/-- Cell 0x0B of the A slot (R31): FESET_F, FESET_E. -/
def decodeA0B (w : Word) : Except DecodeError Instr :=
  if bits w 17 5 = 1 ∧ bits w 0 8 = 0 then .ok (.fesetF (bits w 28 4) (bits w 13 4) (bits w 8 5))
  else if bits w 17 5 = 0 ∧ bits w 0 8 = 0 then .ok (.fesetE (bits w 28 4) (bits w 13 4) (bits w 8 5))
  else .error .reservedField

/-- Cell 0x0C of the A slot (R31): LDA. -/
def decodeA0C (w : Word) : Except DecodeError Instr :=
  if bits w 21 1 = 0 ∧ bits w 10 3 = 0 then .ok (.lda (bits w 28 4) (bits w 17 4) (bits w 13 4) (bits w 0 10))
  else .error .reservedField

/-- Cell 0x0D of the A slot (R31): STA. -/
def decodeA0D (w : Word) : Except DecodeError Instr :=
  if bits w 21 1 = 0 ∧ bits w 10 3 = 0 then .ok (.sta (bits w 28 4) (bits w 17 4) (bits w 13 4) (bits w 0 10))
  else .error .reservedField

/-- The opcode map of the A slot (R31). -/
def decodeA (w : Word) : Except DecodeError Instr :=
  match (opOf w).toNat with
  | 0x00 => decodeNop w
  | 0x01 => .ok (.ld (bits w 28 4) (bits w 17 5) (bits w 13 4) (bits w 10 3) (bits w 0 10))
  | 0x02 => .ok (.st (bits w 28 4) (bits w 17 5) (bits w 13 4) (bits w 10 3) (bits w 0 10))
  | 0x03 => decodeA03 w
  | 0x04 => decodeA04 w
  | 0x05 => decodeA05 w
  | 0x06 => decodeA06 w
  | 0x07 => decodeA07 w
  | 0x08 => decodeA08 w
  | 0x09 => decodeA09 w
  | 0x0A => decodeA0A w
  | 0x0B => decodeA0B w
  | 0x0C => decodeA0C w
  | 0x0D => decodeA0D w
  | _ => .error .reservedCell

/-- Cell 0x03 of the W slot (R32): WLDD. -/
def decodeW03 (w : Word) : Except DecodeError Instr :=
  if bits w 0 10 = 0 then .ok (.wldd (bits w 28 4) (bits w 18 4) (bits w 14 4) (bits w 10 4))
  else .error .reservedField

/-- Cell 0x04 of the W slot (R32): WATTR. -/
def decodeW04 (w : Word) : Except DecodeError Instr :=
  if bits w 0 13 = 0 then .ok (.wattr (bits w 28 4) (bits w 17 5) (bits w 13 4))
  else .error .reservedField

/-- The opcode map of the W slot (R32). -/
def decodeW (w : Word) : Except DecodeError Instr :=
  match (opOf w).toNat with
  | 0x00 => decodeNop w
  | 0x01 => .ok (.wldm (bits w 28 4) (bits w 18 4) (bits w 0 18))
  | 0x02 => .ok (.wldv (bits w 28 4) (bits w 18 4) (bits w 14 4) (bits w 0 14))
  | 0x03 => decodeW03 w
  | 0x04 => decodeW04 w
  | 0x05 => .ok (.wst (bits w 28 4) (bits w 0 22))
  | _ => .error .reservedCell

/-- Cell 0x01 of the M slot (R33): MCFG, MCFG_R. -/
def decodeM01 (w : Word) : Except DecodeError Instr :=
  if bits w 0 17 = 0 then .ok (.mcfg (bits w 28 4) (bits w 17 5))
  else if bits w 0 17 = 2048 then .ok (.mcfgR (bits w 28 4) (bits w 17 5))
  else .error .reservedField

/-- Cell 0x02 of the M slot (R33): MMA. -/
def decodeM02 (w : Word) : Except DecodeError Instr :=
  if bits w 1 1 = 0 then .ok (.mma (bits w 28 4) (bits w 16 6) (bits w 13 3) (bits w 9 4) (bits w 5 4) (bits w 2 3) (bits w 0 1))
  else .error .reservedField

/-- Cell 0x03 of the M slot (R33): MMAS. -/
def decodeM03 (w : Word) : Except DecodeError Instr :=
  if bits w 1 1 = 0 then .ok (.mmas (bits w 28 4) (bits w 16 6) (bits w 13 3) (bits w 9 4) (bits w 5 4) (bits w 2 3) (bits w 0 1))
  else .error .reservedField

/-- Cell 0x04 of the M slot (R33): MMV. -/
def decodeM04 (w : Word) : Except DecodeError Instr :=
  if bits w 1 4 = 0 then .ok (.mmv (bits w 28 4) (bits w 16 6) (bits w 13 3) (bits w 9 4) (bits w 5 4) (bits w 0 1))
  else .error .reservedField

/-- Cell 0x05 of the M slot (R33): MZERO. -/
def decodeM05 (w : Word) : Except DecodeError Instr :=
  if bits w 5 11 = 0 then .ok (.mzero (bits w 28 4) (bits w 16 6) (bits w 2 3) (bits w 0 2))
  else .error .reservedField

/-- Cell 0x06 of the M slot (R33): MLAT. -/
def decodeM06 (w : Word) : Except DecodeError Instr :=
  if bits w 0 11 = 0 then .ok (.mlat (bits w 28 4) (bits w 17 5) (bits w 13 4) (bits w 11 2))
  else .error .reservedField

/-- Cell 0x07 of the M slot (R33): MSTOP. -/
def decodeM07 (w : Word) : Except DecodeError Instr :=
  if bits w 0 22 = 0 then .ok (.mstop (bits w 28 4))
  else .error .reservedField

/-- The opcode map of the M slot (R33). -/
def decodeM (w : Word) : Except DecodeError Instr :=
  match (opOf w).toNat with
  | 0x00 => decodeNop w
  | 0x01 => decodeM01 w
  | 0x02 => decodeM02 w
  | 0x03 => decodeM03 w
  | 0x04 => decodeM04 w
  | 0x05 => decodeM05 w
  | 0x06 => decodeM06 w
  | 0x07 => decodeM07 w
  | _ => .error .reservedCell

/-- Cell 0x02 of the C slots (R34): CPYD. -/
def decodeC02 (w : Word) : Except DecodeError Instr :=
  if bits w 0 2 = 0 then .ok (.cpyd (bits w 28 4) (bits w 18 4) (bits w 14 4) (bits w 11 3) (bits w 7 4) (bits w 2 5))
  else .error .reservedField

/-- Cell 0x03 of the C slots (R34): PUB, PUB_DEF, PUB_CLR. -/
def decodeC03 (w : Word) : Except DecodeError Instr :=
  if bits w 14 8 = 0 ∧ bits w 2 8 = 0 then .ok (.pub (bits w 28 4) (bits w 10 4) (bits w 0 2))
  else if bits w 10 4 = 0 ∧ bits w 2 3 = 1 then .ok (.pubDef (bits w 28 4) (bits w 18 4) (bits w 14 4) (bits w 5 5) (bits w 0 2))
  else if bits w 2 20 = 2 then .ok (.pubClr (bits w 28 4) (bits w 0 2))
  else .error .reservedField

/-- Cell 0x04 of the C slots (R34): DRAIN. -/
def decodeC04 (w : Word) : Except DecodeError Instr :=
  if bits w 14 4 = 0 ∧ bits w 1 9 = 0 then .ok (.drain (bits w 28 4) (bits w 18 4) (bits w 10 4) (bits w 0 1))
  else .error .reservedField

/-- Cell 0x05 of the C slots (R34): XFENCE. -/
def decodeC05 (w : Word) : Except DecodeError Instr :=
  if bits w 14 8 = 0 ∧ bits w 0 5 = 0 then .ok (.xfence (bits w 28 4) (bits w 10 4) (bits w 5 5))
  else .error .reservedField

/-- Cell 0x06 of the C slots (R34): AMO_ADD, AMO_MIN, AMO_MAX, AMO_AND, AMO_OR, AMO_XOR, AMO_SWAP, AMO_CAS. -/
def decodeC06 (w : Word) : Except DecodeError Instr :=
  if bits w 0 5 = 0 then .ok (.amoAdd (bits w 28 4) (bits w 18 4) (bits w 14 4) (bits w 10 4) (bits w 5 5))
  else if bits w 0 5 = 1 then .ok (.amoMin (bits w 28 4) (bits w 18 4) (bits w 14 4) (bits w 10 4) (bits w 5 5))
  else if bits w 0 5 = 2 then .ok (.amoMax (bits w 28 4) (bits w 18 4) (bits w 14 4) (bits w 10 4) (bits w 5 5))
  else if bits w 0 5 = 3 then .ok (.amoAnd (bits w 28 4) (bits w 18 4) (bits w 14 4) (bits w 10 4) (bits w 5 5))
  else if bits w 0 5 = 4 then .ok (.amoOr (bits w 28 4) (bits w 18 4) (bits w 14 4) (bits w 10 4) (bits w 5 5))
  else if bits w 0 5 = 5 then .ok (.amoXor (bits w 28 4) (bits w 18 4) (bits w 14 4) (bits w 10 4) (bits w 5 5))
  else if bits w 0 5 = 6 then .ok (.amoSwap (bits w 28 4) (bits w 18 4) (bits w 14 4) (bits w 10 4) (bits w 5 5))
  else if bits w 0 5 = 7 then .ok (.amoCas (bits w 28 4) (bits w 18 4) (bits w 14 4) (bits w 10 4) (bits w 5 5))
  else .error .reservedField

/-- Cell 0x07 of the C slots (R34): RED_ADD_F32, RED_ADD_F64, RED_ADD_S32, RED_MAX_F32, RED_MIN_F32. -/
def decodeC07 (w : Word) : Except DecodeError Instr :=
  if bits w 0 5 = 0 then .ok (.redAddF32 (bits w 28 4) (bits w 18 4) (bits w 14 4) (bits w 10 4) (bits w 5 5))
  else if bits w 0 5 = 1 then .ok (.redAddF64 (bits w 28 4) (bits w 18 4) (bits w 14 4) (bits w 10 4) (bits w 5 5))
  else if bits w 0 5 = 2 then .ok (.redAddS32 (bits w 28 4) (bits w 18 4) (bits w 14 4) (bits w 10 4) (bits w 5 5))
  else if bits w 0 5 = 3 then .ok (.redMaxF32 (bits w 28 4) (bits w 18 4) (bits w 14 4) (bits w 10 4) (bits w 5 5))
  else if bits w 0 5 = 4 then .ok (.redMinF32 (bits w 28 4) (bits w 18 4) (bits w 14 4) (bits w 10 4) (bits w 5 5))
  else .error .reservedField

/-- Cell 0x08 of the C slots (R34): GATH. -/
def decodeC08 (w : Word) : Except DecodeError Instr :=
  if bits w 1 2 = 0 then .ok (.gath (bits w 28 4) (bits w 18 4) (bits w 14 4) (bits w 11 3) (bits w 7 4) (bits w 3 4) (bits w 0 1))
  else .error .reservedField

/-- Cell 0x09 of the C slots (R34): SCAT. -/
def decodeC09 (w : Word) : Except DecodeError Instr :=
  if bits w 0 3 = 0 then .ok (.scat (bits w 28 4) (bits w 18 4) (bits w 14 4) (bits w 11 3) (bits w 7 4) (bits w 3 4))
  else .error .reservedField

/-- Cell 0x0A of the C slots (R34): PFL2. -/
def decodeC0A (w : Word) : Except DecodeError Instr :=
  if bits w 10 8 = 0 ∧ bits w 0 5 = 0 then .ok (.pfl2 (bits w 28 4) (bits w 18 4) (bits w 5 5))
  else .error .reservedField

/-- Cell 0x0B of the C slots (R34): CWB_WB, CWB_WBI, CWB_INV. -/
def decodeC0B (w : Word) : Except DecodeError Instr :=
  if bits w 14 4 = 0 ∧ bits w 0 5 = 0 then .ok (.cwbWb (bits w 28 4) (bits w 18 4) (bits w 10 4) (bits w 5 5))
  else if bits w 14 4 = 0 ∧ bits w 0 5 = 1 then .ok (.cwbWbi (bits w 28 4) (bits w 18 4) (bits w 10 4) (bits w 5 5))
  else if bits w 14 4 = 0 ∧ bits w 0 5 = 2 then .ok (.cwbInv (bits w 28 4) (bits w 18 4) (bits w 10 4) (bits w 5 5))
  else .error .reservedField

/-- Cell 0x10 of the C slots (R34): KVLD. -/
def decodeC10 (w : Word) : Except DecodeError Instr :=
  if bits w 2 3 = 0 then .ok (.kvld (bits w 28 4) (bits w 18 4) (bits w 14 4) (bits w 10 4) (bits w 5 5) (bits w 1 1) (bits w 0 1))
  else .error .reservedField

/-- Cell 0x11 of the C slots (R34): KVAPP. -/
def decodeC11 (w : Word) : Except DecodeError Instr :=
  if bits w 1 4 = 0 then .ok (.kvapp (bits w 28 4) (bits w 18 4) (bits w 14 4) (bits w 10 4) (bits w 5 5) (bits w 0 1))
  else .error .reservedField

/-- Cell 0x12 of the C slots (R34): KVFORK. -/
def decodeC12 (w : Word) : Except DecodeError Instr :=
  if bits w 1 9 = 0 then .ok (.kvfork (bits w 28 4) (bits w 18 4) (bits w 14 4) (bits w 10 4) (bits w 0 1))
  else .error .reservedField

/-- Cell 0x13 of the C slots (R34): KVREL. -/
def decodeC13 (w : Word) : Except DecodeError Instr :=
  if bits w 14 4 = 0 ∧ bits w 1 9 = 0 then .ok (.kvrel (bits w 28 4) (bits w 18 4) (bits w 10 4) (bits w 0 1))
  else .error .reservedField

/-- Cell 0x18 of the C slots (R34): WPROG, WPROG_ATTR. -/
def decodeC18 (w : Word) : Except DecodeError Instr :=
  if bits w 1 4 = 0 then .ok (.wprog (bits w 28 4) (bits w 18 4) (bits w 14 4) (bits w 10 4) (bits w 5 5) (bits w 0 1))
  else if bits w 1 9 = 1 then .ok (.wprogAttr (bits w 28 4) (bits w 18 4) (bits w 14 4) (bits w 10 4) (bits w 0 1))
  else .error .reservedField

/-- Cell 0x19 of the C slots (R34): WFENCE. -/
def decodeC19 (w : Word) : Except DecodeError Instr :=
  if bits w 0 22 = 0 then .ok (.wfence (bits w 28 4))
  else .error .reservedField

/-- Cell 0x1A of the C slots (R34): WHASH. -/
def decodeC1A (w : Word) : Except DecodeError Instr :=
  if bits w 1 4 = 0 then .ok (.whash (bits w 28 4) (bits w 18 4) (bits w 14 4) (bits w 10 4) (bits w 5 5) (bits w 0 1))
  else .error .reservedField

/-- Cell 0x1C of the C slots (R34): BINIT. -/
def decodeC1C (w : Word) : Except DecodeError Instr :=
  if bits w 10 4 = 0 ∧ bits w 0 5 = 0 then .ok (.binit (bits w 28 4) (bits w 18 4) (bits w 14 4) (bits w 5 5))
  else .error .reservedField

/-- Cell 0x1D of the C slots (R34): BEXP. -/
def decodeC1D (w : Word) : Except DecodeError Instr :=
  if bits w 14 4 = 0 ∧ bits w 1 4 = 0 then .ok (.bexp (bits w 28 4) (bits w 18 4) (bits w 10 4) (bits w 5 5) (bits w 0 1))
  else .error .reservedField

/-- Cell 0x1E of the C slots (R34): BARR. -/
def decodeC1E (w : Word) : Except DecodeError Instr :=
  if bits w 14 4 = 0 ∧ bits w 1 4 = 0 then .ok (.barr (bits w 28 4) (bits w 18 4) (bits w 10 4) (bits w 5 5) (bits w 0 1))
  else .error .reservedField

/-- Cell 0x1F of the C slots (R34): BDROP. -/
def decodeC1F (w : Word) : Except DecodeError Instr :=
  if bits w 14 4 = 0 ∧ bits w 1 9 = 0 then .ok (.bdrop (bits w 28 4) (bits w 18 4) (bits w 10 4) (bits w 0 1))
  else .error .reservedField

/-- Cell 0x30 of the C slots (R34): MIGR. -/
def decodeC30 (w : Word) : Except DecodeError Instr :=
  if bits w 1 4 = 0 then .ok (.migr (bits w 28 4) (bits w 18 4) (bits w 14 4) (bits w 10 4) (bits w 5 5) (bits w 0 1))
  else .error .reservedField

/-- Cell 0x31 of the C slots (R34): QCRT. -/
def decodeC31 (w : Word) : Except DecodeError Instr :=
  if bits w 0 5 = 0 then .ok (.qcrt (bits w 28 4) (bits w 18 4) (bits w 14 4) (bits w 10 4) (bits w 5 5))
  else .error .reservedField

/-- Cell 0x32 of the C slots (R34): QDEL. -/
def decodeC32 (w : Word) : Except DecodeError Instr :=
  if bits w 14 8 = 0 ∧ bits w 0 5 = 0 then .ok (.qdel (bits w 28 4) (bits w 10 4) (bits w 5 5))
  else .error .reservedField

/-- The opcode map of the C slots (R34). -/
def decodeC (w : Word) : Except DecodeError Instr :=
  match (opOf w).toNat with
  | 0x00 => decodeNop w
  | 0x01 => .ok (.cpy (bits w 28 4) (bits w 18 4) (bits w 14 4) (bits w 11 3) (bits w 7 4) (bits w 3 4) (bits w 0 3))
  | 0x02 => decodeC02 w
  | 0x03 => decodeC03 w
  | 0x04 => decodeC04 w
  | 0x05 => decodeC05 w
  | 0x06 => decodeC06 w
  | 0x07 => decodeC07 w
  | 0x08 => decodeC08 w
  | 0x09 => decodeC09 w
  | 0x0A => decodeC0A w
  | 0x0B => decodeC0B w
  | 0x10 => decodeC10 w
  | 0x11 => decodeC11 w
  | 0x12 => decodeC12 w
  | 0x13 => decodeC13 w
  | 0x18 => decodeC18 w
  | 0x19 => decodeC19 w
  | 0x1A => decodeC1A w
  | 0x1C => decodeC1C w
  | 0x1D => decodeC1D w
  | 0x1E => decodeC1E w
  | 0x1F => decodeC1F w
  | 0x30 => decodeC30 w
  | 0x31 => decodeC31 w
  | 0x32 => decodeC32 w
  | _ => .error .reservedCell

/-- Decode a slot word in the map of its slot's class (R16). -/
def decodeSlot (c : SlotClass) (w : Word) : Except DecodeError Instr :=
  match c with
  | .S => decodeS w
  | .V => decodeV w
  | .M => decodeM w
  | .C => decodeC w
  | .A => decodeA w
  | .W => decodeW w

/-- The slot class of an instruction's words; `none` for NOP, which every class has, and for the steps without an
encoding. -/
def Instr.slotClass : Instr → Option SlotClass
  | .nop _ => none
  | .add _ _ _ _ => some .S
  | .sub _ _ _ _ => some .S
  | .mul _ _ _ _ => some .S
  | .mulh _ _ _ _ => some .S
  | .mulhz _ _ _ _ => some .S
  | .div _ _ _ _ => some .S
  | .divz _ _ _ _ => some .S
  | .rem _ _ _ _ => some .S
  | .remz _ _ _ _ => some .S
  | .and _ _ _ _ => some .S
  | .or _ _ _ _ => some .S
  | .xor _ _ _ _ => some .S
  | .andn _ _ _ _ => some .S
  | .shl _ _ _ _ => some .S
  | .shr _ _ _ _ => some .S
  | .sra _ _ _ _ => some .S
  | .min _ _ _ _ => some .S
  | .max _ _ _ _ => some .S
  | .minz _ _ _ _ => some .S
  | .maxz _ _ _ _ => some .S
  | .clz _ _ _ => some .S
  | .popc _ _ _ => some .S
  | .addi _ _ _ _ => some .S
  | .andi _ _ _ _ => some .S
  | .ori _ _ _ _ => some .S
  | .xori _ _ _ _ => some .S
  | .shli _ _ _ _ => some .S
  | .shri _ _ _ _ => some .S
  | .srai _ _ _ _ => some .S
  | .movi _ _ _ => some .S
  | .movhi _ _ _ => some .S
  | .sel _ _ _ _ _ => some .S
  | .cmp _ _ _ _ _ => some .S
  | .cmpi _ _ _ _ _ => some .S
  | .fadd _ _ _ _ => some .S
  | .fsub _ _ _ _ => some .S
  | .fmul _ _ _ _ => some .S
  | .fdiv _ _ _ _ => some .S
  | .fsqrt _ _ _ => some .S
  | .fmin _ _ _ _ => some .S
  | .fmax _ _ _ _ => some .S
  | .fsgn _ _ _ _ => some .S
  | .fcvtF32S32 _ _ _ => some .S
  | .fcvtF32Z32 _ _ _ => some .S
  | .fcvtS32F32 _ _ _ => some .S
  | .fcvtZ32F32 _ _ _ => some .S
  | .fcvtF32F16 _ _ _ => some .S
  | .fcvtF32Bf16 _ _ _ => some .S
  | .fcvtF16F32 _ _ _ => some .S
  | .fcvtBf16F32 _ _ _ => some .S
  | .ffma _ _ _ _ _ => some .S
  | .fcmp _ _ _ _ _ => some .S
  | .pand _ _ _ _ => some .S
  | .por _ _ _ _ => some .S
  | .pxor _ _ _ _ => some .S
  | .pmov _ _ _ => some .S
  | .ppack _ _ _ => some .S
  | .punpk _ _ _ => some .S
  | .aadd _ _ _ _ => some .S
  | .aaddi _ _ _ _ => some .S
  | .amov _ _ _ => some .S
  | .amovHi _ _ _ => some .S
  | .atos _ _ _ => some .S
  | .atosHi _ _ _ => some .S
  | .atag _ _ _ _ => some .S
  | .br _ _ => some .S
  | .brl _ _ => some .S
  | .jr _ _ => some .S
  | .jrl _ _ => some .S
  | .ret _ _ => some .S
  | .ibsw _ _ => some .S
  | .ifence _ => some .S
  | .lset _ _ _ _ _ => some .S
  | .lbody _ _ => some .S
  | .lexit _ _ => some .S
  | .nset _ _ _ _ => some .S
  | .bwait _ _ _ _ => some .S
  | .evpop _ _ _ _ _ => some .S
  | .evwait _ => some .S
  | .sync _ _ => some .S
  | .gdrop _ _ => some .S
  | .yield _ => some .S
  | .qpop _ _ _ _ _ => some .S
  | .qpopB _ _ _ _ _ => some .S
  | .qpush _ _ _ _ => some .S
  | .leave _ => some .S
  | .trap _ _ => some .S
  | .eret _ => some .S
  | .eretD _ => some .S
  | .sysrd _ _ _ _ => some .S
  | .syswr _ _ _ _ => some .S
  | .contain _ _ _ _ => some .S
  | .uncontain _ => some .S
  | .dchk _ _ _ => some .S
  | .cycrd _ _ _ => some .S
  | .cycrdW _ _ _ => some .S
  | .snop _ _ => some .S
  | .halt _ => some .S
  | .vadd _ _ _ _ _ _ => some .V
  | .vsub _ _ _ _ _ _ => some .V
  | .vmul _ _ _ _ _ _ => some .V
  | .vfma _ _ _ _ _ _ => some .V
  | .vfms _ _ _ _ _ _ => some .V
  | .vmin _ _ _ _ _ _ => some .V
  | .vmax _ _ _ _ _ _ => some .V
  | .vabs _ _ _ _ _ => some .V
  | .vneg _ _ _ _ _ => some .V
  | .vand _ _ _ _ _ _ => some .V
  | .vor _ _ _ _ _ _ => some .V
  | .vxor _ _ _ _ _ _ => some .V
  | .vandn _ _ _ _ _ _ => some .V
  | .vshl _ _ _ _ _ _ => some .V
  | .vshr _ _ _ _ _ _ => some .V
  | .vsra _ _ _ _ _ _ => some .V
  | .vcmp _ _ _ _ _ _ _ => some .V
  | .vsel _ _ _ _ _ _ => some .V
  | .vmov _ _ _ _ _ => some .V
  | .vbcast _ _ _ _ _ => some .V
  | .vext _ _ _ _ _ => some .V
  | .vins _ _ _ _ _ => some .V
  | .vperm _ _ _ _ _ _ => some .V
  | .vshuf _ _ _ _ _ _ => some .V
  | .vrot _ _ _ _ _ _ => some .V
  | .vreds _ _ _ _ _ => some .V
  | .vredmMax _ _ _ _ _ => some .V
  | .vredmMin _ _ _ _ _ => some .V
  | .vdot _ _ _ _ _ _ => some .V
  | .vcvt _ _ _ _ _ _ => some .V
  | .vrnd _ _ _ _ _ _ => some .V
  | .vexp2 _ _ _ _ _ => some .V
  | .vlog2 _ _ _ _ _ => some .V
  | .vrcp _ _ _ _ _ => some .V
  | .vrsq _ _ _ _ _ => some .V
  | .vqnt _ _ _ _ _ _ _ => some .V
  | .vdql _ _ _ _ _ _ _ => some .V
  | .vlins _ _ _ _ _ _ _ => some .V
  | .vlext _ _ _ _ _ _ _ => some .V
  | .vlnrm _ _ _ _ _ _ => some .V
  | .vtrw _ _ _ _ _ _ => some .V
  | .vtrr _ _ _ _ _ _ => some .V
  | .vtcw _ _ _ _ _ _ => some .V
  | .vtcr _ _ _ _ _ _ => some .V
  | .vacr _ _ _ _ _ => some .V
  | .vacw _ _ _ _ _ => some .V
  | .vdchk _ _ _ _ _ => some .V
  | .viop _ _ _ _ _ => some .V
  | .vfop _ _ _ _ _ => some .V
  | .ld _ _ _ _ _ => some .A
  | .st _ _ _ _ _ => some .A
  | .ldv _ _ _ _ => some .A
  | .stv _ _ _ _ => some .A
  | .ldvs _ _ _ _ => some .A
  | .stvs _ _ _ _ => some .A
  | .ldvx _ _ _ _ => some .A
  | .stvx _ _ _ _ => some .A
  | .ldf _ _ _ _ => some .A
  | .ste _ _ _ _ => some .A
  | .fesetF _ _ _ => some .A
  | .fesetE _ _ _ => some .A
  | .lda _ _ _ _ => some .A
  | .sta _ _ _ _ => some .A
  | .wldm _ _ _ => some .W
  | .wldv _ _ _ _ => some .W
  | .wldd _ _ _ _ => some .W
  | .wattr _ _ _ => some .W
  | .wst _ _ => some .W
  | .mcfg _ _ => some .M
  | .mcfgR _ _ => some .M
  | .mma _ _ _ _ _ _ _ => some .M
  | .mmas _ _ _ _ _ _ _ => some .M
  | .mmv _ _ _ _ _ _ => some .M
  | .mzero _ _ _ _ => some .M
  | .mlat _ _ _ _ => some .M
  | .mstop _ => some .M
  | .cpy _ _ _ _ _ _ _ => some .C
  | .cpyd _ _ _ _ _ _ => some .C
  | .pub _ _ _ => some .C
  | .pubDef _ _ _ _ _ => some .C
  | .pubClr _ _ => some .C
  | .drain _ _ _ _ => some .C
  | .xfence _ _ _ => some .C
  | .amoAdd _ _ _ _ _ => some .C
  | .amoMin _ _ _ _ _ => some .C
  | .amoMax _ _ _ _ _ => some .C
  | .amoAnd _ _ _ _ _ => some .C
  | .amoOr _ _ _ _ _ => some .C
  | .amoXor _ _ _ _ _ => some .C
  | .amoSwap _ _ _ _ _ => some .C
  | .amoCas _ _ _ _ _ => some .C
  | .redAddF32 _ _ _ _ _ => some .C
  | .redAddF64 _ _ _ _ _ => some .C
  | .redAddS32 _ _ _ _ _ => some .C
  | .redMaxF32 _ _ _ _ _ => some .C
  | .redMinF32 _ _ _ _ _ => some .C
  | .gath _ _ _ _ _ _ _ => some .C
  | .scat _ _ _ _ _ _ => some .C
  | .pfl2 _ _ _ => some .C
  | .cwbWb _ _ _ _ => some .C
  | .cwbWbi _ _ _ _ => some .C
  | .cwbInv _ _ _ _ => some .C
  | .kvld _ _ _ _ _ _ _ => some .C
  | .kvapp _ _ _ _ _ _ => some .C
  | .kvfork _ _ _ _ _ => some .C
  | .kvrel _ _ _ _ => some .C
  | .wprog _ _ _ _ _ _ => some .C
  | .wprogAttr _ _ _ _ _ => some .C
  | .wfence _ => some .C
  | .whash _ _ _ _ _ _ => some .C
  | .binit _ _ _ _ => some .C
  | .bexp _ _ _ _ _ => some .C
  | .barr _ _ _ _ _ => some .C
  | .bdrop _ _ _ _ => some .C
  | .migr _ _ _ _ _ _ => some .C
  | .qcrt _ _ _ _ _ => some .C
  | .qdel _ _ _ => some .C
  | .bundleIssue => none
  | .exposedResultLand => none
  | .waitEnd => none
  | .feFreezeTimeout => none
  | .quantumExpiry => none
  | .contextSwitch => none
  | .trapEntry => none
  | .serviceRequest => none
  | .preemption => none
  | .contextResume => none
  | .syncRestart => none
  | .syncTimeout => none
  | .matrixCommit => none
  | .mmasCommit => none
  | .commandAbandon => none
  | .operationComplete => none
  | .operationFault => none
  | .barrierOrderedAction => none
  | .pubPerform => none
  | .cpydDeadline => none
  | .eventRecordEnqueue => none
  | .reductionApply => none
  | .containmentPublish => none
  | .monitorWake => none
  | .walkRetry => none
  | .migrationCommit => none
  | .migrationAbandon => none
  | .arbiterGrant => none
  | .wprogRowStart => none
  | .programPhaseEnd => none
  | .wprogCompletion => none
  | .attrCommit => none
  | .whashCompletion => none
  | .queueDestroy => none
  | .hostTailWrite _ _ => none
  | .hostApertureAccess _ _ _ => none
  | .launchDescriptorPop => none
  | .placementPass => none
  | .contextStart => none
  | .launchCompletion => none
  | .noticeItemDelivery => none
  | .leaseStart => none
  | .leaseGrant => none
  | .grantDeadline => none
  | .leasePrepared => none
  | .leaseScrubDone => none
  | .leaseTestEnd => none
  | .clockStretch _ _ => none
  | .thermalShutdown => none
  | .powerOn => none
  | .reset => none
  | .powerLoss => none
  | .imageRootFormed => none
  | .packageDump => none
  | .getVersion _ => none
  | .getCapabilities _ => none
  | .negotiateAlgorithms _ _ _ _ _ _ => none
  | .getDigests _ => none
  | .getCertificate _ _ => none
  | .challenge _ _ => none
  | .getMeasurements _ _ => none
  | .keyExchange _ _ => none
  | .finish _ => none
  | .unsupportedRequest _ _ => none
  | .sessionEnd _ => none
  | .getState _ _ => none
  | .lock _ _ => none
  | .getReport _ _ => none
  | .start _ _ _ => none
  | .stop _ _ => none
  | .ptRegisterWrite _ _ _ _ => none
  | .partitionScrubDone => none
  | .mgWpmoveWrite _ => none
  | .wpageMoveDone => none
  | .mgRemeasWrite _ => none
  | .mgThermRead => none
  | .managementWrite _ _ => none
  | .fabricAck _ _ => none
  | .laneWidthChange _ _ _ => none
  | .startStepComplete => none
  | .walkComplete => none
  | .loadPipeDataArrival => none
  | .handleEntryArrival => none
  | .imageWriteDrained => none
  | .fabricFlitReceived _ _ _ _ => none

/-- The word of an instruction, field by field from bit 31 down (R16, R23 to R34); `none` for a step without an
encoding. -/
def encode : Instr → Option Word
  | .nop g => some (g ++ 0#6 ++ 0#22)
  | .add g d a b => some (g ++ 1#6 ++ d ++ a ++ b ++ 0#7)
  | .sub g d a b => some (g ++ 1#6 ++ d ++ a ++ b ++ 1#7)
  | .mul g d a b => some (g ++ 1#6 ++ d ++ a ++ b ++ 2#7)
  | .mulh g d a b => some (g ++ 1#6 ++ d ++ a ++ b ++ 3#7)
  | .mulhz g d a b => some (g ++ 1#6 ++ d ++ a ++ b ++ 4#7)
  | .div g d a b => some (g ++ 1#6 ++ d ++ a ++ b ++ 5#7)
  | .divz g d a b => some (g ++ 1#6 ++ d ++ a ++ b ++ 6#7)
  | .rem g d a b => some (g ++ 1#6 ++ d ++ a ++ b ++ 7#7)
  | .remz g d a b => some (g ++ 1#6 ++ d ++ a ++ b ++ 8#7)
  | .and g d a b => some (g ++ 1#6 ++ d ++ a ++ b ++ 9#7)
  | .or g d a b => some (g ++ 1#6 ++ d ++ a ++ b ++ 10#7)
  | .xor g d a b => some (g ++ 1#6 ++ d ++ a ++ b ++ 11#7)
  | .andn g d a b => some (g ++ 1#6 ++ d ++ a ++ b ++ 12#7)
  | .shl g d a b => some (g ++ 1#6 ++ d ++ a ++ b ++ 13#7)
  | .shr g d a b => some (g ++ 1#6 ++ d ++ a ++ b ++ 14#7)
  | .sra g d a b => some (g ++ 1#6 ++ d ++ a ++ b ++ 15#7)
  | .min g d a b => some (g ++ 1#6 ++ d ++ a ++ b ++ 16#7)
  | .max g d a b => some (g ++ 1#6 ++ d ++ a ++ b ++ 17#7)
  | .minz g d a b => some (g ++ 1#6 ++ d ++ a ++ b ++ 18#7)
  | .maxz g d a b => some (g ++ 1#6 ++ d ++ a ++ b ++ 19#7)
  | .clz g d a => some (g ++ 1#6 ++ d ++ a ++ 20#12)
  | .popc g d a => some (g ++ 1#6 ++ d ++ a ++ 21#12)
  | .addi g d a i => some (g ++ 2#6 ++ d ++ a ++ i)
  | .andi g d a i => some (g ++ 3#6 ++ d ++ a ++ i)
  | .ori g d a i => some (g ++ 4#6 ++ d ++ a ++ i)
  | .xori g d a i => some (g ++ 5#6 ++ d ++ a ++ i)
  | .shli g d a i => some (g ++ 6#6 ++ d ++ a ++ 0#7 ++ i)
  | .shri g d a i => some (g ++ 7#6 ++ d ++ a ++ 0#7 ++ i)
  | .srai g d a i => some (g ++ 8#6 ++ d ++ a ++ 0#7 ++ i)
  | .movi g d i => some (g ++ 9#6 ++ d ++ i)
  | .movhi g d i => some (g ++ 10#6 ++ d ++ 0#1 ++ i)
  | .sel g d a b p => some (g ++ 11#6 ++ d ++ a ++ b ++ p ++ 0#3)
  | .cmp g k c a b => some (g ++ 12#6 ++ k ++ c ++ a ++ b ++ 0#6)
  | .cmpi g k c a i => some (g ++ 13#6 ++ k ++ c ++ a ++ i)
  | .fadd g d a b => some (g ++ 14#6 ++ d ++ a ++ b ++ 0#7)
  | .fsub g d a b => some (g ++ 14#6 ++ d ++ a ++ b ++ 1#7)
  | .fmul g d a b => some (g ++ 14#6 ++ d ++ a ++ b ++ 2#7)
  | .fdiv g d a b => some (g ++ 14#6 ++ d ++ a ++ b ++ 3#7)
  | .fsqrt g d a => some (g ++ 14#6 ++ d ++ a ++ 4#12)
  | .fmin g d a b => some (g ++ 14#6 ++ d ++ a ++ b ++ 5#7)
  | .fmax g d a b => some (g ++ 14#6 ++ d ++ a ++ b ++ 6#7)
  | .fsgn g d a b => some (g ++ 14#6 ++ d ++ a ++ b ++ 7#7)
  | .fcvtF32S32 g d a => some (g ++ 14#6 ++ d ++ a ++ 8#12)
  | .fcvtF32Z32 g d a => some (g ++ 14#6 ++ d ++ a ++ 136#12)
  | .fcvtS32F32 g d a => some (g ++ 14#6 ++ d ++ a ++ 264#12)
  | .fcvtZ32F32 g d a => some (g ++ 14#6 ++ d ++ a ++ 392#12)
  | .fcvtF32F16 g d a => some (g ++ 14#6 ++ d ++ a ++ 520#12)
  | .fcvtF32Bf16 g d a => some (g ++ 14#6 ++ d ++ a ++ 648#12)
  | .fcvtF16F32 g d a => some (g ++ 14#6 ++ d ++ a ++ 776#12)
  | .fcvtBf16F32 g d a => some (g ++ 14#6 ++ d ++ a ++ 904#12)
  | .ffma g d a b c => some (g ++ 15#6 ++ d ++ a ++ b ++ c ++ 0#2)
  | .fcmp g k c a b => some (g ++ 16#6 ++ k ++ c ++ a ++ b ++ 0#6)
  | .pand g d a b => some (g ++ 17#6 ++ d ++ a ++ b ++ 0#10)
  | .por g d a b => some (g ++ 17#6 ++ d ++ a ++ b ++ 1#10)
  | .pxor g d a b => some (g ++ 17#6 ++ d ++ a ++ b ++ 2#10)
  | .pmov g d a => some (g ++ 17#6 ++ d ++ a ++ 3#14)
  | .ppack g a s => some (g ++ 17#6 ++ 0#4 ++ a ++ 0#4 ++ s ++ 4#5)
  | .punpk g d s => some (g ++ 17#6 ++ d ++ 0#8 ++ s ++ 5#5)
  | .aadd g d a s => some (g ++ 18#6 ++ d ++ a ++ s ++ 0#9)
  | .aaddi g d a i => some (g ++ 19#6 ++ d ++ a ++ i)
  | .amov g d s => some (g ++ 20#6 ++ d ++ 0#4 ++ s ++ 0#9)
  | .amovHi g d s => some (g ++ 20#6 ++ d ++ 1#4 ++ s ++ 0#9)
  | .atos g a s => some (g ++ 21#6 ++ 0#4 ++ a ++ s ++ 0#9)
  | .atosHi g a s => some (g ++ 21#6 ++ 1#4 ++ a ++ s ++ 0#9)
  | .atag g d a s => some (g ++ 22#6 ++ d ++ a ++ s ++ 0#9)
  | .br g i => some (g ++ 24#6 ++ i)
  | .brl g i => some (g ++ 25#6 ++ i)
  | .jr g a => some (g ++ 26#6 ++ a ++ 0#18)
  | .jrl g a => some (g ++ 27#6 ++ a ++ 0#18)
  | .ret g a => some (g ++ 28#6 ++ a ++ 0#18)
  | .ibsw g i => some (g ++ 29#6 ++ i)
  | .ifence g => some (g ++ 30#6 ++ 0#22)
  | .lset g n a y l => some (g ++ 32#6 ++ 0#2 ++ n ++ a ++ y ++ 0#6 ++ l)
  | .lbody g l => some (g ++ 33#6 ++ 0#16 ++ l)
  | .lexit g k => some (g ++ 34#6 ++ 0#19 ++ k)
  | .nset g n a o => some (g ++ 35#6 ++ 0#2 ++ n ++ a ++ 0#4 ++ o)
  | .bwait g a o q => some (g ++ 36#6 ++ 0#5 ++ a ++ 0#4 ++ o ++ q)
  | .evpop g s a p o => some (g ++ 37#6 ++ s ++ a ++ p ++ o)
  | .evwait g => some (g ++ 38#6 ++ 0#22)
  | .sync g n => some (g ++ 39#6 ++ 0#14 ++ n)
  | .gdrop g n => some (g ++ 40#6 ++ 0#14 ++ n)
  | .yield g => some (g ++ 41#6 ++ 0#22)
  | .qpop g s a p o => some (g ++ 42#6 ++ s ++ a ++ p ++ o ++ 0#1)
  | .qpopB g s a p o => some (g ++ 42#6 ++ s ++ a ++ p ++ o ++ 1#1)
  | .qpush g s a o => some (g ++ 43#6 ++ s ++ a ++ 0#4 ++ o ++ 0#1)
  | .leave g => some (g ++ 44#6 ++ 0#22)
  | .trap g c => some (g ++ 48#6 ++ 0#14 ++ c)
  | .eret g => some (g ++ 49#6 ++ 0#22)
  | .eretD g => some (g ++ 49#6 ++ 1#22)
  | .sysrd g s a r => some (g ++ 50#6 ++ s ++ a ++ 0#4 ++ r)
  | .syswr g s a r => some (g ++ 51#6 ++ s ++ a ++ 0#4 ++ r)
  | .contain g s a m => some (g ++ 52#6 ++ s ++ a ++ 0#9 ++ m)
  | .uncontain g => some (g ++ 53#6 ++ 0#22)
  | .dchk g a b => some (g ++ 54#6 ++ 0#5 ++ a ++ b ++ 0#7)
  | .cycrd g s k => some (g ++ 55#6 ++ s ++ 0#16 ++ k)
  | .cycrdW g a k => some (g ++ 55#6 ++ 0#5 ++ a ++ 1#12 ++ k)
  | .snop g n => some (g ++ 56#6 ++ 0#13 ++ n)
  | .halt g => some (g ++ 57#6 ++ 0#22)
  | .vadd g d a b q t => some (g ++ 1#6 ++ d ++ a ++ b ++ q ++ t)
  | .vsub g d a b q t => some (g ++ 2#6 ++ d ++ a ++ b ++ q ++ t)
  | .vmul g d a b q t => some (g ++ 3#6 ++ d ++ a ++ b ++ q ++ t)
  | .vfma g d a b q t => some (g ++ 4#6 ++ d ++ a ++ b ++ q ++ t)
  | .vfms g d a b q t => some (g ++ 5#6 ++ d ++ a ++ b ++ q ++ t)
  | .vmin g d a b q t => some (g ++ 6#6 ++ d ++ a ++ b ++ q ++ t)
  | .vmax g d a b q t => some (g ++ 7#6 ++ d ++ a ++ b ++ q ++ t)
  | .vabs g d a q t => some (g ++ 8#6 ++ d ++ a ++ 0#5 ++ q ++ t)
  | .vneg g d a q t => some (g ++ 9#6 ++ d ++ a ++ 0#5 ++ q ++ t)
  | .vand g d a b q t => some (g ++ 10#6 ++ d ++ a ++ b ++ q ++ t)
  | .vor g d a b q t => some (g ++ 11#6 ++ d ++ a ++ b ++ q ++ t)
  | .vxor g d a b q t => some (g ++ 12#6 ++ d ++ a ++ b ++ q ++ t)
  | .vandn g d a b q t => some (g ++ 13#6 ++ d ++ a ++ b ++ q ++ t)
  | .vshl g d a b q t => some (g ++ 14#6 ++ d ++ a ++ b ++ q ++ t)
  | .vshr g d a b q t => some (g ++ 15#6 ++ d ++ a ++ b ++ q ++ t)
  | .vsra g d a b q t => some (g ++ 16#6 ++ d ++ a ++ b ++ q ++ t)
  | .vcmp g k c a b q t => some (g ++ 17#6 ++ k ++ c ++ a ++ b ++ q ++ t)
  | .vsel g d a b q t => some (g ++ 18#6 ++ d ++ a ++ b ++ q ++ t)
  | .vmov g d a q t => some (g ++ 19#6 ++ d ++ a ++ 0#5 ++ q ++ t)
  | .vbcast g d s q t => some (g ++ 20#6 ++ d ++ s ++ 0#5 ++ q ++ t)
  | .vext g d a b t => some (g ++ 21#6 ++ d ++ a ++ b ++ 0#3 ++ t)
  | .vins g d a b t => some (g ++ 22#6 ++ d ++ a ++ b ++ 0#3 ++ t)
  | .vperm g d a b q t => some (g ++ 23#6 ++ d ++ a ++ b ++ q ++ t)
  | .vshuf g d a b p t => some (g ++ 24#6 ++ d ++ a ++ b ++ p ++ t)
  | .vrot g d a b q t => some (g ++ 25#6 ++ d ++ a ++ b ++ q ++ t)
  | .vreds g d a q t => some (g ++ 26#6 ++ d ++ a ++ 0#5 ++ q ++ t)
  | .vredmMax g d a q t => some (g ++ 27#6 ++ d ++ a ++ 0#5 ++ q ++ t)
  | .vredmMin g d a q t => some (g ++ 27#6 ++ d ++ a ++ 1#5 ++ q ++ t)
  | .vdot g d a b q t => some (g ++ 28#6 ++ d ++ a ++ b ++ q ++ t)
  | .vcvt g d a x y f => some (g ++ 29#6 ++ d ++ a ++ x ++ y ++ f ++ 0#1)
  | .vrnd g d a m q t => some (g ++ 30#6 ++ d ++ a ++ m ++ q ++ t)
  | .vexp2 g d a q t => some (g ++ 31#6 ++ d ++ a ++ 0#5 ++ q ++ t)
  | .vlog2 g d a q t => some (g ++ 32#6 ++ d ++ a ++ 0#5 ++ q ++ t)
  | .vrcp g d a q t => some (g ++ 33#6 ++ d ++ a ++ 0#5 ++ q ++ t)
  | .vrsq g d a q t => some (g ++ 34#6 ++ d ++ a ++ 0#5 ++ q ++ t)
  | .vqnt g d a b q l x => some (g ++ 35#6 ++ d ++ a ++ b ++ q ++ l ++ x)
  | .vdql g d a b q l x => some (g ++ 36#6 ++ d ++ a ++ b ++ q ++ l ++ x)
  | .vlins g d a b q l x => some (g ++ 37#6 ++ d ++ a ++ b ++ q ++ l ++ x)
  | .vlext g d a b q l x => some (g ++ 38#6 ++ d ++ a ++ b ++ q ++ l ++ x)
  | .vlnrm g d a b q l => some (g ++ 39#6 ++ d ++ a ++ b ++ q ++ l ++ 0#2)
  | .vtrw g v q i t f => some (g ++ 40#6 ++ v ++ q ++ i ++ t ++ f ++ 0#3)
  | .vtrr g v q i t f => some (g ++ 41#6 ++ v ++ q ++ i ++ t ++ f ++ 0#3)
  | .vtcw g v q i t f => some (g ++ 42#6 ++ v ++ q ++ i ++ t ++ f ++ 0#3)
  | .vtcr g v q i t f => some (g ++ 43#6 ++ v ++ q ++ i ++ t ++ f ++ 0#3)
  | .vacr g d c r t => some (g ++ 44#6 ++ d ++ c ++ r ++ t ++ 0#1)
  | .vacw g d c r t => some (g ++ 45#6 ++ d ++ c ++ r ++ t ++ 0#1)
  | .vdchk g a b q t => some (g ++ 46#6 ++ 0#5 ++ a ++ b ++ q ++ t)
  | .viop g d a b f => some (g ++ 47#6 ++ d ++ a ++ b ++ f)
  | .vfop g d a b f => some (g ++ 48#6 ++ d ++ a ++ b ++ f)
  | .ld g d b z o => some (g ++ 1#6 ++ d ++ b ++ z ++ o)
  | .st g d b z o => some (g ++ 2#6 ++ d ++ b ++ z ++ o)
  | .ldv g d b o => some (g ++ 3#6 ++ d ++ b ++ 0#3 ++ o)
  | .stv g d b o => some (g ++ 4#6 ++ d ++ b ++ 0#3 ++ o)
  | .ldvs g d b x => some (g ++ 5#6 ++ d ++ b ++ x ++ 128#8)
  | .stvs g d b x => some (g ++ 6#6 ++ d ++ b ++ x ++ 128#8)
  | .ldvx g d b x => some (g ++ 7#6 ++ d ++ b ++ x ++ 128#8)
  | .stvx g d b x => some (g ++ 8#6 ++ d ++ b ++ x ++ 128#8)
  | .ldf g d b o => some (g ++ 9#6 ++ d ++ b ++ 4#3 ++ o)
  | .ste g d b o => some (g ++ 10#6 ++ d ++ b ++ 4#3 ++ o)
  | .fesetF g b x => some (g ++ 11#6 ++ 1#5 ++ b ++ x ++ 0#8)
  | .fesetE g b x => some (g ++ 11#6 ++ 0#5 ++ b ++ x ++ 0#8)
  | .lda g d b o => some (g ++ 12#6 ++ 0#1 ++ d ++ b ++ 0#3 ++ o)
  | .sta g d b o => some (g ++ 13#6 ++ 0#1 ++ d ++ b ++ 0#3 ++ o)
  | .wldm g b o => some (g ++ 1#6 ++ b ++ o)
  | .wldv g d b o => some (g ++ 2#6 ++ d ++ b ++ o)
  | .wldd g d b x => some (g ++ 3#6 ++ d ++ b ++ x ++ 0#10)
  | .wattr g d b => some (g ++ 4#6 ++ d ++ b ++ 0#13)
  | .wst g c => some (g ++ 5#6 ++ c)
  | .mcfg g s => some (g ++ 1#6 ++ s ++ 0#17)
  | .mcfgR g s => some (g ++ 1#6 ++ s ++ 2048#17)
  | .mma g c n a b s f => some (g ++ 2#6 ++ c ++ n ++ a ++ b ++ s ++ 0#1 ++ f)
  | .mmas g c n a b s f => some (g ++ 3#6 ++ c ++ n ++ a ++ b ++ s ++ 0#1 ++ f)
  | .mmv g c n a b f => some (g ++ 4#6 ++ c ++ n ++ a ++ b ++ 0#4 ++ f)
  | .mzero g c s f => some (g ++ 5#6 ++ c ++ 0#11 ++ s ++ f)
  | .mlat g s a l => some (g ++ 6#6 ++ s ++ a ++ l ++ 0#11)
  | .mstop g => some (g ++ 7#6 ++ 0#22)
  | .cpy g d f n t b x => some (g ++ 1#6 ++ d ++ f ++ n ++ t ++ b ++ x)
  | .cpyd g d f n t s => some (g ++ 2#6 ++ d ++ f ++ n ++ t ++ s ++ 0#2)
  | .pub g t w => some (g ++ 3#6 ++ 0#8 ++ t ++ 0#8 ++ w)
  | .pubDef g a y s w => some (g ++ 3#6 ++ a ++ y ++ 0#4 ++ s ++ 1#3 ++ w)
  | .pubClr g w => some (g ++ 3#6 ++ 2#20 ++ w)
  | .drain g b t e => some (g ++ 4#6 ++ b ++ 0#4 ++ t ++ 0#9 ++ e)
  | .xfence g t s => some (g ++ 5#6 ++ 0#8 ++ t ++ s ++ 0#5)
  | .amoAdd g x y t s => some (g ++ 6#6 ++ x ++ y ++ t ++ s ++ 0#5)
  | .amoMin g x y t s => some (g ++ 6#6 ++ x ++ y ++ t ++ s ++ 1#5)
  | .amoMax g x y t s => some (g ++ 6#6 ++ x ++ y ++ t ++ s ++ 2#5)
  | .amoAnd g x y t s => some (g ++ 6#6 ++ x ++ y ++ t ++ s ++ 3#5)
  | .amoOr g x y t s => some (g ++ 6#6 ++ x ++ y ++ t ++ s ++ 4#5)
  | .amoXor g x y t s => some (g ++ 6#6 ++ x ++ y ++ t ++ s ++ 5#5)
  | .amoSwap g x y t s => some (g ++ 6#6 ++ x ++ y ++ t ++ s ++ 6#5)
  | .amoCas g x y t s => some (g ++ 6#6 ++ x ++ y ++ t ++ s ++ 7#5)
  | .redAddF32 g x y t s => some (g ++ 7#6 ++ x ++ y ++ t ++ s ++ 0#5)
  | .redAddF64 g x y t s => some (g ++ 7#6 ++ x ++ y ++ t ++ s ++ 1#5)
  | .redAddS32 g x y t s => some (g ++ 7#6 ++ x ++ y ++ t ++ s ++ 2#5)
  | .redMaxF32 g x y t s => some (g ++ 7#6 ++ x ++ y ++ t ++ s ++ 3#5)
  | .redMinF32 g x y t s => some (g ++ 7#6 ++ x ++ y ++ t ++ s ++ 4#5)
  | .gath g d f n t b h => some (g ++ 8#6 ++ d ++ f ++ n ++ t ++ b ++ 0#2 ++ h)
  | .scat g d f n t b => some (g ++ 9#6 ++ d ++ f ++ n ++ t ++ b ++ 0#3)
  | .pfl2 g x s => some (g ++ 10#6 ++ x ++ 0#8 ++ s ++ 0#5)
  | .cwbWb g x t s => some (g ++ 11#6 ++ x ++ 0#4 ++ t ++ s ++ 0#5)
  | .cwbWbi g x t s => some (g ++ 11#6 ++ x ++ 0#4 ++ t ++ s ++ 1#5)
  | .cwbInv g x t s => some (g ++ 11#6 ++ x ++ 0#4 ++ t ++ s ++ 2#5)
  | .kvld g x y t s d e => some (g ++ 16#6 ++ x ++ y ++ t ++ s ++ 0#3 ++ d ++ e)
  | .kvapp g x y t s e => some (g ++ 17#6 ++ x ++ y ++ t ++ s ++ 0#4 ++ e)
  | .kvfork g x y t e => some (g ++ 18#6 ++ x ++ y ++ t ++ 0#9 ++ e)
  | .kvrel g x t e => some (g ++ 19#6 ++ x ++ 0#4 ++ t ++ 0#9 ++ e)
  | .wprog g x y t s e => some (g ++ 24#6 ++ x ++ y ++ t ++ s ++ 0#4 ++ e)
  | .wprogAttr g x y t e => some (g ++ 24#6 ++ x ++ y ++ t ++ 1#9 ++ e)
  | .wfence g => some (g ++ 25#6 ++ 0#22)
  | .whash g x y t s e => some (g ++ 26#6 ++ x ++ y ++ t ++ s ++ 0#4 ++ e)
  | .binit g x y s => some (g ++ 28#6 ++ x ++ y ++ 0#4 ++ s ++ 0#5)
  | .bexp g x t s o => some (g ++ 29#6 ++ x ++ 0#4 ++ t ++ s ++ 0#4 ++ o)
  | .barr g x t s o => some (g ++ 30#6 ++ x ++ 0#4 ++ t ++ s ++ 0#4 ++ o)
  | .bdrop g x t o => some (g ++ 31#6 ++ x ++ 0#4 ++ t ++ 0#9 ++ o)
  | .migr g x y t s e => some (g ++ 48#6 ++ x ++ y ++ t ++ s ++ 0#4 ++ e)
  | .qcrt g x y t s => some (g ++ 49#6 ++ x ++ y ++ t ++ s ++ 0#5)
  | .qdel g t s => some (g ++ 50#6 ++ 0#8 ++ t ++ s ++ 0#5)
  | .bundleIssue => none
  | .exposedResultLand => none
  | .waitEnd => none
  | .feFreezeTimeout => none
  | .quantumExpiry => none
  | .contextSwitch => none
  | .trapEntry => none
  | .serviceRequest => none
  | .preemption => none
  | .contextResume => none
  | .syncRestart => none
  | .syncTimeout => none
  | .matrixCommit => none
  | .mmasCommit => none
  | .commandAbandon => none
  | .operationComplete => none
  | .operationFault => none
  | .barrierOrderedAction => none
  | .pubPerform => none
  | .cpydDeadline => none
  | .eventRecordEnqueue => none
  | .reductionApply => none
  | .containmentPublish => none
  | .monitorWake => none
  | .walkRetry => none
  | .migrationCommit => none
  | .migrationAbandon => none
  | .arbiterGrant => none
  | .wprogRowStart => none
  | .programPhaseEnd => none
  | .wprogCompletion => none
  | .attrCommit => none
  | .whashCompletion => none
  | .queueDestroy => none
  | .hostTailWrite _ _ => none
  | .hostApertureAccess _ _ _ => none
  | .launchDescriptorPop => none
  | .placementPass => none
  | .contextStart => none
  | .launchCompletion => none
  | .noticeItemDelivery => none
  | .leaseStart => none
  | .leaseGrant => none
  | .grantDeadline => none
  | .leasePrepared => none
  | .leaseScrubDone => none
  | .leaseTestEnd => none
  | .clockStretch _ _ => none
  | .thermalShutdown => none
  | .powerOn => none
  | .reset => none
  | .powerLoss => none
  | .imageRootFormed => none
  | .packageDump => none
  | .getVersion _ => none
  | .getCapabilities _ => none
  | .negotiateAlgorithms _ _ _ _ _ _ => none
  | .getDigests _ => none
  | .getCertificate _ _ => none
  | .challenge _ _ => none
  | .getMeasurements _ _ => none
  | .keyExchange _ _ => none
  | .finish _ => none
  | .unsupportedRequest _ _ => none
  | .sessionEnd _ => none
  | .getState _ _ => none
  | .lock _ _ => none
  | .getReport _ _ => none
  | .start _ _ _ => none
  | .stop _ _ => none
  | .ptRegisterWrite _ _ _ _ => none
  | .partitionScrubDone => none
  | .mgWpmoveWrite _ => none
  | .wpageMoveDone => none
  | .mgRemeasWrite _ => none
  | .mgThermRead => none
  | .managementWrite _ _ => none
  | .fabricAck _ _ => none
  | .laneWidthChange _ _ _ => none
  | .startStepComplete => none
  | .walkComplete => none
  | .loadPipeDataArrival => none
  | .handleEntryArrival => none
  | .imageWriteDrained => none
  | .fabricFlitReceived _ _ _ _ => none

/-- The slot class of each slot index (R4). -/
def slotClassOf (slot : Nat) : SlotClass :=
  match slot with
  | 0 => .S
  | 1 => .V
  | 2 => .V
  | 3 => .M
  | 4 => .C
  | 5 => .C
  | 6 => .A
  | _ => .W

/-- The lowest slot index of a class: where a word stands when it is alone in its bundle. -/
def SlotClass.index : SlotClass → Nat
  | .S => 0
  | .V => 1
  | .M => 3
  | .C => 4
  | .A => 6
  | .W => 7

/-- The template of a stored-bundle header (R39). -/
def headerTemplate (h : Word) : BitVec 8 := bits h 0 8

/-- The run of a stored-bundle header (R39). -/
def headerRun (h : Word) : Nat := (bits h 8 8).toNat

/-- The reserved bits of a stored-bundle header are zero (R39). -/
def headerOk (h : Word) : Bool := bits h 16 16 == 0

/-- The slot indices a template marks present, in ascending order (R39). -/
def templateSlots (t : BitVec 8) : List Nat := (List.range 8).filter (fun i => t.getLsbD i)

/-- The header of a bundle whose only present slot is `slot`, with run 0 (R39). -/
def headerOf (slot : Nat) : Word := BitVec.ofNat 32 (2 ^ slot)

/-- The classes in the order in which a word given without its slot is tried: the opcode table does not name the slot
of a row, and one word means different instructions in different slots (R16). DESIGN CHOICE, Log 4. -/
def tableClasses : List SlotClass := [.S, .V, .A, .W, .M, .C]

/-- The first class of `tableClasses` whose map decodes the word. -/
def tableClassFrom (cs : List SlotClass) (w : Word) : Option (SlotClass × Instr) :=
  match cs with
  | [] => none
  | c :: rest =>
    match decodeSlot c w with
    | .ok i => some (c, i)
    | .error _ => tableClassFrom rest w

/-- The class and the instruction of a word given without its slot. -/
def tableClass (w : Word) : Option (SlotClass × Instr) := tableClassFrom tableClasses w

/-- The instruction the decoder reads from a table word (the host's question); words are one slot word long. -/
def decodeTableWord (nbits w : Nat) : Option Instr :=
  if nbits ≤ 32 then (tableClass (BitVec.ofNat 32 w)).map Prod.snd else none

end Sys2Proof
end

