-- ==== Sys2Proof/Config.lean ====
section
/-! DEFINITION. What the spec fixes for every Rolowick, and the free values: constants without a body, applied to a
counter of State, for what the spec leaves open (DESIGN CHOICE, Log 6). No statement can know a value of them. -/
namespace Sys2Proof.Config

/-- The byte size of A-space (R6). -/
def aSize : Nat := 0x600000
/-- The byte size of I-space (R6). -/
def iSize : Nat := 0x40000
/-- The rows of W-space (R254). -/
def wRows : Nat := 0x180000
/-- The words of an accumulator tile (R5). -/
def tileWords : Nat := 4096
/-- The cores of the package (R4). -/
def cores : Nat := 512
/-- The cycles of a quantum (R221). -/
def quantum : Nat := 65536

/-- A free number: how long an open duration lasts, how far an engine gets in a cycle. -/
opaque freeNat : Nat → Nat
/-- A free truth value: whether an open choice falls one way. -/
opaque freeBool : Nat → Bool
/-- A free word: contents the spec leaves undefined. -/
opaque freeByte : Nat → Byte
/-- A free number for one address at one time: what an undefined range of memory holds. -/
opaque freeByteAt : Nat → Nat → Byte

/-- What CX_TRAPINFO holds where the spec names no value for a cause: a free value for each cycle and core (DESIGN CHOICE, Log 12). -/
opaque freeInfo : Nat → Nat → DWord

/-- The firmware of ctxS and its entry (R234): no part of the spec (DESIGN CHOICE, Log 9). -/
opaque firmware : Nat → Byte
opaque firmwareEntry : Nat
/-- The identifier of the firmware as owner of the group table's entry 255, which the spec does not give (R360, R361). -/
opaque firmwareLaunch : Nat
/-- The package's own number, a fuse (R294). -/
opaque packageNumber : Nat
/-- A routing table as the firmware loads it: next port and cost of a destination package (R427). -/
opaque routePort : Nat → Nat
opaque routeCost : Nat → Nat

/-- What a flit's header and payload hold is not laid out (R426): the fields of a header (0 source, 1 destination, 2 partition, 3 class,
4 stream), the address and the bytes in a payload, and the payload made of a class, an address and bytes. -/
opaque flitField : BitVec 128 → Nat → Nat
opaque flitAddr : BitVec 512 → Nat
opaque flitData : BitVec 512 → List Byte
opaque flitCode : Nat → Nat → List Byte → Nat → Byte

/-- How an image lays out what R237 names without an inner layout: part 0 the header, 1 the MLAT binding, 2 windows and
containment, 3 loop state, 4 a queued operation. -/
opaque frameCode {α : Type} (part : Nat) (contents : α) : Nat
/-- How a dump lays out an item of a section whose encoding R398 leaves open, by section: a copy operation, a core's matrix commands, a
Potting Shed's row, a launch, a KVLD under way, a staged line. -/
opaque dumpCode {α : Type} (section_ : Nat) (contents : α) : List Byte
/-- The measured values of indices 1 to 3, by index and byte: the boot ROM, the firmware, the configuration (R283). -/
opaque measured : Nat → Nat → Byte

/-- The bytes of the messages of an SPDM negotiation, request and response, by what tells them apart (R242). -/
opaque spdmCode {α : Type} (contents : α) : List Byte

/-- The lease period in the firmware's configuration record, which start step 3 loads (R283). -/
opaque configPeriod : Word

/-- The device identity key, a fuse, and what is derived from it at start step 1 (R277, R282): the leaf key, the certificate chain of slot
0, and a signature of a message by a key, which may differ from one time to another. -/
opaque identityKey : List Byte
opaque leafKeyOf : List Byte → List Byte
opaque chainOf : List Byte → List Byte
opaque signature : Nat → List Byte → List Byte → Nat → Byte

/-- The test-pattern rows of a W-bank, written at manufacture: rank, bank and row 0 to 15 (R254, R389). -/
opaque patternRow : Nat → Nat → Nat → BitVec 4096
/-- The patterns for a unit kind that such rows hold: number, stimulus and expected digest; their layout is not given (R389). -/
opaque patternsIn : Nat → (Nat → BitVec 4096) → List (Nat × List Byte × List Byte)
/-- What a unit puts out for a stimulus: by time, unit and run (R389). -/
opaque testOutput : Nat → Nat → Nat → List Byte → List Byte

end Sys2Proof.Config
end

