-- ==== Sys2Proof/Machine/Float.lean ====
section
/-! DEFINITION. Number formats and arithmetic (R51 to R57): exact values, one rounding, flags. A value is taken apart
exactly, computed exactly as a fraction of natural numbers, and rounded once at the end. -/
namespace Sys2Proof

/-- A set of arithmetic flags, in the bit order of CX_FPFLAGS (R54). -/
abbrev FpFlags := BitVec 7

/-- No flag. -/
def flagNone : FpFlags := 0
/-- Invalid operation (R54). -/
def flagNV : FpFlags := 1
/-- Division by zero (R54). -/
def flagDZ : FpFlags := 2
/-- Overflow (R54). -/
def flagOF : FpFlags := 4
/-- Underflow: tiny and inexact (R54). -/
def flagUF : FpFlags := 8
/-- Inexact (R54). -/
def flagNX : FpFlags := 16
/-- An INT32 accumulator wrapped (R54). -/
def flagIOV : FpFlags := 32
/-- A shell overflow under SAT or FLAG (R54). -/
def flagLSHELL : FpFlags := 64

/-- `f` when the condition holds. -/
def flagIf (b : Bool) (f : FpFlags) : FpFlags := if b then f else 0

/-- A binary format by its exponent and fraction widths; the bias is 2^(exp-1) - 1 (R51). -/
structure FloatFmt where
  exp : Nat
  man : Nat
  deriving DecidableEq, Repr

/-- binary64 (R51). -/
def fp64 : FloatFmt := ⟨11, 52⟩
/-- binary32 (R51). -/
def fp32 : FloatFmt := ⟨8, 23⟩
/-- binary16 (R51). -/
def fp16 : FloatFmt := ⟨5, 10⟩
/-- bfloat16 (R51). -/
def bf16 : FloatFmt := ⟨8, 7⟩

/-- The exponent bias. -/
def FloatFmt.bias (f : FloatFmt) : Nat := 2 ^ (f.exp - 1) - 1
/-- The canonical quiet NaN (R51, R52). -/
def FloatFmt.nan (f : FloatFmt) : Nat := (2 ^ f.exp - 1) * 2 ^ f.man + 2 ^ (f.man - 1)
/-- Infinity of a sign. -/
def FloatFmt.inf (f : FloatFmt) (neg : Bool) : Nat :=
  (if neg then 2 ^ (f.exp + f.man) else 0) + (2 ^ f.exp - 1) * 2 ^ f.man
/-- Zero of a sign. -/
def FloatFmt.zero (f : FloatFmt) (neg : Bool) : Nat := if neg then 2 ^ (f.exp + f.man) else 0

/-- An exact value: a NaN, an infinity, or plus or minus m times 2^e. -/
inductive XNum where
  | nan (signalling : Bool)
  | inf (neg : Bool)
  | fin (neg : Bool) (m : Nat) (e : Int)
  deriving DecidableEq, Repr

/-- Take a bit pattern apart (R51); subnormals at their value (R52). -/
def FloatFmt.unpack (f : FloatFmt) (b : Nat) : XNum :=
  let neg := (b / 2 ^ (f.exp + f.man)) % 2 = 1
  let e := (b / 2 ^ f.man) % 2 ^ f.exp
  let m := b % 2 ^ f.man
  if e = 2 ^ f.exp - 1 then
    if m = 0 then .inf neg else .nan (decide (m < 2 ^ (f.man - 1)))
  else if e = 0 then .fin neg m (1 - (f.bias : Int) - f.man)
  else .fin neg (2 ^ f.man + m) ((e : Int) - f.bias - f.man)

/-- The exact value of an integer. -/
def XNum.ofInt (i : Int) : XNum := .fin (decide (i < 0)) i.natAbs 0

/-- A signalling NaN operand (R52). -/
def XNum.isSNaN : XNum → Bool
  | .nan s => s
  | _ => false
/-- A NaN operand. -/
def XNum.isNaN : XNum → Bool
  | .nan _ => true
  | _ => false
/-- A zero of either sign. -/
def XNum.isZero : XNum → Bool
  | .fin _ 0 _ => true
  | _ => false
/-- The sign. -/
def XNum.isNeg : XNum → Bool
  | .nan _ => false
  | .inf n => n
  | .fin n _ _ => n

/-- NV for a signalling operand (R52). -/
def snanFlag (x : XNum) : FpFlags := flagIf x.isSNaN flagNV

/-- The opposite value. -/
def XNum.neg : XNum → XNum
  | .nan s => .nan s
  | .inf n => .inf (!n)
  | .fin n m e => .fin (!n) m e

/-- The finite value `n * 2^e` of an integer significand; a zero is +0. -/
def XNum.ofScaled (n : Int) (e : Int) : XNum := .fin (decide (n < 0)) n.natAbs e

/-- The signed significand of a finite value at exponent `e0`, which is no greater than its own. -/
def XNum.at (x : XNum) (e0 : Int) : Int :=
  match x with
  | .fin n m e => (if n then -1 else 1) * ((m * 2 ^ (e - e0).toNat : Nat) : Int)
  | _ => 0

/-- The exponent of a finite value. -/
def XNum.expOf : XNum → Int
  | .fin _ _ e => e
  | _ => 0

/-- The exact product; 0 times infinity is invalid (R56). -/
def XNum.mul (x y : XNum) : XNum × FpFlags :=
  match x, y with
  | .nan s, .nan t => (.nan false, flagIf (s || t) flagNV)
  | .nan s, _ => (.nan false, flagIf s flagNV)
  | _, .nan t => (.nan false, flagIf t flagNV)
  | .inf n, .inf k => (.inf (n != k), 0)
  | .inf n, .fin k m _ => if m = 0 then (.nan false, flagNV) else (.inf (n != k), 0)
  | .fin k m _, .inf n => if m = 0 then (.nan false, flagNV) else (.inf (n != k), 0)
  | .fin n m e, .fin k l f => (.fin (n != k) (m * l) (e + f), 0)

/-- The exact sum of finite values, and the sign of a zero sum: negative only when both terms are (IEEE 754, RNE). -/
def finAdd (x y : XNum) : XNum :=
  let e0 := min x.expOf y.expOf
  let n := x.at e0 + y.at e0
  if n = 0 then .fin (x.isNeg && y.isNeg) 0 e0 else .ofScaled n e0

/-- The exact sum; opposite infinities are invalid (R56). -/
def XNum.add (x y : XNum) : XNum × FpFlags :=
  match x, y with
  | .nan s, .nan t => (.nan false, flagIf (s || t) flagNV)
  | .nan s, _ => (.nan false, flagIf s flagNV)
  | _, .nan t => (.nan false, flagIf t flagNV)
  | .inf n, .inf k => if n = k then (.inf n, 0) else (.nan false, flagNV)
  | .inf n, .fin _ _ _ => (.inf n, 0)
  | .fin _ _ _, .inf n => (.inf n, 0)
  | .fin n m e, .fin k l f => (finAdd (.fin n m e) (.fin k l f), 0)

/-- The rounding modes (R53, R130). -/
inductive RMode where
  | rne | taz | rz | rp | rm
  deriving DecidableEq, Repr

/-- Round `num / den` to an integer; the flag says whether it is inexact. -/
def roundDiv (mode : RMode) (neg : Bool) (num den : Nat) : Nat × Bool :=
  let q := num / den
  let r := num % den
  if r = 0 then (q, false)
  else
    let up := match mode with
      | .rne => decide (den < 2 * r) || (decide (2 * r = den) && decide (q % 2 = 1))
      | .taz => decide (den ≤ 2 * r)
      | .rz => false
      | .rp => !neg
      | .rm => neg
    (if up then q + 1 else q, true)

/-- `num / den` times 2^k as a fraction. -/
def scaleFrac (num den : Nat) (k : Int) : Nat × Nat :=
  if 0 ≤ k then (num * 2 ^ k.toNat, den) else (num, den * 2 ^ (-k).toNat)

/-- The exponent of the leading bit of the positive fraction `num / den`. -/
def fracLog2 (num den : Nat) : Int :=
  let e : Int := (Nat.log2 num : Int) - (Nat.log2 den : Int)
  let c := scaleFrac num den (-e)
  if c.2 ≤ c.1 then e else e - 1

/-- Round a positive fraction to a format with unbounded exponent below, quantum exponent at least `qmin` and `p`
significant bits: the integer significand, its exponent, and inexactness. -/
def roundSig (mode : RMode) (neg : Bool) (num den p : Nat) (qmin : Option Int) : Nat × Int × Bool :=
  let q0 := fracLog2 num den - ((p : Int) - 1)
  let q := match qmin with
    | some b => max q0 b
    | none => q0
  let c := scaleFrac num den (-q)
  let r := roundDiv mode neg c.1 c.2
  (r.1, q, r.2)

/-- Encode the finite magnitude `k * 2^q` in a format, where it is a member; infinity above the largest (R53). -/
def FloatFmt.encodeFin (f : FloatFmt) (neg : Bool) (k : Nat) (q : Int) : Nat × Bool :=
  let qmin : Int := 1 - (f.bias : Int) - f.man
  -- k * 2^(q - qmin) in units of the smallest subnormal
  let e := (Nat.log2 k : Int) + q
  if k = 0 then (f.zero neg, false)
  else if (f.bias : Int) < e then (f.inf neg, true)
  else if e < 1 - (f.bias : Int) then (f.zero neg + k * 2 ^ (q - qmin).toNat, false)
  else
    let m := (scaleFrac k 1 (q - (e - f.man))).1 / (scaleFrac k 1 (q - (e - f.man))).2
    (f.zero neg + (e + f.bias).toNat * 2 ^ f.man + (m - 2 ^ f.man), false)

/-- Round a positive fraction to a format: result bits and the flags OF, UF and NX; tininess is detected after
rounding (R53). -/
def FloatFmt.roundFrac (f : FloatFmt) (mode : RMode) (neg : Bool) (num den : Nat) : Nat × FpFlags :=
  let r := roundSig mode neg num den (f.man + 1) (some (1 - (f.bias : Int) - f.man))
  let u := roundSig mode neg num den (f.man + 1) none
  let tiny := decide ((Nat.log2 u.1 : Int) + u.2.1 < 1 - (f.bias : Int))
  let enc := f.encodeFin neg r.1 r.2.1
  if enc.2 then (enc.1, flagOF ||| flagNX)
  else (enc.1, flagIf r.2.2 flagNX ||| flagIf (tiny && r.2.2) flagUF)

/-- Round an exact value to a format by RNE (R53); a NaN gives the canonical quiet NaN (R52). -/
def FloatFmt.round (f : FloatFmt) (x : XNum) : Nat × FpFlags :=
  match x with
  | .nan s => (f.nan, flagIf s flagNV)
  | .inf n => (f.inf n, 0)
  | .fin n m e =>
    if m = 0 then (f.zero n, 0)
    else let c := scaleFrac m 1 e; f.roundFrac .rne n c.1 c.2

/-- a + b, rounded once (R82, R122). -/
def fAdd (f : FloatFmt) (a b : Nat) : Nat × FpFlags :=
  let s := (f.unpack a).add (f.unpack b)
  let r := f.round s.1
  (r.1, s.2 ||| r.2)

/-- The bit pattern with the opposite sign. -/
def fNegBits (f : FloatFmt) (a : Nat) : Nat :=
  if (a / 2 ^ (f.exp + f.man)) % 2 = 1 then a - 2 ^ (f.exp + f.man) else a + 2 ^ (f.exp + f.man)

/-- The bit pattern without its sign. -/
def fAbsBits (f : FloatFmt) (a : Nat) : Nat := a % 2 ^ (f.exp + f.man)

/-- a - b, rounded once. -/
def fSub (f : FloatFmt) (a b : Nat) : Nat × FpFlags :=
  let s := (f.unpack a).add (f.unpack b).neg
  let r := f.round s.1
  (r.1, s.2 ||| r.2)

/-- a * b, rounded once. -/
def fMul (f : FloatFmt) (a b : Nat) : Nat × FpFlags :=
  let s := (f.unpack a).mul (f.unpack b)
  let r := f.round s.1
  (r.1, s.2 ||| r.2)

/-- a * b + c, rounded once (R53, R84). -/
def fFma (f : FloatFmt) (a b c : Nat) : Nat × FpFlags :=
  let p := (f.unpack a).mul (f.unpack b)
  let s := p.1.add (f.unpack c)
  let r := f.round s.1
  (r.1, p.2 ||| s.2 ||| r.2)

/-- d - a * b, rounded once (R120). -/
def fFms (f : FloatFmt) (a b d : Nat) : Nat × FpFlags :=
  let p := (f.unpack a).mul (f.unpack b)
  let s := p.1.neg.add (f.unpack d)
  let r := f.round s.1
  (r.1, p.2 ||| s.2 ||| r.2)

/-- a ÷ b, rounded once (R82); special operands by R56. -/
def fDiv (f : FloatFmt) (a b : Nat) : Nat × FpFlags :=
  match f.unpack a, f.unpack b with
  | .nan s, y => (f.nan, flagIf (s || y.isSNaN) flagNV)
  | _, .nan t => (f.nan, flagIf t flagNV)
  | .inf _, .inf _ => (f.nan, flagNV)
  | .inf n, .fin k _ _ => (f.inf (n != k), 0)
  | .fin n _ _, .inf k => (f.zero (n != k), 0)
  | .fin n m e, .fin k l g =>
    if l = 0 then if m = 0 then (f.nan, flagNV) else (f.inf (n != k), flagDZ)
    else if m = 0 then (f.zero (n != k), 0)
    else let c := scaleFrac m l (e - g); f.roundFrac .rne (n != k) c.1 c.2

/-- One step of the integer square root: add the bit 2^i if its square still fits. -/
def isqrtFrom (n : Nat) : Nat → Nat → Nat
  | 0, acc => acc
  | i + 1, acc =>
    if (acc + 2 ^ i) * (acc + 2 ^ i) ≤ n then isqrtFrom n i (acc + 2 ^ i) else isqrtFrom n i acc

/-- The integer square root. -/
def isqrt (n : Nat) : Nat := isqrtFrom n (Nat.log2 n / 2 + 1) 0

/-- A fraction that rounds as the square root of `num / den` does: the root to 128 fraction bits, and half a unit
where it is not exact. -/
def sqrtFrac (num den : Nat) : Nat × Nat :=
  let n := num * 2 ^ 256 / den
  let q := isqrt n
  let exact := decide (q * q = n) && decide (num * 2 ^ 256 % den = 0)
  (2 * q + (if exact then 0 else 1), 2 ^ 129)

/-- A fraction that rounds as the square root of `m * 2^e` does, with `m` not 0: the exponent is made even. -/
def sqrtDyadic (m : Nat) (e : Int) : Nat × Nat :=
  let h := e.fdiv 2
  let c := sqrtFrac (m * 2 ^ (e - 2 * h).toNat) 1
  scaleFrac c.1 c.2 h

/-- √a, rounded once (R82); of a negative value: NaN, NV (R56). -/
def fSqrt (f : FloatFmt) (a : Nat) : Nat × FpFlags :=
  match f.unpack a with
  | .nan s => (f.nan, flagIf s flagNV)
  | .inf n => if n then (f.nan, flagNV) else (f.inf false, 0)
  | .fin n m e =>
    if m = 0 then (f.zero n, 0)
    else if n then (f.nan, flagNV)
    else let c := sqrtDyadic m e; f.roundFrac .rne false c.1 c.2

/-- The order of two values that are no NaN; the zeros are equal. -/
def XNum.lt (x y : XNum) : Bool :=
  match x, y with
  | .nan _, _ => false
  | _, .nan _ => false
  | .inf n, .inf k => n && !k
  | .inf n, .fin _ _ _ => n
  | .fin _ _ _, .inf k => !k
  | .fin n m e, .fin k l g =>
    decide ((XNum.fin n m e).at (min e g) < (XNum.fin k l g).at (min e g))

/-- Equality of two values that are no NaN. -/
def XNum.eqv (x y : XNum) : Bool := !x.isNaN && !y.isNaN && !x.lt y && !y.lt x

/-- -0 counts as less than +0 (R56). -/
def XNum.ltMin (x y : XNum) : Bool := x.lt y || (x.isZero && y.isZero && x.isNeg && !y.isNeg)

/-- Minimum or maximum (R56). -/
def fMinMax (f : FloatFmt) (max : Bool) (a b : Nat) : Nat × FpFlags :=
  let x := f.unpack a
  let y := f.unpack b
  let fl := snanFlag x ||| snanFlag y
  if x.isNaN && y.isNaN then (f.nan, fl)
  else if x.isNaN then (b, fl)
  else if y.isNaN then (a, fl)
  else if max then (if x.ltMin y then b else a, fl)
  else (if y.ltMin x then b else a, fl)

/-- The magnitude of a with the sign of b (R56): no flag, payloads untouched. -/
def fSgn (f : FloatFmt) (a b : Nat) : Nat :=
  a % 2 ^ (f.exp + f.man) + (b / 2 ^ (f.exp + f.man)) % 2 * 2 ^ (f.exp + f.man)

/-- The floating compares eq, ne, lt, le (R56). -/
def fCmp (f : FloatFmt) (cc : Nat) (a b : Nat) : Bool × FpFlags :=
  let x := f.unpack a
  let y := f.unpack b
  let un := x.isNaN || y.isNaN
  let quiet := snanFlag x ||| snanFlag y
  match cc with
  | 0 => (x.eqv y, quiet)
  | 1 => (!x.eqv y, quiet)
  | 2 => (x.lt y, flagIf un flagNV)
  | _ => (x.lt y || x.eqv y, flagIf un flagNV)

/-- Round a value to an integer in `lo .. hi`: beyond the range it saturates with NV, a NaN gives 0 with NV, and an
inexact result sets NX (R53, R56). -/
def toIntRange (mode : RMode) (lo hi : Int) (x : XNum) : Int × FpFlags :=
  match x with
  | .nan _ => (0, flagNV)
  | .inf n => (if n then lo else hi, flagNV)
  | .fin n m e =>
    let c := scaleFrac m 1 e
    let r := roundDiv mode n c.1 c.2
    let v : Int := if n then -(r.1 : Int) else r.1
    if v < lo then (lo, flagNV) else if hi < v then (hi, flagNV) else (v, flagIf r.2 flagNX)

/-- Round to an integral value in the format itself (R130): a zero result keeps the sign, infinities are unchanged. -/
def fRound (f : FloatFmt) (mode : RMode) (a : Nat) : Nat × FpFlags :=
  match f.unpack a with
  | .nan s => (f.nan, flagIf s flagNV)
  | .inf n => (f.inf n, 0)
  | .fin n m e =>
    let c := scaleFrac m 1 e
    let r := roundDiv mode n c.1 c.2
    if r.1 = 0 then (f.zero n, flagIf r.2 flagNX)
    else ((f.round (.fin n r.1 0)).1, flagIf r.2 flagNX)

/-- ln 2 times 2^256, rounded down. -/
def ln2Scaled : Nat := 80260960185991308862233904206310070533990667611589946606122867505419956976171

/-- The sum of the exponential series: `term` is x^n / n! times 2^256. -/
def expSeries (x : Nat) : Nat → Nat → Nat → Nat → Nat
  | 0, _, _, acc => acc
  | k + 1, n, term, acc => expSeries x k (n + 1) (term * x / 2 ^ 256 / (n + 1)) (acc + term)

/-- 2^(num / 2^k) times 2^256 for a fraction below 1. -/
def exp2Frac (num k : Nat) : Nat := expSeries (ln2Scaled * num / 2 ^ k) 80 0 (2 ^ 256) 0

/-- The sum of z^(2n+1) / (2n+1), with `pw` the power times 2^256. -/
def atanhSeries (z2 : Nat) : Nat → Nat → Nat → Nat → Nat
  | 0, _, _, acc => acc
  | k + 1, n, pw, acc => atanhSeries z2 k (n + 1) (pw * z2 / 2 ^ 256) (acc + pw / (2 * n + 1))

/-- ln(num / den) times 2^256, for a fraction of 1 to 2. -/
def lnFrac (num den : Nat) : Nat :=
  let z := (num - den) * 2 ^ 256 / (num + den)
  2 * atanhSeries (z * z / 2 ^ 256) 100 0 z 0

/-- 2^a (R57). The fraction is computed to 256 bits (DESIGN CHOICE, Log 8). -/
def fExp2 (a : Nat) : Nat × FpFlags :=
  match fp32.unpack a with
  | .nan s => (fp32.nan, flagIf s flagNV)
  | .inf n => (if n then 0 else fp32.inf false, 0)
  | .fin n m e =>
    let c := scaleFrac m 1 e
    let whole : Int := if n then -((c.1 + c.2 - 1) / c.2 : Nat) else (c.1 / c.2 : Nat)
    if c.1 = 0 then (0x3F800000, 0)
    else if 128 ≤ whole then (fp32.inf false, flagOF ||| flagNX)
    else if whole < -200 then (0, flagUF ||| flagNX)
    else
      -- fractional part over c.2, which is a power of two
      let frac := if n then (c.2 - c.1 % c.2) % c.2 else c.1 % c.2
      let r := if frac = 0 then scaleFrac 1 1 whole
        else scaleFrac (2 * exp2Frac frac (Nat.log2 c.2) + 1) (2 ^ 257) whole
      fp32.roundFrac .rne false r.1 r.2

/-- log2 a (R57). The logarithm is computed to 256 bits (DESIGN CHOICE, Log 8). -/
def fLog2 (a : Nat) : Nat × FpFlags :=
  match fp32.unpack a with
  | .nan s => (fp32.nan, flagIf s flagNV)
  | .inf n => if n then (fp32.nan, flagNV) else (fp32.inf false, 0)
  | .fin n m e =>
    if m = 0 then (fp32.inf true, flagDZ)
    else if n then (fp32.nan, flagNV)
    else
      let k := Nat.log2 m
      let whole : Int := (k : Int) + e
      if m = 2 ^ k then fp32.round (.ofInt whole)
      else
        let v : Int := whole * ln2Scaled + lnFrac m (2 ^ k)
        fp32.roundFrac .rne (decide (v < 0)) (2 * v.natAbs + 1) (2 * ln2Scaled)

/-- 1 ÷ a (R57). -/
def fRcp (a : Nat) : Nat × FpFlags :=
  match fp32.unpack a with
  | .nan s => (fp32.nan, flagIf s flagNV)
  | .inf n => (fp32.zero n, 0)
  | .fin n m e =>
    if m = 0 then (fp32.inf n, flagDZ)
    else let c := scaleFrac 1 m (-e); fp32.roundFrac .rne n c.1 c.2

/-- 1 ÷ √a (R57). -/
def fRsq (a : Nat) : Nat × FpFlags :=
  match fp32.unpack a with
  | .nan s => (fp32.nan, flagIf s flagNV)
  | .inf n => if n then (fp32.nan, flagNV) else (0, 0)
  | .fin n m e =>
    if m = 0 then (fp32.inf n, flagDZ)
    else if n then (fp32.nan, flagNV)
    else
      -- 1/√(m 2^e) with the exponent made even: √(1/m') times 2^(-h)
      let h := e.fdiv 2
      let c := sqrtFrac 1 (m * 2 ^ (e - 2 * h).toNat)
      let r := scaleFrac c.1 c.2 (-h)
      fp32.roundFrac .rne false r.1 r.2

end Sys2Proof
end

