-- ==== Sys2Proof/Machine/State.lean ====
section
/-! DEFINITION. The state of a Rolowick package as plain data (INVENTORY.md, State): contexts, cores, dies and the
package, and the machine right after reset. -/
namespace Sys2Proof.Machine
open Sys2Proof

/-- The trap causes, by code (R231). -/
inductive Cause where
  | illegal | priv | align | abound | stklim | wstore | wbound | layout | xlate | prot | dchk | poison
  | kvhandle | kvcow | lshell | queue | trapi | ifetch | syncto | partition
  deriving DecidableEq, Repr

/-- What a trap is taken with: the cause, the slot of the faulting instruction, CX_TRAPINFO, and the stream of an
engine fault (R227, R228). -/
structure Trap where
  cause : Cause
  slot : Nat
  info : DWord
  stream : Nat := 0
  deriving DecidableEq, Repr

/-- An accumulator format (R139). -/
inductive AccFmt where
  | i32 | f32 | f64
  deriving DecidableEq, Repr

/-- One level of a nest register: count, and the three strides (R91). -/
structure NestLevel where
  count : BitVec 16 := 0
  sa : BitVec 24 := 0
  sb : BitVec 24 := 0
  sd : BitVec 24 := 0
  deriving DecidableEq, Repr

/-- The six levels of a nest register, level 0 first (R91). -/
abbrev Nest := List NestLevel

/-- One destination of an exposed result (R36, R224, R225). Masked writes leave the other bits. -/
inductive RegWrite where
  | s (r : Nat) (v : Word)
  | a (r : Nat) (v : DWord)
  | p (r : Nat) (v : Bool)
  | v (r : Nat) (value mask : VReg)
  | vq (r : Nat) (v : BitVec 64)
  /-- A row (or column) of a tile register: 32 containers (R138). -/
  | q (tile idx : Nat) (column : Bool) (v : List Word)
  /-- A row of an accumulator tile from 64 exact lanes of a type (R141). -/
  | accRow (tile row type : Nat) (lanes : List Nat)
  /-- MZERO of one physical tile (R176). -/
  | mzero (tile : Nat) (fmt : AccFmt) (scale : Word)
  /-- The commit of a matrix command, by its identity (R170). -/
  | commit (cmd : Nat)
  deriving DecidableEq, Repr

/-- An exposed result in flight: when it is due on the context's own clock, its place in issue order, what it writes
and the flags it sets (R15, R36, R55), and whether the value is poisoned (R392). -/
structure Pend where
  due : Nat
  seq : Nat
  writes : List RegWrite
  flags : FpFlags := 0
  poison : Bool := false
  deriving DecidableEq, Repr

/-- A place in a bundle stream: NOP bundles of a run still to issue, then the stored bundle at `pc` (R39, R40). -/
structure Pos where
  owed : Nat
  pc : Nat
  deriving DecidableEq, Repr

/-- A stored bundle, expanded: its header's run, the address of the next header and the eight slot words (R13, R39). -/
structure Expanded where
  run : Nat
  next : Nat
  words : List Word
  headerOk : Bool
  /-- The first of its words that was poisoned when it was expanded (R408). -/
  bad : Option Nat := none
  deriving DecidableEq, Repr

/-- A loop configuration (R90). -/
structure LoopCfg where
  nest : Nest
  levels : Nat
  ax : Nat
  ay : Nat
  deriving DecidableEq, Repr

/-- The loop state of a context (R90, R93, R407). -/
structure LoopState where
  cfg : Option LoopCfg := none
  active : Bool := false
  /-- ctr[L] of each level. -/
  ctr : List Nat := []
  /-- The expanded bundles of the body. -/
  len : Nat := 0
  /-- The index in the body of the next bundle. -/
  pos : Nat := 0
  /-- The place of the first body bundle. -/
  first : Pos := ⟨0, 0⟩
  /-- The place after the last body bundle. -/
  last : Pos := ⟨0, 0⟩
  /-- The places of the body's stored bundles and their index in the body. -/
  places : List (Nat × Nat) := []
  exitReq : Nat := 0
  /-- The level whose strides are to be applied in the next cycle. -/
  stepDue : Option Nat := none
  /-- The body as it stood when the loop began (R407), by header address. -/
  buf : Map Expanded := []
  deriving DecidableEq, Repr

/-- A shadow window (R190). -/
structure Window where
  base : Nat
  partner : Nat
  size : Nat
  exchanged : Bool := false
  deriving DecidableEq, Repr

/-- An entry of a containment output list: G-virtual base and length (R111). -/
structure OutRange where
  base : DWord
  len : Word
  deriving DecidableEq, Repr

/-- An open containment region (R111, R395). -/
structure Region where
  id : Nat
  handler : Nat
  outputs : List OutRange
  deriving DecidableEq, Repr

/-- What a context waits for (R75, R97 to R101, R153, R206). -/
inductive Wait where
  /-- A barrier object's phase bit to differ from the parity (R97). -/
  | barrier (addr : Nat) (par : Bool)
  /-- A record addressed to the context (R98). -/
  | event
  /-- An entry of a queue: code and pair destinations, and the A-space destination (R100). -/
  | queuePop (queue s p addr slotSeq seq : Nat)
  /-- Room in a queue for 64 bytes (R101). -/
  | queuePush (queue : Nat) (item : List Byte) (slotSeq : Nat)
  /-- A waiting pop that has been given its entry in this cycle, and a waiting push that has placed its item: the waits end with the
  cycle (R356). -/
  | queueTaken (s p addr : Nat) (item : List Byte) (bad : Bool) (seq : Nat)
  | queuePlaced
  /-- Every WPROG issued before (R206). -/
  | wprogs (before : Nat)
  /-- A word to become full (or empty): the bundle has not issued (R153). -/
  | word (addr : Nat) (full : Bool)
  /-- The fetch unit's discard, after the context's I-space copies (R94, R406). -/
  | ifence (before left : Nat)
  deriving DecidableEq, Repr

/-- Poison marks of a context's registers, one bit each (R392). -/
structure PoisonMarks where
  s : BitVec 32 := 0
  a : BitVec 16 := 0
  p : BitVec 8 := 0
  v : BitVec 32 := 0
  vq : BitVec 8 := 0
  q : BitVec 4 := 0
  deriving DecidableEq, Repr

/-- The transfer the issuing bundle has chosen (R89): the target, and the cycles from issue to the target's issue. -/
inductive Xfer where
  | none
  /-- BR, BRL, JR, JRL, RET: the target, bubbles after this cycle, and whether it is a loop exit candidate. -/
  | jump (target bubbles : Nat) (switchHalf : Bool)
  /-- The body ends at once: LBODY with a zero count (R92). -/
  | skipBody (len : Nat)
  /-- LBODY starts a loop of this many bundles. -/
  | startBody (len : Nat)
  /-- ERET: resume at CX_TRAPPC (R230). -/
  | resume (discard : Bool)
  /-- A precise trap was taken in this bundle: nothing advances. -/
  | trapped
  deriving DecidableEq, Repr

/-- The life of a context slot (R219, R233, R236). -/
inductive Life where
  | free
  /-- Placed, with its start still to happen (R218). -/
  | placed
  | live
  | halted
  /-- LEAVE executed: drains (R106). -/
  | leaving
  | left
  | stopped
  /-- Being saved for pre-emption (R236). -/
  | saving
  deriving DecidableEq, Repr

/-- A trap or an end that waits for the bundle's run (R110, R114, R231). -/
inductive AfterRun where
  | none
  | trap (t : Trap)
  | halt
  deriving DecidableEq, Repr

/-- A SYNC that a pre-emption interrupted (R364): its group, the cycle of the SYNC, and the restart cycle once the phase
has completed. -/
structure SyncSave where
  group : Nat
  issued : Nat
  arrived : Bool := true
  release : Option Nat
  deriving DecidableEq, Repr

/-- A user context, or the service context (R214). -/
structure Ctx where
  s : Map Word := []
  a : Map DWord := []
  p : BitVec 16 := 0
  v : Map VReg := []
  vq : Map (BitVec 64) := []
  q : Map Word := []
  n : Map Nest := []
  fmt : Map Word := []
  lfmt : Map Word := []
  mcfg : Word := 0
  mscale : Word := 0x3F800000
  mlat : Word := 0
  mlatBase : DWord := 0
  trapVec : DWord := 0
  trapCause : Word := 0
  trapPc : DWord := 0
  trapInfo : DWord := 0
  stkLim : Word := 0
  fpFlags : FpFlags := 0
  /-- Flags set in this cycle: SYSRD sees them from the next (R55). -/
  fpPend : FpFlags := 0
  heapBase : DWord := 0
  heapLim : DWord := 0
  heapOff : DWord := 0
  contain : List Region := []
  rowProg : Word := 0
  prio : Word := 0
  svcSel : Word := 0
  inTrap : Bool := false
  priv : Bool := false
  pc : Nat := 0
  /-- The half of I-space the context runs in (R404). -/
  liveHalf : Nat := 0
  /-- NOP bundles of a run still to issue. -/
  owedN : Nat := 0
  /-- Bubbles of SNOP still to give. -/
  owedB : Nat := 0
  /-- Of CX_TRAPCAUSE.OWED, the SNOP bubbles (DEDUCED, Log 11). -/
  savedB : Nat := 0
  bubbles : Nat := 0
  loop : LoopState := {}
  suspended : LoopState := {}
  windows : Map Window := []
  pend : List Pend := []
  /-- Captured results; `due` is m (R224). -/
  replay : List Pend := []
  /-- The context's clock at the capture: b of R224. -/
  replayAt : Nat := 0
  /-- ERET has armed the replay: the next bundle that issues is B. -/
  replayArmed : Bool := false
  /-- The context counter (R113). -/
  clock : Nat := 0
  /-- The counter's value at which the quantum began (R221). -/
  quantumAt : Nat := 0
  quantumDone : Bool := false
  life : Life := .free
  wait : Option Wait := none
  /-- The wait is over: the next bundle issues in the next cycle (R75). -/
  waitOver : Bool := false
  /-- Held for a service request (R219, R234). -/
  svcHeld : Bool := false
  after : AfterRun := .none
  /-- A trap or an end that still waited for its run when an interruption came; ERET brings it back (R110, R231). -/
  savedAfter : AfterRun := .none
  /-- Engine traps to take before the next bundle (R231). -/
  engineTraps : List Trap := []
  xfer : Xfer := .none
  poison : PoisonMarks := {}
  launch : Nat := 0
  launchCtx : Nat := 0
  originRank : Nat := 0
  part : Nat := 0
  tileBase : Nat := 0
  tileCount : Nat := 0
  /-- When it started, for the choice of a victim (R236). -/
  startedAt : Nat := 0
  /-- The frozen cycles its LDF or STE has waited (R153). -/
  feFrozen : Nat := 0
  /-- The identity of the context: no two contexts of a package share one. -/
  tag : Nat := 0
  /-- ctxS has refused the page its KVAPP needs, by its handle: the bundle at this place traps KVCOW (R204, R346). -/
  kvRefused : Option (DWord × Nat) := none
  /-- The walk or page request its held bundle waits for (R234). -/
  svcFor : Bool := false
  /-- A SYNC interrupted by a pre-emption, to be taken up on resume (R364). -/
  syncSaved : Option SyncSave := none
  /-- The launch dump of its stop has been written (R398). -/
  dumped : Bool := false
  /-- The first operation issued after the trap whose handler runs: a deadline of an earlier one counts from B (R349). -/
  trapOp : Nat := 0
  /-- The number of the core's next result or command as the trap found it: the context's commands below it came before (R224). -/
  trapSeq : Nat := 0
  /-- OWED as the trap found it: B of R224 is the first of these bundles and bubbles. -/
  replayOwed : Nat := 0
  /-- The run of a TRAP or a HALT has been cut short by the end of a loop's pass: it takes effect at once (R93, R114). -/
  afterNow : Bool := false
  /-- The trace of returns (R87): the header address of each RET's bundle and its target, latest first. -/
  returns : List (Nat × Nat) := []
  deriving DecidableEq, Repr

/-- An accumulator tile (R139): words in row order, and poison by element (R179). -/
structure Tile where
  fmt : AccFmt := .f32
  scale : Word := 0x3F800000
  elems : Map Word := []
  poison : Map Bool := []
  deriving DecidableEq, Repr

/-- The kinds of matrix command (R172, R174, R175). -/
inductive MKind where
  | mma | mmv | mmas
  deriving DecidableEq, Repr

/-- The heap window's registers, as an instruction read them at issue (R290, R291). -/
structure Heap where
  base : DWord := 0
  lim : DWord := 0
  off : DWord := 0
  deriving DecidableEq, Repr

/-- A page an operation has translated into (R295): the virtual page, the physical page, the log2 of its size, its
permissions, and the address of its leaf entry. -/
structure PageHold where
  va : Nat
  pa : Nat
  log2 : Nat
  write : Bool
  user : Bool
  entry : Nat
  /-- The package it lies in, when that is another one. -/
  pkg : Option Nat := none
  /-- It was translated while a migration copied it: reads proceed from the source, writes wait (R300). -/
  copying : Bool := false
  deriving DecidableEq, Repr

/-- What a chunk adds to one element (R71, R72): its exact sum, if it has a product, the scale that ends its block, and poison. -/
structure Term where
  elem : Nat
  sum : Option (XNum × FpFlags)
  scale : Option XNum
  bad : Bool
  deriving DecidableEq, Repr

/-- The terms of a chunk or row, its number, and whether the sums stand at a block boundary after it. -/
structure ChunkTerms where
  chunk : Nat
  ends : Bool
  terms : List Term
  deriving DecidableEq, Repr

/-- A matrix command issued and not committed (R167 to R180, R245). -/
structure MCmd where
  id : Nat
  ctx : Nat
  kind : MKind
  /-- The relative tile named, and the physical one. -/
  acc : Nat
  tile : Nat
  cfg : Word
  scale : Word
  nest : Nest
  /-- Levels of an MMA (R172). -/
  levels : Nat
  baseA : DWord
  baseB : DWord
  /-- Starts from the tile's values. -/
  accumulate : Bool
  mlat : Word
  mlatBase : DWord
  heap : Heap
  fmtA : Word
  fmtB : Word
  /-- The issue cycle on the context's clock, and the commit of an MMAS on the core's unfrozen cycles. -/
  issued : Nat
  due : Nat
  /-- Engine cycles since issue: chunk i is consumed at 12 + i * period (R245). -/
  age : Nat
  period : Nat
  /-- Chunks or rows in all, those skipped by a restart, and those consumed since. -/
  total : Nat
  skip : Nat
  next : Nat
  /-- Array cycles from c+12 (R169). -/
  arrayTime : Nat
  /-- Skip bytes of an MMAS, its barrier object or 0, its event (R175). -/
  skips : List (BitVec 8)
  barrier : Nat
  event : Bool
  /-- The tile's format as the command reads it. -/
  tileFmt : AccFmt
  /-- Sums so far: 4,096 results in row order, in the accumulator format. -/
  sums : List Nat
  /-- Exact partials of the open block of each element, under a scale binding (R72). -/
  partials : List XNum
  /-- Sums at the last block boundary, for a restart under a binding (R252). -/
  blockSums : List Nat
  blockStep : Nat
  blockFlags : FpFlags := 0
  blockPoison : Map Bool := []
  /-- Chunks consumed before the tile's starting values were read, in a hold's frozen cycles or while the context was away
  (R169, R170). -/
  early : List ChunkTerms := []
  flags : FpFlags
  rowsUsed : Nat
  colsUsed : Nat
  poison : Map Bool
  /-- The row taken from the B port (R173), and its poison. -/
  portRow : Row
  portPoison : Bool
  /-- The extra cycles its next chunk still owes to bank conflicts (R246), once they have been found. -/
  stall : Option Nat
  /-- A W-slot read took the port in the cycle its row was due (R174). -/
  wWait : Bool
  /-- The W row that is due has been read, and is in `portRow`. -/
  taken : Bool := false
  /-- A-space as the cycle of a row that waits for the port found it (R174, R245). -/
  seen : Option (Map Byte × Map Bool) := none
  /-- The lat8 words of A-space of the current word position, by column (R246). -/
  latVal : Map Nat := []
  latBad : Map Bool := []
  /-- How far its load pipes have fetched the G-space operands of A and of B (R247), chunk by chunk, and what they
  fetched: values and poison by place. -/
  fetchA : Nat
  fetchB : Nat
  fetchVal : Map Nat
  fetchBad : Map Bool
  /-- Lines of G-space its load pipes hold, by pipe, package and physical line (R247). -/
  lines : Map (List (Byte × Bool)) := []
  /-- Pages its load pipes have translated (R294). -/
  pages : List PageHold
  /-- Scale rows read so far (R177, R258). -/
  scaleRows : Map Row
  scaleBad : Map Bool
  /-- Its commit was discarded: it finishes its arithmetic and writes nothing (R171). -/
  discarded : Bool := false
  /-- The fault that a load pipe has met, by pipe, 0 of A and 1 of B: the chunk that needs the operand, and the trap (R179, R247). -/
  faults : Map (Nat × Trap) := []
  /-- The attributes of the W-pages it reads, as it was checked against them (R257). -/
  attrs : Map Word := []
  /-- Cycles that the array still stalls for a corrected row of a context that does not hold the width (R223, R270). -/
  pause : Nat := 0
  /-- Partition of its context, and whether it is privileged. -/
  part : Nat
  priv : Bool
  deriving DecidableEq, Repr

/-- A row at the B port, or in flight to it (R173). -/
structure PortRow where
  /-- Engine cycles until it arrives; 0 once it is there. -/
  wait : Nat
  ctx : Nat
  data : Row
  poison : Bool
  /-- MSTOP has discarded it. -/
  dropped : Bool
  deriving DecidableEq, Repr

/-- What walks: nest levels with their strides (R188). -/
structure Walk where
  src : DWord
  dst : DWord
  nest : Nest
  deriving DecidableEq, Repr

/-- What a C-slot operation does once its stream lets it (07). -/
inductive CKind where
  /-- CPY: flags .sh, .crc and .i (R188, R189). -/
  | cpy (w : Walk) (sh crc ispace : Bool)
  /-- CPYD to a plain A-space offset (R192). -/
  | cpyd (w : Walk)
  | gath (dst src list : DWord) (size count : Nat) (sh : Bool)
  | scat (dst src list : DWord) (size count : Nat)
  | pub (window : Nat)
  | drain
  | xfence (mask : BitVec 16)
  /-- AMO: its operands, and whether one is poisoned (R392). -/
  | amo (op : Nat) (addr : DWord) (old : Nat) (operand operand2 : Word) (bad : Bool)
  | red (op : Nat) (addr : DWord) (src count : Nat)
  | cwb (op : Nat) (addr : DWord) (size : Nat)
  | kvld (handle : DWord) (dst first count head tensor : Nat)
  | kvapp (handle : DWord) (src count : Nat)
  | kvfork (handle dst : DWord)
  | kvrel (handle : DWord)
  | wprog (core row src count : Nat)
  | wattr (core row : Nat) (word : Word)
  | whash (row count dst : Nat)
  /-- A barrier instruction with .o: 1 BEXP, 2 BARR, 3 BDROP (R202). -/
  | barrierOp (op addr : Nat) (bytes : Word)
  | migr (src dst : DWord) (size : Nat)
  | qcrt (mem : DWord) (log2 : Nat) (dst : Nat)
  | qdel (queue : Nat)
  deriving DecidableEq, Repr

/-- A C-slot operation issued and not complete (R183 to R187). -/
structure COp where
  id : Nat
  ctx : Nat
  tag : Nat
  launch : Nat
  part : Nat
  priv : Bool
  heap : Heap
  launchCtx : Nat
  originRank : Nat
  engine : Nat
  stream : Nat
  kind : CKind
  /-- Its barrier object, if it names one; whether it asks for an event record. -/
  barrier : Option Nat
  event : Bool
  /-- The issue cycle of the core cycle counter. -/
  issued : Nat := 0
  /-- Its stream has let it begin reading. -/
  begun : Bool := false
  /-- A stage of a kind that has several, and the run, element, row or page it is at. -/
  stage : Nat := 0
  unit : Nat := 0
  /-- Pieces of the run still to read and to write, each an offset and a length. -/
  todoR : List (Nat × Nat) := []
  todoW : List (Nat × Nat) := []
  /-- Bytes of the run read, by offset, and the poisoned ones. -/
  buf : Map Byte := []
  bufBad : Map Bool := []
  /-- The CRC of the bytes before the last four seen, those four, and whether a byte was poisoned (R189, R408). -/
  crc : Word := 0xFFFFFFFF
  tail : List Byte := []
  crcBad : Bool := false
  /-- Bytes written so far, for its barrier arrival. -/
  bytes : Nat := 0
  /-- The deadline on its context's own clock (R192, R349). -/
  deadline : Option Nat := none
  /-- All writes performed: completion waits for its record (R99). -/
  performed : Bool := false
  /-- Rows remapped, the queue number created, the old value of an AMO, a status. -/
  result : Nat := 0
  /-- A row of a WPROG has failed (R265). -/
  failed : Bool := false
  /-- The MMVs that its next row, or its attribute change, waits for: those outstanding when it fell due (R262). -/
  rowWaits : Option (List Nat) := none
  /-- Regions of containment it was issued in, innermost first (R395). -/
  region : List Region := []
  /-- A countdown. -/
  delay : Nat := 0
  /-- The state of a hash: eight words (R207). -/
  hash : List (BitVec 64) := []
  hashBad : Bool := false
  /-- Pages it has translated into (R295). -/
  pages : List PageHold := []
  /-- The KV pages that a KVLD holds as a reader: number and address; the place of its rows in a page, and their size. -/
  kvPages : List (Nat × Nat) := []
  kvOff : Nat := 0
  kvRow : Nat := 0
  /-- A fault met: the operation stops (R186). -/
  fault : Option Trap := none
  deriving DecidableEq, Repr

/-- An event record of 16 bytes, as a little-endian number (R98). -/
abbrev Record := BitVec 128

/-- A barrier update due in a cycle: 0 BINIT, 1 BEXP, 2 arrival, 3 drop (R201, R202, R185). -/
structure BarrierUpd where
  addr : Nat
  op : Nat
  bytes : Word
  expn : BitVec 16 := 0
  crc : Bool := false
  /-- Cycles until it acts. -/
  wait : Nat := 0
  deriving DecidableEq, Repr

/-- A record the full queue holds back, and the update that waits with it (R99). -/
structure HeldRecord where
  record : Record
  upd : Option BarrierUpd
  /-- The operation that completes with it. -/
  op : Option Nat
  deriving DecidableEq, Repr

/-- A G-space write of one aligned word, not yet visible to other cores (R310, DESIGN CHOICE, Log 7), or staged in a containment region
(R395): the bytes it writes. -/
structure GWrite where
  addr : Nat
  mask : BitVec 4
  val : Word
  poison : Bool
  /-- The operation that wrote it, and the streams whose order it keeps: context tag times 16 plus stream. -/
  op : Nat
  streams : List Nat
  /-- A later effect of one of its streams is in this core's own A-space or K-space (R308). -/
  covered : Bool := false
  /-- The context, and the region it is staged in. -/
  tag : Nat := 0
  region : Nat := 0
  deriving DecidableEq, Repr

/-- A service request (R234): kind, slot, details s3 to s6 and a2, the core's operation or context it is for. -/
structure SvcReq where
  kind : Nat
  slot : Nat
  s3 : Word := 0
  s4 : Word := 0
  s5 : Word := 0
  s6 : Word := 0
  a2 : DWord := 0
  /-- The page-table entry it is for (R297). -/
  entry : Option Nat := none
  /-- It holds the user context of its slot (R234), and that context's identity. -/
  holds : Bool := false
  tag : Nat := 0
  escalated : Bool := false
  /-- The partition whose KV tables a request of kind 2 is about (R346). -/
  part : Nat := 0
  deriving DecidableEq, Repr

/-- A KVLD under way holds a reader of a page (R345): its core and number, the partition and the page. -/
structure KvRead where
  rank : Nat
  op : Nat
  part : Nat
  page : Nat
  /-- The stream of its operation, in which its changes of the page's entry are ordered (R345). -/
  key : Nat
  deriving DecidableEq, Repr

/-- A SYNC a core waits in (R102). -/
structure SyncWait where
  group : Nat
  ctx : Nat
  issued : Nat
  /-- The arrival stands in the current phase; otherwise it waits for the next phase (R104). -/
  arrived : Bool
  release : Option Nat
  deriving DecidableEq, Repr

/-- An atomic's word, which other cores still read as it was (R310, R311): the core that holds the line, and the streams
of the atomics. -/
structure AmoHold where
  rank : Nat
  addr : Nat
  old : Word
  poison : Bool
  streams : List Nat
  /-- A later effect of one of its streams is in its core's own A-space or K-space (R308). -/
  covered : Bool := false
  deriving DecidableEq, Repr

/-- Life of a spare row's claim and one remap entry (R264). -/
structure Remap where
  row : Nat
  spare : Nat
  deriving DecidableEq, Repr

/-- A stored copy of a bank's remap table (R264): its sequence number, the spares that serve a row and those that are retired, and
whether a row of it reads poisoned. -/
structure RemapCopy where
  seq : Nat := 0
  remaps : List Remap := []
  dead : List Nat := []
  bad : Bool := false
  deriving DecidableEq, Repr

/-- A row that failed under R265 in a WPROG that is not complete yet: the issuing core and operation, the core and the row, and
whether its source was poisoned (R392). -/
structure RowFailure where
  opRank : Nat
  op : Nat
  core : Nat
  row : Nat
  bad : Bool
  deriving DecidableEq, Repr

/-- Where a cell error is (R147, R270, R387, R398, R408): a word of A-space or of I-space, an accumulator element, a quarter of a
physical row of a W-bank (logical rows by index, then spares, then reserved rows), a line of G-space in a unit that holds it, a line of
H-space, a unit with no data a program can reach (a lane), or a structure whose loss is fatal, by a code. -/
inductive Cell where
  | aWord (rank word : Nat)
  | iWord (rank word : Nat)
  | acc (rank tile elem : Nat)
  | wQuarter (rank bank index quarter : Nat)
  | gLine (line unit : Nat)
  | hLine (line : Nat)
  | unit (id : Nat)
  | vital (code : Nat)
  deriving DecidableEq, Repr

/-- A cell error that will be found in a wall cycle: beyond correction, or corrected. Like `State.inbox` it is an input of the machine:
no rule says when cells fail. -/
structure Upset where
  at_ : Nat
  cell : Cell
  hard : Bool
  deriving DecidableEq, Repr

/-- A row under programming in a Potting Shed (R263, R264). -/
structure RowJob where
  core : Nat
  row : Nat
  /-- The WPROG it belongs to: issuing rank and operation. -/
  opRank : Nat
  op : Nat
  data : Row
  captured : Row
  started : Bool
  /-- 0 capture, 1 pulse, 2 verify. -/
  phase : Nat
  /-- Cycles left of the phase. -/
  left : Nat
  iter : Nat
  /-- The cycle between two phases, in which the bank may grant a read. -/
  boundary : Bool
  /-- Programming a spare: how many have been tried, and whether the row itself has committed (R263, R264). -/
  spares : Nat
  committed : Bool
  /-- The source held a poisoned word (R392). -/
  bad : Bool
  deriving DecidableEq, Repr

/-- The lanes of a strided or indexed access that bank conflicts leave for the frozen cycles after its issue (R148, R305). -/
structure LaneAccess where
  ctx : Nat
  /-- The result that a load delivers them to; none for a store. -/
  load : Option Nat
  /-- Cycles until it is served, lane, address, and the word that a store writes. -/
  items : List (Nat × Nat × DWord × Word)
  poison : Bool
  /-- Bytes that a load's own bundle has stored, by storage offset: what they held before, with the mark of their word. The load reads
  them so until something else writes them (R14, R73). -/
  hides : Map (Byte × Bool) := []
  deriving DecidableEq, Repr

/-- One core. -/
structure Core where
  ctxs : Map Ctx := []
  /-- Who holds the issue width (R219), the switch cycles left and the slot being switched to (R220). -/
  holder : Option Nat := none
  switchLeft : Nat := 0
  lastHolder : Nat := 3
  entering : Option Nat := none
  /-- Unfrozen cycles so far. -/
  ucyc : Nat := 0
  ispace : Map Byte := []
  ipoison : Map Bool := []
  fetchBuf : List (Nat × Expanded) := []
  aspace : Map Byte := []
  /-- Full bits by word. -/
  full : Map Bool := []
  apoison : Map Bool := []
  tiles : Map Tile := []
  wspace : Map Byte := []
  wattr : Map Word := []
  wear : Map Nat := []
  remaps : List Remap := []
  /-- Spare rows found unusable, and rows failed without a spare (R265). -/
  deadSpares : List Nat := []
  failedRows : List Nat := []
  /-- The two stored copies of each bank's remap table (R264). -/
  remapCopies : Map (RemapCopy × RemapCopy) := []
  /-- Rows that an interruption left unfinished, not yet found by a scan (R266, R278). -/
  unfinished : List Nat := []
  wpoison : Map Bool := []
  /-- Rows that hold a correctable error, and the rows in the banks' correction logs (R270). -/
  wErr : List Nat := []
  corrLog : List Nat := []
  /-- Wall cycle at which each bank last accepted a read, plus one; 0 for never. -/
  bankRead : Map Nat := []
  /-- Wall cycle, plus one, at which a read last waited for each bank (R260). -/
  bankWait : Map Nat := []
  port : List PortRow := []
  cmds : List MCmd := []
  ops : List COp := []
  nextOp : Nat := 0
  seq : Nat := 0
  barriers : List BarrierUpd := []
  gbuf : List GWrite := []
  /-- Bytes of lines that are dirty in L1, with what L2 holds: the byte, and the mark of its word (R199, R392). -/
  dirty : Map (Byte × Bool) := []
  /-- The handle-table entry a KV instruction at issue waits for: cycles until it arrives, 0 once it is there (R203). -/
  handleWait : Option Nat := none
  events : List Record := []
  held : List HeldRecord := []
  /-- Frozen cycles still to take by R148, R156 and R191, and by a clock stretch. -/
  freeze : Nat := 0
  stretch : Nat := 0
  lanes : Option LaneAccess := none
  sync : List SyncWait := []
  groups : Word := 0xFFFFFFFF
  svcQueue : List SvcReq := []
  svc : Option SvcReq := none
  /-- This wall cycle is frozen for the user contexts. -/
  frozen : Bool := false
  /-- A W-slot read was issued in this cycle (R174). -/
  wPortUsed : Bool := false
  nextRegion : Nat := 0
  /-- Tiles that a matrix command committed in this cycle: rows and columns it computed (R188). -/
  committed : Map (Nat × Nat) := []
  deriving DecidableEq, Repr

/-- What a walk waits for, or has found (R294 to R298). -/
inductive WalkState where
  /-- Waits for one of the die's 64 walk slots (R296). -/
  | queued
  /-- Runs; cycles left. -/
  | running (left : Nat)
  /-- Waits on the monitor of the line that holds this entry; whether it waits for a migration (R298). -/
  | monitor (entry : Nat) (migrating : Bool)
  /-- No monitor was free: it repeats after this many cycles (R297). -/
  | retry (left : Nat)
  /-- It has its page. -/
  | done (page : PageHold)
  /-- It ends in a fault. -/
  | failed (cause : Cause)
  deriving DecidableEq, Repr

/-- A page-table walk for an operation or a command (R294, R296). -/
structure PageWalk where
  core : Nat
  /-- 4 and 5 for C0 and C1, 8 and 9 for the load pipes of A and B (R297). -/
  unit : Nat
  /-- The operation's or the command's number, and its context slot. -/
  op : Nat
  ctx : Nat
  part : Nat
  va : Nat
  write : Bool
  order : Nat
  state : WalkState
  /-- The level of the invalid entry that its request is still to name: its core's service queue was full (R234, R297). -/
  asks : Option Nat := none
  /-- Its place among the walks that have armed a monitor (R297). -/
  armed : Nat := 0
  deriving DecidableEq, Repr

/-- A group table entry (R360). -/
structure Group where
  /-- The launch's key in the pool, and its identifier (LAUNCH). -/
  launch : Nat := 0
  id : Nat := 0
  valid : Bool := false
  parity : Bool := false
  timeout : Nat := 0
  expn : Nat := 0
  arrn : Nat := 0
  drops : Nat := 0
  members : BitVec 512 := 0
  arrived : BitVec 512 := 0
  deriving DecidableEq, Repr

/-- A change to a group in this cycle (R362). -/
inductive GroupUpd where
  | arrive (group rank : Nat)
  | drop (group rank : Nat)
  | withdraw (group rank : Nat)
  deriving DecidableEq, Repr

/-- A work queue's registration (R365): its header and entries stand in G-space. -/
structure QueueReg where
  base : Nat
  log2 : Nat
  part : Nat
  live : Bool := true
  launch : Bool := false
  /-- Which of the queues that have had its number it is. -/
  gen : Nat := 0
  deriving DecidableEq, Repr

/-- An item held for a notice queue (R354), by its name. -/
structure NoticeItem where
  queue : Nat
  bytes : List Byte
  deriving DecidableEq, Repr

/-- A group definition (R353). -/
structure GroupDef where
  number : Nat
  timeout : Nat
  members : BitVec 512
  deriving DecidableEq, Repr

/-- A launch record (R217). -/
structure LaunchRec where
  image : Nat := 0
  imglen : Nat := 0
  ctxs : Nat := 1
  priv : Bool := false
  prio : Nat := 0
  ndeps : Nat := 0
  part : Nat := 0
  entries : List Nat := []
  sps : List Nat := []
  stklims : List Nat := []
  rows : BitVec 64 := 0
  heapBase : DWord := 0
  heapLim : DWord := 0
  heapOff : DWord := 0
  accn : Nat := 0
  cols : BitVec 8 := 0
  abase : Nat := 0
  asize : Nat := 0
  id : Nat := 0
  glist : Nat := 0
  ngrp : Nat := 0
  noticeq : Option Nat := none
  deps : List Nat := []
  deriving DecidableEq, Repr

/-- Where a launch stands (R371 to R375). -/
inductive LaunchPhase where
  | pool
  /-- Placed; its contexts start at this cycle. -/
  | placing (start : Nat)
  | running
  deriving DecidableEq, Repr

/-- A context image frame (R372): context, physical base, bytes. -/
structure Frame where
  rank : Nat
  launchCtx : Nat
  base : Nat
  size : Nat
  deriving DecidableEq, Repr

/-- A launch in the pool or placed (R371). -/
structure Launch where
  record : LaunchRec
  /-- The pool sequence number. -/
  seq : Nat
  /-- The partition whose queue gave it. -/
  part : Nat
  phase : LaunchPhase := .pool
  cores : List Nat := []
  frames : List Frame := []
  groups : List Nat := []
  schedule : Option (List (Nat × Nat)) := none
  /-- Cores it has left for spare ones (R237), and where to. -/
  moves : Map Nat := []
  deriving DecidableEq, Repr

/-- A launch's A range and I-space saved from a core (R236, R404). -/
structure RangeImage where
  launch : Nat
  rank : Nat
  bytes : Map Byte
  full : Map Bool
  poison : Map Bool
  ispace : Map Byte
  ipoison : Map Bool
  deriving DecidableEq, Repr

/-- A pre-empted context (R236, R237). Its frame in G-space holds the bytes that R237 lays out; what R237 gives no inner
layout is held here. -/
structure CtxImage where
  launch : Nat
  seq : Nat
  rank : Nat
  slot : Nat
  frame : Nat
  ctx : Ctx
  ops : List COp
  cmds : List MCmd
  tiles : List Tile
  events : List Record
  /-- The A range of its launch is saved with it (R236). -/
  rangeSaved : Bool
  /-- Records given to it since it was written (R354). -/
  late : List Record := []
  deriving DecidableEq, Repr

/-- An image being written, until it drains (R236). -/
structure ImageWrite where
  rank : Nat
  slot : Nat
  left : Nat
  deriving DecidableEq, Repr

/-- A staged contribution of a RED (R317): the launch, the line, the source slot, and the elements (address and bits). -/
structure Contribution where
  launch : Nat
  line : Nat
  slot : Nat
  core : Nat
  op : Nat
  kind : Nat
  elems : List (Nat × Nat)
  poison : Bool
  deriving DecidableEq, Repr

/-- A cursor of a line under reduction (R317). -/
structure RedCursor where
  launch : Nat
  line : Nat
  k : Nat
  deriving DecidableEq, Repr

/-- Lease states (R379). -/
inductive LeaseState where
  | idle | noticed | granted | testing | returned | retired
  deriving DecidableEq, Repr

/-- An entry of the unit table (R387). -/
structure HealthUnit where
  score : Nat := 0
  state : LeaseState := .idle
  fails : Nat := 0
  early : Bool := false
  /-- The tested mark (R277). -/
  tested : Bool := false
  lease : Nat := 0
  /-- The last time a corrected error added to the score, plus one (R387). -/
  corrected : Nat := 0
  deriving DecidableEq, Repr

/-- A stored copy of the unit table (R387): its sequence number, its entries, and whether a row of it reads poisoned. -/
structure UnitCopy where
  seq : Nat := 0
  units : Map HealthUnit := []
  bad : Bool := false
  deriving DecidableEq, Repr

/-- A lease under way (R379, R380). -/
structure Lease where
  unit : Nat
  number : Nat
  /-- The cycle its present state began, and the grant deadline. -/
  since : Nat
  deadline : Nat
  /-- Cycles left of the preparation or of the patterns of a unit that is no core (R384); lanes left of a port's test. -/
  left : Nat
  /-- The scrub of a core is done. -/
  scrubbed : Bool
  /-- The lease only retires the unit: its test is skipped (R388). -/
  retire : Bool
  /-- The notice queues that had the OUT notice, by their names, and the tags of the contexts. -/
  queues : List Nat
  ctxs : List Nat
  /-- The core's ctxS is still to be asked: its queue was full (R234). -/
  asks : Bool := false
  /-- The logged row of a bank whose rewrite has fallen due, and the MMVs that it waits for (R262). -/
  rewrite : Option (Nat × List Nat) := none
  deriving DecidableEq, Repr

/-- A capacity notice to be written in the cycle in which its lease changes state (R354): direction 0 OUT, 1 IN, 2 RETIRED. -/
structure NoticeDue where
  lease : Lease
  dir : Nat
  deriving DecidableEq, Repr

/-- A retirement record (R390). -/
structure RetireRecord where
  unit : Nat
  cause : Nat
  score : Nat
  lease : Nat
  pattern : Nat
  signature : Nat
  time : Nat
  deriving DecidableEq, Repr

/-- What a partition's block serves one at a time (R411): a register write, or a request of the interface by its session. -/
inductive PartRequest where
  | write (off : Nat) (wide : Bool) (value : Nat)
  | getState (session : Nat)
  | lock (session : Nat)
  | getReport (session : Nat)
  | start (session : Nat) (nonce : DWord)
  | stop (session : Nat)
  deriving DecidableEq, Repr

/-- A host access to a register of a partition's block: a write with its value, or a read (R409, R413). Like `State.inbox` it is an input
of the machine. -/
structure BlockAccess where
  at_ : Nat
  part : Nat
  off : Nat
  wide : Bool
  value : Option Nat
  deriving DecidableEq, Repr

/-- A partition's configuration block (R409) and its interface. -/
structure Partition where
  state : Nat := 0
  scrub : Bool := false
  err : Word := 0
  cores : BitVec 64 := 0
  l2ways : Word := 0
  kvten : Word := 0
  mem : Word := 0
  memslot : Word := 0
  ptroot : DWord := 0
  htbase : DWord := 0
  htcount : Word := 0
  kvptbase : DWord := 0
  cmpbase : DWord := 0
  dumpbase : DWord := 0
  imgpool : DWord := 0
  lq : DWord := 0
  imgsize : Word := 0
  bases : List DWord := [0, 0, 0, 0]
  sizes : List DWord := [0, 0, 0, 0]
  fabwt : Word := 0
  fabpkg : Map DWord := []
  lockTime : DWord := 0
  nonce : DWord := 0
  /-- A scrub under way: cycles left, and the session whose STOP waits for it (R416). -/
  scrubLeft : Nat := 0
  stopAfter : Option Nat := none
  /-- What has arrived since, in order (R411). -/
  waiting : List PartRequest := []
  deriving DecidableEq, Repr

/-- The negotiated state of an SPDM endpoint (R282). -/
structure Endpoint where
  versioned : Bool := false
  capable : Bool := false
  negotiated : Bool := false
  /-- The messages of the negotiation, and those of measurements since a signed one: what a signature covers (R242). -/
  vca : List Byte := []
  measured : List Byte := []
  deriving DecidableEq, Repr

/-- The fields of a GET_MEASUREMENTS request beside its index (R242): its version, SPDM 1.2 or 1.3, whether a signature is asked for, by
the key of which slot, the request's nonce, and the requester's context, which a request of 1.3 has. -/
structure MeasureAsk where
  v13 : Bool := false
  sign : Bool := false
  slot : Nat := 0
  nonce : List Byte := []
  context : List Byte := []
  deriving DecidableEq, Repr

/-- An SPDM session (R282, R422): its partition once it is bound. -/
structure Session where
  id : Nat
  endpoint : Nat
  established : Bool
  bound : Option Nat
  /-- The one session that is not bound and reads the reports of every partition (R422). -/
  manager : Bool := false
  deriving DecidableEq, Repr

/-- SPDM error codes the spec names (R241, R282, R283). -/
inductive SpdmError where
  | invalidRequest | unsupportedRequest | sessionLimitExceeded | responseNotReady
  deriving DecidableEq, Repr

/-- What the 16-byte header of a flit names (R426): source and destination package, partition, class and stream. The class is 0 for a
read, 1 for a write, 2 for the answer to a read, 3 for an atomic and 4 for a contribution to a reduction (DESIGN CHOICE, Log 63). -/
structure FlitHeader where
  source : Nat
  dest : Nat
  part : Nat
  cls : Nat
  stream : Nat
  deriving DecidableEq, Repr

/-- What the package answers to the outside. -/
inductive Reply where
  | spdmError (endpoint : Nat) (code : SpdmError)
  /-- SPDM versions supported. -/
  | versions (endpoint : Nat) (list : List Nat)
  /-- CERT, CHAL, MEAS (signed), KEY_EX, ENCRYPT, MAC, MEAS_FRESH. -/
  | capabilities (endpoint : Nat) (cert chal meas keyEx encrypt mac fresh : Bool)
  | algorithms (endpoint : Nat)
  /-- The slots that hold a chain, and its digest. -/
  | digests (endpoint : Nat) (slots : List Nat) (digest : List Byte)
  | certificate (endpoint : Nat) (slot : Nat) (chain : List Byte)
  | challengeAuth (endpoint : Nat) (slot : Nat) (body : List Byte)
  /-- The number of measurements, or measurement blocks; with the responder's nonce, opaque data, the requester's context (of 1.3), and the
  signature where the request asked for one. -/
  | measurementCount (endpoint : Nat) (count : Nat) (nonce opaqueData context : List Byte) (signature : Option (List Byte))
  | measurements (endpoint : Nat) (blocks : List (List Byte)) (nonce opaqueData context : List Byte) (signature : Option (List Byte))
  | keyExchangeRsp (endpoint : Nat) (session : Nat) (body : List Byte)
  | finishRsp (session : Nat)
  | sessionEnded (session : Nat)
  /-- A partition-interface response: its bytes. -/
  | partition (session : Nat) (bytes : List Byte)
  /-- The bytes of a host read, with the poison marks of their lines (R392). -/
  | hostRead (addr : Nat) (bytes : List (Byte × Bool))
  /-- A read of a register of a partition's block. -/
  | partRegister (part off : Nat) (value : Nat)
  /-- A read of a register of the management block. -/
  | register (off : Nat) (value : Nat)
  /-- A flit that leaves through a port: its header and its 64 bytes of payload (R426). -/
  | flit (port : Nat) (header : FlitHeader) (payload : List Byte)
  deriving DecidableEq, Repr

/-- A start under way (R276, R277): its kind, its step, the cycles left of the step. Step 9: the start has completed;
`stopped`: it ended with the outcome "stop". -/
structure StartState where
  cold : Bool := true
  step : Nat := 1
  left : Nat := 0
  begun : Bool := false
  stopped : Bool := false
  /-- The check of the retained roots is broken: steps 4 to 6 run as in a cold start. -/
  full : Bool := true
  /-- Images that step 6 has still to form. -/
  images : List Nat := []
  deriving DecidableEq, Repr

/-- The root of a weight image (R280): 48 bytes, zeros where no root could be formed (R278); whether it has been formed in
this start or is valid from the retained storage. -/
structure ImageRoot where
  bytes : List Byte
  valid : Bool
  deriving DecidableEq, Repr

/-- A member page as the hash engine of its core takes its digest (R279, R281): rows read so far, cycles left of the last, the hash so
far, whether a row read poisoned, whether the page was programmed since its hashing began, and the digest once it is taken. -/
structure PageHash where
  rank : Nat
  page : Nat
  row : Nat := 0
  delay : Nat := 0
  hash : List (BitVec 64) := []
  bad : Bool := false
  dirty : Bool := false
  digest : Option (List Byte) := none
  deriving DecidableEq, Repr

/-- A measurement of an image that the host has asked for (R281, R424): its member pages. -/
structure Measure where
  image : Nat
  pages : List PageHash
  deriving DecidableEq, Repr

/-- A W-page move under way (R420): rank, page, target, the row being programmed. -/
structure PageMove where
  rank : Nat
  page : Nat
  target : Nat
  row : Nat
  /-- The MMVs that its next row waits for (R262). -/
  waits : Option (List Nat) := none
  deriving DecidableEq, Repr

/-- A fabric port (R385, R426, R427). -/
structure FabricPort where
  half : Bool := false
  outstanding : Nat := 0
  /-- Lanes retired, and the lane under test. -/
  retired : List Nat := []
  testing : Option Nat := none
  /-- The port's arbitration among partitions (R427): the flits of each that have left in this round, and the cycle in which it last
  found the port taken. -/
  sent : Map Nat := []
  asked : Map Nat := []
  deriving DecidableEq, Repr

/-- A flit that waits to leave: an answer, one on its way to a third package, or one of a walk or a queue. -/
structure FlitDue where
  header : FlitHeader
  payload : List Byte
  deriving DecidableEq, Repr

/-- A read of a register of the management block: an input, as `State.inbox` is. -/
structure ManagementRead where
  at_ : Nat
  off : Nat
  deriving DecidableEq, Repr

/-- A flow of flits (R427): context tag, stream, destination; its route and the flits not acknowledged. -/
structure Flow where
  tag : Nat
  stream : Nat
  dest : Nat
  port : Nat
  outstanding : Nat
  deriving DecidableEq, Repr

/-- The package. -/
structure State where
  /-- The core cycle counter (R113). -/
  wall : Nat := 0
  cores : Map Core := []
  /-- The core and the context slot a meaning acts for (4 is ctxS). Model's own. -/
  cur : Nat := 0
  who : Nat := 0
  /-- The counter that fresh free values are read at (DESIGN CHOICE, Log 6). Model's own. -/
  free : Nat := 0
  /-- What the outside asks next, and what it has been answered, latest first. Model's own (DESIGN CHOICE, Log 5). -/
  inbox : List Instr := []
  outbox : List Reply := []
  powered : Bool := true
  start : StartState := {}
  /-- Rows under programming in the Potting Sheds (R263); the core each die's Shed served last. -/
  jobs : List RowJob := []
  shedTurn : Map Nat := []
  rowFailures : List RowFailure := []
  /-- Cell errors to be found (an input; DESIGN CHOICE, Log 58). -/
  upsets : List Upset := []
  /-- G-physical memory, and the words marked poisoned: a 128-byte line is poisoned while any of its words is (R392). -/
  gmem : Map Byte := []
  gpoison : Map Bool := []
  /-- H-space, as this package has written it, and its poisoned words. -/
  hmem : Map Byte := []
  hpoison : Map Bool := []
  amoHeld : List AmoHold := []
  /-- Writes staged in containment regions, at their home slices (R395). -/
  staged : List GWrite := []
  /-- Outermost regions closed, to be published; inner regions closed, and the region each passed to (R396). -/
  publishing : List Nat := []
  merged : List (Nat × Nat) := []
  /-- Regions being unwound: their begun copies run out before their staged writes go (R395). -/
  unwinding : List Nat := []
  /-- The readers that KVLDs under way hold (R345). -/
  kvReads : List KvRead := []
  walks : List PageWalk := []
  walkOrder : Nat := 0
  groups : Map Group := []
  groupUpds : List GroupUpd := []
  queues : Map QueueReg := []
  /-- The model's own count of the queues made so far, which tells queues of one number apart. -/
  queueGen : Nat := 1
  notices : List NoticeItem := []
  launches : List Launch := []
  nextSeq : Nat := 0
  nextTag : Nat := 1
  /-- The launch queue whose turn is next (R371). -/
  lqTurn : Nat := 0
  images : List CtxImage := []
  ranges : List RangeImage := []
  imageWrites : List ImageWrite := []
  staging : List Contribution := []
  cursors : List RedCursor := []
  /-- The Lodge (R376 to R390). -/
  units : Map HealthUnit := []
  /-- Its two stored copies (R387). -/
  unitCopies : List UnitCopy := [{}, {}]
  leaseCounter : Nat := 1
  leases : List Lease := []
  noticesDue : List NoticeDue := []
  rotNext : Nat := 0
  rotAt : Nat := 0
  rotUnits : Nat := 0
  /-- Units whose routine lease is due and held back by R378. -/
  rotDelayed : List Nat := []
  leasePeriod : Word := 86400
  retirements : List RetireRecord := []
  /-- Milliseconds of powered operation since manufacture, at the start of this powered time. -/
  lifeMs : Nat := 0
  parts : Map Partition := []
  /-- The partition, plus one, that each core row was last locked for (R386). -/
  rowOwner : Map Nat := []
  /-- The core rows that a warm start has found as a partition left them, with no scrub since (R386). -/
  unscrubbed : List Nat := []
  /-- Host accesses to come (an input; DESIGN CHOICE, Log 5). -/
  accesses : List BlockAccess := []
  /-- Reads of the management block to come (an input; DESIGN CHOICE, Log 5). -/
  mgReads : List ManagementRead := []
  endpoints : Map Endpoint := []
  /-- What the coming GET_MEASUREMENTS requests hold beside their index, next first (an input, as the inbox is; DESIGN CHOICE, Log 5). -/
  asks : List MeasureAsk := []
  sessions : List Session := []
  nextSession : Nat := 1
  roots : Map ImageRoot := []
  measures : List Measure := []
  aperture : DWord := 0
  /-- Some partition has left CONFIG_UNLOCKED: MG_APERTURE is ignored from then on (R423). -/
  apertureLocked : Bool := false
  remeas : Word := 0
  wpmove : Word := 0
  move : Option PageMove := none
  thermEvents : Nat := 0
  thermLim : Nat := 100
  /-- The last reading of each core's sensor, and the interval, plus one, that EVENTS last counted (R428). -/
  sensors : Map Nat := []
  thermMark : Nat := 0
  /-- The package draws more than 2,000 W, as last reported (R428). -/
  overPower : Bool := false
  ports : Map FabricPort := []
  /-- The routing table: next port and cost by destination package (R427). -/
  routes : Map (Nat × Nat) := []
  flows : List Flow := []
  flitsDue : List FlitDue := []
  deriving DecidableEq, Repr

/-- The state right after reset: power has been applied and the cold start is at its first step (R276, R277). -/
def State.reset : State := {}

/-- Faults: the machine cannot take a step. -/
inductive Fault where
  /-- Raised by `step`: the package has no power, and nothing has been asked of it (R276). Safe: the machine stops where the hardware
  does nothing. -/
  | powerOff
  deriving DecidableEq, Repr

/-- Refusals. -/
inductive Refusal where
  /-- Raised by an arm of `exec` whose instruction has no meaning yet, by its mnemonic; no arm raises it now. Safe: the machine stops. -/
  | notModelled (mnemonic : String)
  deriving DecidableEq, Repr

end Sys2Proof.Machine
end

