-- ==== Sys2Proof/Machine/Health.lean ====
section
/-! DEFINITION. Units, their suspicion scores and the retirement records (R376, R387, R388, R390). -/
namespace Sys2Proof.Machine
open Sys2Proof

/-- A unit ID (R376): kind and index. -/
def unitId (kind index : Nat) : Nat := kind * 2 ^ 28 + index
/-- The unit of a core. -/
def coreUnit (rank : Nat) : Nat := unitId 0 rank
/-- The unit of a W-bank. -/
def bankUnit (rank bank : Nat) : Nat := unitId 1 (rank * 16 + bank)

/-- The units of a kind. -/
def unitCount (kind : Nat) : Nat :=
  match kind with
  | 0 => 512
  | 1 => 8192
  | 2 => 128
  | 3 => 48
  | 4 => 64
  | 5 => 24
  | 6 => 96
  | _ => 0

/-- The units of kinds 0 to 5. -/
def leasable : Nat := 8968

/-- Unit `n` of kind `kind` on, in ascending unit ID. -/
def unitFrom (kind n : Nat) : Nat → Nat
  | 0 => unitId kind n
  | fuel + 1 => if n < unitCount kind then unitId kind n else unitFrom (kind + 1) (n - unitCount kind) fuel

/-- The unit at a place of the order of unit IDs. -/
def unitNth (n : Nat) : Nat := unitFrom 0 n 6

/-- The kind of a unit, and its index. -/
def unitKind (id : Nat) : Nat := id / 2 ^ 28
/-- The index. -/
def unitIndex (id : Nat) : Nat := id % 2 ^ 28

/-- The die of a core, a W-bank or an L2 slice. -/
def unitDie (id : Nat) : Nat :=
  if unitKind id = 0 then unitIndex id / 64 else if unitKind id = 1 then unitIndex id / 1024 else unitIndex id / 16

/-- The Lodge's entry of a unit. -/
def State.unit (s : State) (id : Nat) : HealthUnit := s.units.get {} id
/-- Replace it. -/
def State.setUnit (s : State) (id : Nat) (u : HealthUnit) : State := { s with units := s.units.put id u }

/-- Under lease: NOTICED, GRANTED or TESTING. -/
def HealthUnit.leased (u : HealthUnit) : Bool := decide (u.state = .noticed ∨ u.state = .granted ∨ u.state = .testing)

/-- The score after a rise: it saturates, clears the tested mark, and at 256 an early lease is due (R387, R388). -/
def HealthUnit.rise (u : HealthUnit) (n : Nat) : HealthUnit :=
  let v := Nat.min 65535 (u.score + n)
  { u with score := v, tested := false, early := u.early || decide (256 ≤ v) }

/-- SCORE_CHANGE (R387): a unit's score rises. -/
def State.addScore (s : State) (id n : Nat) : State := s.setUnit id ((s.unit id).rise n)

/-- A corrected error adds 1 to a unit's score at most once in 16,777,216 cycles (R387). -/
def State.correctedError (s : State) (id : Nat) : State :=
  let u := s.unit id
  if u.corrected = 0 ∨ u.corrected + 16777216 ≤ s.wall + 1 then s.setUnit id { u.rise 1 with corrected := s.wall + 1 } else s

/-- Milliseconds of powered operation since manufacture, at 1.25 GHz (R390, R428). -/
def State.ageMs (s : State) : Nat := s.lifeMs + s.wall / 1250000

/-- RETIREMENT_RECORD (R390): records 1 to 4,095 in order, record 4,096 with cause 0xFF, and none after it. -/
def State.addRetirement (s : State) (r : RetireRecord) : State :=
  if s.retirements.length < 4095 then { s with retirements := s.retirements ++ [r] }
  else if s.retirements.length = 4095 then { s with retirements := s.retirements ++ [{ r with cause := 0xFF }] }
  else s

end Sys2Proof.Machine
end

