-- ==== Sys2Proof/Machine/Nf8.lean ====
section
/-! DEFINITION. The NF8 family (R58 to R61), the plain 8-bit integers (R62), and conversion between the element types of
R21 (R53, R56, R129). -/
namespace Sys2Proof

/-- An NF8 format: the fields of an FMT register (R59). -/
structure Nf8Fmt where
  sat : Bool
  sub : Bool
  inf : Bool
  bias : Int
  sign : Bool
  exp : Nat
  man : Nat
  deriving DecidableEq, Repr

/-- The format an FMT register holds (R59). -/
def nf8Fmt (w : Word) : Nf8Fmt :=
  { sat := w.getLsbD 18, sub := w.getLsbD 17, inf := w.getLsbD 16, bias := (w.extractLsb' 8 8).toInt,
    sign := w.getLsbD 6, exp := (w.extractLsb' 3 3).toNat, man := (w.extractLsb' 0 3).toNat }

/-- The bits of an FMT register that are not reserved (R59). -/
def fmtMask : Word := 0x0007FF7F

/-- The width of a format. -/
def Nf8Fmt.width (f : Nf8Fmt) : Nat := (if f.sign then 1 else 0) + f.exp + f.man

/-- An FMT value an instruction may use (R60). -/
def Nf8Fmt.valid (f : Nf8Fmt) : Bool :=
  decide (1 ≤ f.width ∧ f.width ≤ 8) && !(f.inf && (decide (f.exp < 2) || decide (f.man = 0)))

/-- The value of a code (R58). R58 does not say whether a NaN code signals: every one counts as quiet (DESIGN CHOICE, Log 70). -/
def Nf8Fmt.unpack (f : Nf8Fmt) (b : Nat) : XNum :=
  let m := b % 2 ^ f.man
  let e := (b / 2 ^ f.man) % 2 ^ f.exp
  let neg := f.sign && decide ((b / 2 ^ (f.man + f.exp)) % 2 = 1)
  if f.exp = 0 then .fin neg m (-f.bias)
  else if e = 2 ^ f.exp - 1 ∧ f.inf = true then (if m = 0 then .inf neg else .nan false)
  else if e = 0 then (if f.sub then .fin neg m (1 - f.bias - f.man) else .fin neg 0 0)
  else .fin neg (2 ^ f.man + m) (e - f.bias - f.man)

/-- The byte of a sign, exponent field and mantissa field (R58). -/
def Nf8Fmt.code (f : Nf8Fmt) (neg : Bool) (e m : Nat) : Nat :=
  (if neg && f.sign then 2 ^ (f.exp + f.man) else 0) + e * 2 ^ f.man + m

/-- The largest finite exponent field (R58). -/
def Nf8Fmt.maxExp (f : Nf8Fmt) : Nat := if f.inf then 2 ^ f.exp - 2 else 2 ^ f.exp - 1

/-- The result of a magnitude beyond the largest finite value (R61). -/
def Nf8Fmt.overflow (f : Nf8Fmt) (neg : Bool) : Nat × FpFlags :=
  if neg && !f.sign then (0, flagNV)
  else if f.inf && !f.sat then (f.code neg (2 ^ f.exp - 1) 0, flagOF ||| flagNX)
  else (f.code neg (if f.exp = 0 then 0 else f.maxExp) (2 ^ f.man - 1), flagOF ||| flagNX)

/-- A rounded magnitude below the normal range: the sum of a zero test and the underflow rule (R61). -/
def Nf8Fmt.small (f : Nf8Fmt) (neg : Bool) (code : Nat) (inexact : Bool) : Nat × FpFlags :=
  if neg && !f.sign && decide (code ≠ 0) then (0, flagNV)
  else (f.code neg 0 code, flagIf inexact (flagNX ||| flagUF))

/-- Round a non-zero finite magnitude to the format by TAZ (R61). -/
def Nf8Fmt.roundFin (f : Nf8Fmt) (neg : Bool) (m : Nat) (e : Int) : Nat × FpFlags :=
  let c := scaleFrac m 1 e
  if f.exp = 0 then
    -- integers times 2^-bias
    let s := scaleFrac c.1 c.2 f.bias
    let r := roundDiv .taz false s.1 s.2
    if 2 ^ f.man - 1 < r.1 then f.overflow neg
    else if r.1 ≤ 1 then f.small neg r.1 r.2
    else if neg && !f.sign then (0, flagNV)
    else (f.code neg 0 r.1, flagIf r.2 flagNX)
  else
    let emin : Int := 1 - f.bias
    let n := roundSig .taz false c.1 c.2 (f.man + 1) none
    let expo : Int := (Nat.log2 n.1 : Int) + n.2.1
    if expo < emin ∨ fracLog2 c.1 c.2 < emin then
      if f.sub then
        let s := scaleFrac c.1 c.2 (-(emin - f.man))
        let r := roundDiv .taz false s.1 s.2
        if r.1 < 2 ^ f.man then f.small neg r.1 r.2
        else if neg && !f.sign then (0, flagNV)
        else if (if f.exp = 0 then 0 else f.maxExp) < 1 then f.overflow neg
        else (f.code neg 1 0, flagIf r.2 flagNX)
      else
        -- only zero and the smallest normal: the nearer, a tie away from zero
        let s := scaleFrac c.1 c.2 (-emin)
        let r := roundDiv .taz false s.1 s.2
        if r.1 = 0 then f.small neg 0 r.2
        else if neg && !f.sign then (0, flagNV)
        else if f.maxExp < 1 then f.overflow neg
        else (f.code neg 1 0, flagIf r.2 flagNX)
    else if (f.maxExp : Int) - f.bias < expo then f.overflow neg
    else if neg && !f.sign then (0, flagNV)
    else
      let k := scaleFrac n.1 1 (n.2.1 - (expo - f.man))
      (f.code neg (expo + f.bias).toNat (k.1 / k.2 - 2 ^ f.man), flagIf n.2.2 flagNX)

/-- Convert an exact value to an NF8 code (R61). -/
def Nf8Fmt.round (f : Nf8Fmt) (x : XNum) : Nat × FpFlags :=
  match x with
  | .nan s =>
    if f.inf then (f.code false (2 ^ f.exp - 1) (2 ^ f.man - 1), flagIf s flagNV) else (0, flagNV)
  | .inf n => f.overflow n
  | .fin n m e => if m = 0 then (f.code n 0 0, 0) else f.roundFin n m e

/-- The width in bytes of an element of a type (R21). -/
def typeBytes (t : Nat) : Nat :=
  match t with
  | 0 => 1
  | 3 => 1
  | 10 => 1
  | 1 => 2
  | 4 => 2
  | 6 => 2
  | 7 => 2
  | 9 => 8
  | _ => 4

/-- The lanes of a type in a vector register (R21). -/
def typeLanes (t : Nat) : Nat := 256 / typeBytes t

/-- The IEEE format of a floating type (R21). -/
def floatFmtOf (t : Nat) : FloatFmt :=
  match t with
  | 6 => fp16
  | 7 => bf16
  | 9 => fp64
  | _ => fp32

/-- The value of a two's-complement number of `w` bits. -/
def signedOf (w b : Nat) : Int := if 2 * (b % 2 ^ w) < 2 ^ w then (b % 2 ^ w : Nat) else (b % 2 ^ w : Nat) - (2 ^ w : Nat)

/-- The exact value of an element of a type (R51, R58); `f` is the format of an nf8 element. -/
def unpackElem (t : Nat) (f : Nf8Fmt) (b : Nat) : XNum :=
  if t ≤ 2 then .ofInt (signedOf (8 * typeBytes t) b)
  else if t ≤ 5 then .ofInt (b % 2 ^ (8 * typeBytes t) : Nat)
  else if t = 10 then f.unpack (b % 256)
  else (floatFmtOf t).unpack (b % 2 ^ (8 * typeBytes t))

/-- The least and greatest integer of an integer type (R56, R62). -/
def intRange (t : Nat) : Int × Int :=
  let w := 8 * typeBytes t
  if t ≤ 2 then (-(2 ^ (w - 1) : Nat), (2 ^ (w - 1) - 1 : Nat)) else (0, (2 ^ w - 1 : Nat))

/-- Convert an exact value to a type, rounding once: TAZ below 16 bits, RNE otherwise (R53, R56, R61, R62). -/
def convertTo (t : Nat) (f : Nf8Fmt) (x : XNum) : Nat × FpFlags :=
  if t ≤ 5 then
    let r := toIntRange (if typeBytes t = 1 then .taz else .rne) (intRange t).1 (intRange t).2 x
    ((r.1 % (2 ^ (8 * typeBytes t) : Nat)).toNat, r.2)
  else if t = 10 then f.round x
  else (floatFmtOf t).round x

end Sys2Proof
end

