-- ==== Sys2Proof/Machine/Lat8.lean ====
section
/-! DEFINITION. LAT8, the lattice format: words, scales, the nearest-point quantiser and its shell overflow (R64 to R70). -/
namespace Sys2Proof

/-- The bits of an LFMT register that are not reserved (R67). -/
def lfmtMask : Word := 0xFF

/-- An LFMT value an instruction may use (R67). -/
def lfmtValid (w : Word) : Bool :=
  decide ((w.extractLsb' 0 3).toNat ≠ 7) && decide ((w.extractLsb' 3 2).toNat ≠ 3) &&
    !(decide ((w.extractLsb' 3 2).toNat = 1) && decide ((w.extractLsb' 5 3).toNat = 0))

/-- The group size G of an LFMT value (R67). -/
def lfmtGroup (w : Word) : Nat := 2 ^ (w.extractLsb' 0 3).toNat
/-- The shell-overflow mode of an LFMT value: 0 SAT, 1 FLAG, 2 TRAP (R67). -/
def lfmtMode (w : Word) : Nat := (w.extractLsb' 3 2).toNat
/-- The mask register of FLAG (R67). -/
def lfmtFq (w : Word) : Nat := (w.extractLsb' 5 3).toNat

/-- The coset bit of a LAT8 word (R64). -/
def latCoset (w : Nat) : Nat := (w / 2 ^ 31) % 2

/-- Elements u0 to u6 (R65). -/
def latLow (w : Nat) : List Int := (List.range 7).map (fun i => signedOf 4 (w / 16 ^ i))

/-- The eight integers u0 to u7 of a LAT8 word (R65). -/
def latInts (w : Nat) : List Int :=
  let lo := latLow w
  lo ++ [2 * signedOf 3 (w / 2 ^ 28) + lo.sum % 2]

/-- The doubled coordinates 2u + c of a LAT8 word (R65, R72). -/
def latDoubled (w : Nat) : List Int := (latInts w).map (fun u => 2 * u + (latCoset w : Int))

/-- Encode integers of even sum in -8 to 7 (R65). -/
def latEncode (c : Nat) (u : List Int) : Nat :=
  let lo := (u.take 7).zipIdx.foldl (fun acc p => acc + (p.1 % 16).toNat * 16 ^ p.2) 0
  let p := (u.take 7).sum % 2
  let h := (u.getD 7 0 - p) / 2
  lo + (h % 8).toNat * 2 ^ 28 + c * 2 ^ 31

/-- Nearest integer to n / d, ties away from zero, d positive. -/
def roundTaz (n : Int) (d : Nat) : Int :=
  if 0 ≤ n then ((2 * n.natAbs + d) / (2 * d) : Nat) else -(((2 * n.natAbs + d) / (2 * d) : Nat) : Int)

/-- The lowest index of the greatest magnitude. -/
def argMaxAbs (es : List Int) (i best : Nat) (bestAbs : Nat) : Nat :=
  match es with
  | [] => best
  | e :: rest => if bestAbs < e.natAbs then argMaxAbs rest (i + 1) i e.natAbs else argMaxAbs rest (i + 1) best bestAbs

/-- The nearest point of D8 to the coordinates t / d (R68). -/
def nearestD8 (t : List Int) (d : Nat) : List Int :=
  let f := t.map (fun n => roundTaz n d)
  let e := (t.zip f).map (fun p => p.1 - p.2 * (d : Int))
  if f.sum % 2 = 0 then f
  else
    let j := match e with
      | [] => 0
      | e0 :: rest => argMaxAbs rest 1 0 e0.natAbs
    let ej := e.getD j 0
    let fj := f.getD j 0
    f.set j (if 0 < ej then fj + 1 else if ej < 0 then fj - 1 else if 0 < fj then fj - 1 else fj + 1)

/-- The squared distance of the coordinates t / d from the point g, times d squared. -/
def distSq (t g : List Int) (d : Nat) : Int := ((t.zip g).map (fun p => (p.1 - p.2 * (d : Int)) * (p.1 - p.2 * (d : Int)))).sum

/-- Clamp every coordinate, and repair the parity through element 7 (R69, SAT). -/
def shellClamp (u : List Int) (t7neg : Bool) : List Int :=
  let v := u.map (fun x => if x < -8 then -8 else if 7 < x then 7 else x)
  if v.sum % 2 = 0 then v
  else
    let v7 := v.getD 7 0
    v.set 7 (if 0 < v7 then v7 - 1 else if v7 < 0 then v7 + 1 else if t7neg then -1 else 1)

/-- What quantising one word gave: the word, its flags, and whether the shell overflowed. -/
structure LatResult where
  word : Nat
  flags : FpFlags
  shell : Bool
  deriving DecidableEq, Repr

/-- A scale that no group may have: zero, infinite or NaN (R68). -/
def latScaleBad (s : XNum) : Bool := s.isNaN || s.isZero || (match s with | .inf _ => true | _ => false)

/-- Clamp a numerator over `d` to ±32768 (R68). -/
def clampT (n : Int) (d : Nat) : Int :=
  if 32768 * (d : Int) < n then 32768 * d else if n < -(32768 * (d : Int)) then -(32768 * d) else n

/-- The numerators of x / s over a common positive denominator, clamped (R68). -/
def latRatios (x : List XNum) (s : XNum) : List Int × Nat :=
  let e0 := x.foldl (fun a v => min a v.expOf) s.expOf
  let d := (s.at e0).natAbs
  let neg := s.isNeg
  (x.map (fun v => match v with
    | .inf n => if n != neg then -(32768 * (d : Int)) else 32768 * d
    | _ => clampT (if neg then -(v.at e0) else v.at e0) d), d)

/-- The unclamped ratios, for the inexact flag; `none` for an infinity. -/
def latExact (x : List XNum) (s : XNum) : List (Option Int) :=
  let e0 := x.foldl (fun a v => min a v.expOf) s.expOf
  x.map (fun v => match v with
    | .inf _ => none
    | _ => some (if s.isNeg then -(v.at e0) else v.at e0))

/-- Nearest8: quantise eight values under a scale (R68, R69). -/
def nearest8 (x : List XNum) (s : XNum) : LatResult :=
  let sn := flagIf (s.isSNaN || x.any XNum.isSNaN) flagNV
  if latScaleBad s then ⟨0, flagNV, false⟩
  else if x.any XNum.isNaN then ⟨0, flagNV ||| sn, false⟩
  else
    let r := latRatios x s
    let t := r.1
    let d := r.2
    let p0 := nearestD8 t d
    -- t - 1/2 over 2d
    let th := t.map (fun n => 2 * n - (d : Int))
    let p1 := nearestD8 th (2 * d)
    let dist0 := 4 * distSq t p0 d
    let dist1 := distSq th p1 (2 * d)
    let c : Nat := if dist0 ≤ dist1 then 0 else 1
    let u := if dist0 ≤ dist1 then p0 else p1
    let shelled := u.any (fun v => decide (v < -8) || decide (7 < v))
    let v := if shelled then shellClamp u (decide (t.getD 7 0 < 0)) else u
    let exact := ((latExact x s).zip v).all (fun q => q.1.map (fun n => 2 * n) == some ((2 * q.2 + (c : Int)) * (d : Int)))
    ⟨latEncode c v, flagIf (!exact) flagNX ||| flagIf shelled flagLSHELL, shelled⟩

/-- The exact value of doubled coordinate `y2` under a scale (R65, R70); 0 times an infinity is invalid. An element
0 counts as +0, so it is -0 under a negative scale (DEDUCED, Log 62). -/
def latValue (y2 : Int) (s : XNum) : XNum × FpFlags :=
  (XNum.fin (decide (y2 < 0)) y2.natAbs (-1)).mul s

end Sys2Proof
end

