-- ==== Sys2Proof/Machine/Ops.lean ====
section
/-! DEFINITION. The named operations over the state: access to cores, contexts and registers, results in flight and their
landing, A-space, taking a trap and returning from one. -/
namespace Sys2Proof.Machine
open Sys2Proof

/-! ### Access -/

/-- The core of a rank. -/
def State.core (s : State) (r : Nat) : Core := s.cores.get {} r
/-- Replace the core of a rank. -/
def State.setCore (s : State) (r : Nat) (c : Core) : State := { s with cores := s.cores.put r c }
/-- The acting core. -/
def State.me (s : State) : Core := s.core s.cur
/-- Change the acting core. -/
def State.updCore (s : State) (f : Core → Core) : State := s.setCore s.cur (f s.me)
/-- A context slot of a core; 4 is ctxS. -/
def Core.ctx (c : Core) (i : Nat) : Ctx := c.ctxs.get {} i
/-- Replace a context of a core. -/
def Core.setCtx (c : Core) (i : Nat) (x : Ctx) : Core := { c with ctxs := c.ctxs.put i x }
/-- The acting context. -/
def State.ctx (s : State) : Ctx := s.me.ctx s.who
/-- Replace the acting context. -/
def State.setCtx (s : State) (x : Ctx) : State := s.updCore (fun c => c.setCtx s.who x)
/-- Change the acting context. -/
def State.updCtx (s : State) (f : Ctx → Ctx) : State := s.setCtx (f s.ctx)
/-- A fresh free number (DESIGN CHOICE, Log 6). -/
def State.freshNat (s : State) : Nat × State := (Config.freeNat s.free, { s with free := s.free + 1 })
/-- A fresh free truth value (DESIGN CHOICE, Log 6). -/
def State.freshBool (s : State) : Bool × State := (Config.freeBool s.free, { s with free := s.free + 1 })

/-! ### Registers of a context -/

/-- Read an s register; s0 reads 0 (R5). -/
def Ctx.rs (x : Ctx) (r : BitVec 5) : Word := if r = 0 then 0 else x.s.get 0 r.toNat
/-- Read an a register. -/
def Ctx.ra (x : Ctx) (r : BitVec 4) : DWord := x.a.get 0 r.toNat
/-- Read a vector register. -/
def Ctx.rv (x : Ctx) (r : Nat) : VReg := x.v.get 0 r
/-- Read a mask register; vq0 reads all ones (R5). -/
def Ctx.rvq (x : Ctx) (r : Nat) : BitVec 64 := if r = 0 then BitVec.allOnes 64 else x.vq.get 0 r
/-- Read a container of a tile register (R138). -/
def Ctx.rq (x : Ctx) (q row col : Nat) : Word := x.q.get 0 (q * 1024 + row * 32 + col)
/-- An empty nest level image. -/
def emptyNest : Nest := List.replicate 6 {}
/-- Read a nest register (R91). -/
def Ctx.rn (x : Ctx) (r : Nat) : Nest := x.n.get emptyNest r
/-- Read an FMT register (R59). -/
def Ctx.rfmt (x : Ctx) (r : Nat) : Word := x.fmt.get 0 r
/-- Read an LFMT register (R67). -/
def Ctx.rlfmt (x : Ctx) (r : Nat) : Word := x.lfmt.get 0 r
/-- A level of a nest. -/
def nestLevel (n : Nest) (l : Nat) : NestLevel := n.getD l {}
/-- The count of a level (R91). -/
def nestCount (n : Nest) (l : Nat) : Nat := (nestLevel n l).count.toNat

/-- The counter of a loop level. -/
def LoopState.counter (l : LoopState) (i : Nat) : Nat := l.ctr.getD i 0
/-- The count of loop level 0. -/
def LoopState.count (l : LoopState) (i : Nat) : Nat :=
  match l.cfg with
  | none => 0
  | some c => nestCount c.nest i

/-- Read a predicate (R18, R93): p0 true, p1 false; p14 and p15 mark the first and the last iteration of the innermost
level of an active loop, and read true otherwise. -/
def Ctx.rp (x : Ctx) (i : Nat) : Bool :=
  match i with
  | 0 => true
  | 1 => false
  | 14 => !x.loop.active || decide (x.loop.counter 0 = 0)
  | 15 => !x.loop.active || decide (x.loop.counter 0 + 1 = x.loop.count 0)
  | _ => x.p.getLsbD i

/-- Set one bit of a predicate file. -/
def setBit {n : Nat} (b : BitVec n) (i : Nat) (v : Bool) : BitVec n :=
  if v then b ||| BitVec.ofNat n (2 ^ i) else b &&& ~~~ (BitVec.ofNat n (2 ^ i))

/-- Write an s register; a write to s0 is discarded (R15). -/
def Ctx.ws (x : Ctx) (r : Nat) (v : Word) : Ctx := if r = 0 then x else { x with s := x.s.write 0 r v }
/-- Write an a register. -/
def Ctx.wa (x : Ctx) (r : Nat) (v : DWord) : Ctx := { x with a := x.a.write 0 r v }
/-- Write a predicate; writes to p0, p1, p14 and p15 are discarded (R18). -/
def Ctx.wp (x : Ctx) (r : Nat) (v : Bool) : Ctx :=
  if 2 ≤ r ∧ r ≤ 13 then { x with p := setBit x.p r v } else x
/-- Write the masked bits of a vector register. -/
def Ctx.wv (x : Ctx) (r : Nat) (v mask : VReg) : Ctx :=
  { x with v := x.v.write 0 r ((x.rv r &&& ~~~mask) ||| (v &&& mask)) }
/-- Write a mask register; a write to vq0 is discarded. -/
def Ctx.wvq (x : Ctx) (r : Nat) (v : BitVec 64) : Ctx := if r = 0 then x else { x with vq := x.vq.write 0 r v }

/-- Write the first containers of a row or a column of a tile register. -/
def wqFrom (m : Map Word) (q idx : Nat) (column : Bool) (j : Nat) : List Word → Map Word
  | [] => m
  | v :: rest =>
    wqFrom (m.write 0 (q * 1024 + (if column then j * 32 + idx else idx * 32 + j)) v) q idx column (j + 1) rest

/-- Write a row or column of a tile register (R138). -/
def Ctx.wq (x : Ctx) (q idx : Nat) (column : Bool) (v : List Word) : Ctx :=
  { x with q := wqFrom x.q q idx column 0 v }

/-! ### Poison marks (R392) -/

/-- A register source. -/
inductive Src where
  | s (r : BitVec 5)
  | a (r : BitVec 4)
  | p (r : BitVec 4)
  | v (r : Nat)
  | vq (r : Nat)
  | q (r : Nat)
  deriving DecidableEq, Repr

/-- Whether a source register is poisoned; a register that reads as a constant never is (R5, R18, R392). -/
def Ctx.poisoned (x : Ctx) : Src → Bool
  | .s r => decide (r ≠ 0) && x.poison.s.getLsbD r.toNat
  | .a r => x.poison.a.getLsbD r.toNat
  | .p r => decide (2 ≤ r.toNat ∧ r.toNat ≤ 13) && x.poison.p.getLsbD (r.toNat / 2)
  | .v r => x.poison.v.getLsbD r
  | .vq r => decide (r ≠ 0) && x.poison.vq.getLsbD r
  | .q r => x.poison.q.getLsbD r

/-- The mark of a register after a write: a write of all of it sets or clears the mark, a masked write can only set it. -/
def markAfter {n : Nat} (m : BitVec n) (i : Nat) (whole poison : Bool) : BitVec n :=
  if poison then setBit m i true else if whole then setBit m i false else m

/-- The marks after one destination is written; a write without an active lane writes nothing (R116). A row or column written to a tile register sets or clears the mark of the register, which
R392 marks as a whole (DEDUCED, Log 62). -/
def PoisonMarks.after (m : PoisonMarks) (w : RegWrite) (poison : Bool) : PoisonMarks :=
  match w with
  | .s r _ => if r = 0 then m else { m with s := markAfter m.s r true poison }
  | .a r _ => { m with a := markAfter m.a r true poison }
  | .p r _ => if 2 ≤ r ∧ r ≤ 13 then { m with p := markAfter m.p (r / 2) true poison } else m
  | .v r _ mask => if mask = 0 then m else { m with v := markAfter m.v r (decide (mask = BitVec.allOnes 2048)) poison }
  | .vq r _ => if r = 0 then m else { m with vq := markAfter m.vq r true poison }
  | .q t _ _ _ => { m with q := markAfter m.q t true poison }
  | .accRow _ _ _ _ => m
  | .mzero _ _ _ => m
  | .commit _ => m

/-! ### Vector lanes (R115, R116, R21) -/

/-- Lane `i` of element width `b` bytes. -/
def vLane (x : VReg) (b i : Nat) : Nat := (x.extractLsb' (8 * b * i) (8 * b)).toNat

/-- Pack lanes of `b` bytes into a number, lane 0 lowest. -/
def packLanes (b : Nat) : List Nat → Nat
  | [] => 0
  | l :: rest => l % 2 ^ (8 * b) + 2 ^ (8 * b) * packLanes b rest

/-- A vector register from its lanes. -/
def vOfLanes (b : Nat) (ls : List Nat) : VReg := BitVec.ofNat 2048 (packLanes b ls)

/-- All lanes of a type. -/
def vLanes (x : VReg) (t : Nat) : List Nat := (List.range (typeLanes t)).map (vLane x (typeBytes t))

/-- Whether a mask governs lane `i` of a type active (R21, R116). -/
def laneActive (t : Nat) (m : BitVec 64) (i : Nat) : Bool :=
  if t = 9 then m.getLsbD (2 * i) else m.getLsbD (i * typeBytes t / 4)

/-- Some lane is active: an operation whose mask has none writes nothing (R116). -/
def anyLane (t : Nat) (m : BitVec 64) : Bool := (List.range (typeLanes t)).any (laneActive t m)

/-- The bits of the active lanes. -/
def laneMask (t : Nat) (m : BitVec 64) : VReg :=
  vOfLanes (typeBytes t) ((List.range (typeLanes t)).map (fun i => if laneActive t m i then 2 ^ (8 * typeBytes t) - 1 else 0))

/-- Every bit of a vector register. -/
def vAll : VReg := BitVec.allOnes 2048

/-! ### Accumulator tiles (R139 to R142) -/

/-- A physical tile of a core. -/
def Core.tile (c : Core) (t : Nat) : Tile := c.tiles.get {} t
/-- Replace a tile. -/
def Core.setTile (c : Core) (t : Nat) (x : Tile) : Core := { c with tiles := c.tiles.put t x }

/-- Element (row, col) of a tile as bits of its format; an FP64 element takes its high word from the odd tile (R139). -/
def Core.tileElem (c : Core) (t row col : Nat) : Nat :=
  let lo := ((c.tile t).elems.get 0 (row * 64 + col)).toNat
  if (c.tile t).fmt = .f64 then lo + 2 ^ 32 * ((c.tile (t + 1)).elems.get 0 (row * 64 + col)).toNat else lo

/-- Write one word of a tile, with its poison. -/
def Tile.putWord (x : Tile) (i : Nat) (v : Word) (poison : Bool) : Tile :=
  { x with elems := x.elems.write 0 i v, poison := x.poison.write false i poison }

/-- Write element (row, col) of a tile whose format is `fmt`. -/
def Core.putElem (c : Core) (fmt : AccFmt) (t i : Nat) (v : Nat) (poison : Bool) : Core :=
  let c1 := c.setTile t ((c.tile t).putWord i (BitVec.ofNat 32 v) poison)
  if fmt = .f64 then c1.setTile (t + 1) ((c1.tile (t + 1)).putWord i (BitVec.ofNat 32 (v / 2 ^ 32)) poison) else c1

/-- The value of an accumulator element. -/
def accValue (fmt : AccFmt) (v : Nat) : XNum :=
  match fmt with
  | .i32 => .ofInt (signedOf 32 v)
  | .f32 => fp32.unpack v
  | .f64 => fp64.unpack v

/-- Convert a value to an accumulator format (R141): rounding and saturation by R53 and R56. -/
def accConvert (fmt : AccFmt) (x : XNum) : Nat × FpFlags :=
  match fmt with
  | .i32 => convertTo 2 (nf8Fmt 0) x
  | .f32 => convertTo 8 (nf8Fmt 0) x
  | .f64 => convertTo 9 (nf8Fmt 0) x

/-- Write the elements of a row from lanes `j ..` of a type, converting each (R141). -/
def Core.putRow (c : Core) (fmt : AccFmt) (t row type : Nat) (poison : Bool) (j : Nat) :
    List Nat → Core × FpFlags
  | [] => (c, 0)
  | v :: rest =>
    let r := accConvert fmt (unpackElem type (nf8Fmt 0) v)
    let c1 := c.putElem fmt t (row * 64 + j) r.1 poison
    let c2 := c1.putRow fmt t row type poison (j + 1) rest
    (c2.1, r.2 ||| c2.2)

/-- A tile of zeros (R139, R176). -/
def zeroTile (fmt : AccFmt) (scale : Word) : Tile := { fmt := fmt, scale := scale }

/-! ### Matrix commits (R170) -/

/-- The format an accumulator takes on from the operand pair and the binding of a command (R165). -/
def accFmtOf (cfg mlat : Word) : AccFmt :=
  let a := (cfg.extractLsb' 0 4).toNat
  let b := (cfg.extractLsb' 4 4).toNat
  if b = 9 then .f64
  else if a = 0 ∧ b = 0 then .i32
  else if a = 0 ∧ b = 11 ∧ (mlat.extractLsb' 8 2).toNat = 0 then .i32
  else .f32

/-- Write the computed elements of a commit into a tile. -/
def Core.putSums (c : Core) (fmt : AccFmt) (t rows cols : Nat) (poison : Map Bool) (i : Nat) : List Nat → Core
  | [] => c
  | v :: rest =>
    let c1 := if i / 64 < rows ∧ i % 64 < cols then c.putElem fmt t i v (poison.get false i) else c
    c1.putSums fmt t rows cols poison (i + 1) rest

/-- Write a command's result to its tile: format, readout scale, and every element; elements it does not compute keep
their bits when the format is the tile's as it read it, and are zero otherwise (R170). Of an FP64 pair whose two tiles hold different
formats, the even tile's decides for both (DESIGN CHOICE, Log 54). -/
def Core.commitCmd (c : Core) (m : MCmd) : Core :=
  let fmt := accFmtOf m.cfg m.mlat
  let reset := fun (t : Tile) =>
    if m.tileFmt = fmt then { t with fmt := fmt, scale := m.scale } else zeroTile fmt m.scale
  let c1 := c.setTile m.tile (reset (c.tile m.tile))
  let c2 := if fmt = .f64 then c1.setTile (m.tile + 1) (reset (c1.tile (m.tile + 1))) else c1
  let wrote := if m.tileFmt = fmt then (m.rowsUsed, m.colsUsed) else (64, 64)
  let done := c2.committed.put m.tile wrote
  { c2 with committed := if fmt = AccFmt.f64 then done.put (m.tile + 1) wrote else done }.putSums fmt m.tile m.rowsUsed m.colsUsed m.poison 0 m.sums

/-! ### Results in flight (R36, R55, R224) -/

/-- The tile whose elements a row of VACW writes: a row of what has become the odd half of an FP64 pair is a row of the pair
(DESIGN CHOICE, Log 61). -/
def rowTile (fmt : AccFmt) (t : Nat) : Nat := if fmt = .f64 then t / 2 * 2 else t

/-- Land one destination of a result on a context and its core; the flags are those found on landing. `fmts` are the tiles'
formats as they stand in the cycle, after every commit and MZERO that lands in it (R141). -/
def landWrite (fmts : Nat → AccFmt) (c : Core) (x : Ctx) (poison : Bool) (w : RegWrite) : Core × Ctx × FpFlags :=
  let y := { x with poison := x.poison.after w poison }
  match w with
  | .s r v => (c, y.ws r v, 0)
  | .a r v => (c, y.wa r v, 0)
  | .p r v => (c, y.wp r v, 0)
  | .v r v m => (c, y.wv r v m, 0)
  | .vq r v => (c, y.wvq r v, 0)
  | .q t i col v => (c, y.wq t i col v, 0)
  | .accRow t row type lanes =>
    let r := c.putRow (fmts t) (rowTile (fmts t) t) row type poison 0 lanes
    (r.1, y, r.2)
  | .mzero t fmt sc => (c.setTile t (zeroTile fmt sc), y, 0)
  | .commit id =>
    match c.cmds.find? (fun m => m.id = id) with
    | none => (c, y, 0)
    | some m =>
      let c1 := c.commitCmd m
      ({ c1 with cmds := c1.cmds.filter (fun k => k.id ≠ id) }, y, m.flags)

/-- Land all destinations of a result. -/
def landWrites (fmts : Nat → AccFmt) (c : Core) (x : Ctx) (poison : Bool) : List RegWrite → Core × Ctx × FpFlags
  | [] => (c, x, 0)
  | w :: rest =>
    let r := landWrite fmts c x poison w
    let q := landWrites fmts r.1 r.2.1 poison rest
    (q.1, q.2.1, r.2.2 ||| q.2.2)

/-- Land results in issue order, later operations last (R15), each with its flags (R55). -/
def landAll (fmts : Nat → AccFmt) (c : Core) (x : Ctx) : List Pend → Core × Ctx
  | [] => (c, x)
  | e :: rest =>
    let r := landWrites fmts c x e.poison e.writes
    landAll fmts r.1 { r.2.1 with fpPend := r.2.1.fpPend ||| e.flags ||| r.2.2 } rest

/-- The format of a tile after one destination has landed (R141, R170, R176). -/
def RegWrite.fmtAfter (c : Core) (t : Nat) (f : AccFmt) : RegWrite → AccFmt
  | .mzero u g _ => if u = t then g else f
  | .commit id => match c.cmds.find? (fun m => m.id = id) with
    | some m => if m.tile = t ∨ (accFmtOf m.cfg m.mlat = AccFmt.f64 ∧ m.tile + 1 = t) then accFmtOf m.cfg m.mlat else f
    | none => f
  | _ => f

/-- The format of a tile once results have landed. -/
def Core.fmtAfter (c : Core) (es : List Pend) (t : Nat) : AccFmt :=
  es.foldl (fun f e => e.writes.foldl (RegWrite.fmtAfter c t) f) (c.tile t).fmt

/-- Land results of one cycle. -/
def Core.landNow (c : Core) (x : Ctx) (es : List Pend) : Core × Ctx := landAll (c.fmtAfter es) c x es

/-- Insert a result by its place in issue order. -/
def insertPend (e : Pend) : List Pend → List Pend
  | [] => [e]
  | f :: rest => if e.seq < f.seq then e :: f :: rest else f :: insertPend e rest

/-- The results due at a time of the context's clock. -/
def Ctx.duePend (x : Ctx) (t : Nat) : List Pend := x.pend.filter (fun e => e.due ≤ t)

/-- Land every result due at or before clock `t` of context `i` of a core. -/
def Core.land (c : Core) (i t : Nat) : Core :=
  let x := c.ctx i
  let r := c.landNow { x with pend := x.pend.filter (fun e => ¬ e.due ≤ t) } (x.duePend t)
  r.1.setCtx i r.2

/-- Put a result of the acting context in flight, `lat` cycles from now (R36). -/
def State.emit (s : State) (lat : Nat) (writes : List RegWrite) (flags : FpFlags := 0) (poison : Bool := false) : State :=
  let n := s.me.seq
  let s1 := s.updCore (fun c => { c with seq := n + 1 })
  s1.updCtx (fun x => { x with pend := insertPend ⟨x.clock + lat, n, writes, flags, poison⟩ x.pend })

/-! ### A-space (R5, R147, R190, R315) -/

/-- The frame a window maps an offset to: exchanged frames change places (R190). -/
def Window.frame (w : Window) (a : Nat) : Nat :=
  if !w.exchanged then a
  else if w.base ≤ a ∧ a < w.base + w.size then a - w.base + w.partner
  else if w.partner ≤ a ∧ a < w.partner + w.size then a - w.partner + w.base
  else a

/-- Apply the windows of a context. -/
def framesOf (ws : Map Window) (a : Nat) : Nat := ws.foldl (fun a w => w.2.frame a) a

/-- The storage offset that an A-space name reaches: the windows of all contexts of the core are disjoint (R191). -/
def Core.aPhys (c : Core) (a : Nat) : Nat := [0, 1, 2, 3].foldl (fun a i => framesOf (c.ctx i).windows a) a

/-- Read a byte of A-space. -/
def Core.rByte (c : Core) (a : Nat) : Byte := c.aspace.get 0 (c.aPhys a)
/-- Write a byte of A-space. -/
def Core.wByte (c : Core) (a : Nat) (v : Byte) : Core := { c with aspace := c.aspace.write 0 (c.aPhys a) v }

/-- Read `n` bytes as a little-endian number (R51). -/
def Core.rBytes (c : Core) (a : Nat) : Nat → Nat
  | 0 => 0
  | n + 1 => (c.rByte a).toNat + 256 * c.rBytes (a + 1) n

/-- Write `n` bytes of a number, little-endian. -/
def Core.wBytes (c : Core) (a : Nat) (v : Nat) : Nat → Core
  | 0 => c
  | n + 1 => (c.wByte a (BitVec.ofNat 8 v)).wBytes (a + 1) (v / 256) n

/-- Read an A-space word. -/
def Core.rWord (c : Core) (a : Nat) : Word := BitVec.ofNat 32 (c.rBytes a 4)

/-- The full bit of the word at an offset (R152). -/
def Core.isFull (c : Core) (a : Nat) : Bool := c.full.get false (c.aPhys a / 4)
/-- Set the full bit of the word at an offset. -/
def Core.setFull (c : Core) (a : Nat) (v : Bool) : Core := { c with full := c.full.write false (c.aPhys a / 4) v }
/-- The poison mark of the word at an offset. -/
def Core.wordPoison (c : Core) (a : Nat) : Bool := c.apoison.get false (c.aPhys a / 4)
/-- Set the poison mark of the word at an offset. -/
def Core.setWordPoison (c : Core) (a : Nat) (v : Bool) : Core :=
  { c with apoison := c.apoison.write false (c.aPhys a / 4) v }

/-- Some word of `n` words from an offset is poisoned. -/
def Core.anyPoison (c : Core) (a n : Nat) : Bool := (List.range n).any (fun i => c.wordPoison (a + 4 * i))

/-- Mark the words that `n` bytes from an offset touch; clearing a mark needs the whole word (R392). -/
def Core.markBytes (c : Core) (a n : Nat) (poison : Bool) : Core :=
  if poison then (List.range ((a % 4 + n + 3) / 4)).foldl (fun c i => c.setWordPoison (a / 4 * 4 + 4 * i) true) c
  else (List.range (n / 4)).foldl (fun c i => if a % 4 = 0 then c.setWordPoison (a + 4 * i) false else c) c

/-- Bytes that something else has written: the lanes of a load that are still to come read them as they are (R305). -/
def Core.unhide (c : Core) (a n : Nat) : Core :=
  match c.lanes with
  | none => c
  | some l =>
    { c with lanes := some { l with hides := l.hides.filter (fun h => !(List.range n).any (fun i => decide (c.aPhys (a + i) = h.1))) } }

/-- Store `n` bytes with their poison. -/
def Core.store (c : Core) (a v n : Nat) (poison : Bool) : Core := (c.wBytes a v n).markBytes a n poison

/-! ### Traps (R227 to R233) -/

/-- The code of a cause (R231). -/
def Cause.code : Cause → Nat
  | .illegal => 0x01
  | .priv => 0x02
  | .align => 0x04
  | .abound => 0x05
  | .stklim => 0x06
  | .wstore => 0x07
  | .wbound => 0x08
  | .layout => 0x09
  | .xlate => 0x0A
  | .prot => 0x0B
  | .dchk => 0x0C
  | .poison => 0x0D
  | .kvhandle => 0x0E
  | .kvcow => 0x0F
  | .lshell => 0x10
  | .queue => 0x11
  | .trapi => 0x12
  | .ifetch => 0x13
  | .syncto => 0x14
  | .partition => 0x15

/-- The trap record CX_TRAPCAUSE (R228). -/
def trapCauseWord (t : Trap) (after : Bool) (owed : Nat) : Word :=
  BitVec.ofNat 32 (t.cause.code + t.slot % 8 * 2 ^ 8 + (if after then 2 ^ 11 else 0) + t.stream % 16 * 2 ^ 12
    + owed % 1024 * 2 ^ 16)

/-- The live half of I-space (R404). -/
def Ctx.half (x : Ctx) : Nat := x.liveHalf

/-- The context stops (R233): it issues nothing further and its captured results are abandoned. -/
def Ctx.stop (x : Ctx) : Ctx :=
  { x with life := .stopped, pend := [], replay := [], replayArmed := false, wait := none, after := .none, afterNow := false,
           engineTraps := [], xfer := .trapped }

/-- Discard the commands of a context that the predicate names: the engine finishes their arithmetic, and they commit nothing (R171).
An MMAS goes on. -/
def Core.discard (c : Core) (i : Nat) (p : MCmd → Bool) : Core :=
  { c with cmds := c.cmds.map (fun m => if m.ctx = i ∧ m.kind ≠ .mmas ∧ p m then { m with discarded := true } else m) }

/-- The commands of a context that take a replay entry are discarded with it (R171, R233). -/
def Core.dropCommits (c : Core) (i : Nat) : Core := c.discard i (fun _ => true)

/-- Discard the commands whose commit no entry names (R171, R226). -/
def Core.keepCommits (c : Core) (i : Nat) (es : List Pend) : Core :=
  c.discard i (fun m => !es.any (fun e => e.writes.any (fun w => w = .commit m.id)))

/-- Discarded commands that have done their work leave (R171). -/
def Core.endDiscarded (c : Core) : Core :=
  { c with cmds := c.cmds.filter (fun m => !(m.discarded && decide (m.total ≤ m.next + m.skip ∧ 12 + m.arrayTime ≤ m.age))) }

/-- Take a trap at the current cycle of a context (R227). The next bundle to issue is B; `precise` says that B is the
trapping bundle, and `owed` bundles and bubbles come before it. -/
def Ctx.trap (x : Ctx) (t : Trap) (after : Bool) : Ctx :=
  let owed := x.owedN + x.owedB
  if x.inTrap then x.stop
  else
    let y := { x with trapCause := trapCauseWord t after owed, trapPc := BitVec.ofNat 64 (x.pc % 0x40000), trapInfo := t.info,
                      savedB := x.owedB }
    if (x.trapVec.extractLsb' 0 17) = 0 then y.stop
    else
      { y with
        replay := (x.pend.filter (fun e => x.clock < e.due)).map (fun e => { e with due := e.due - x.clock })
        replayAt := x.clock
        replayOwed := owed
        pend := x.pend.filter (fun e => e.due ≤ x.clock)
        suspended := x.loop
        loop := {}
        inTrap := true
        pc := x.half * 0x20000 + (x.trapVec.extractLsb' 2 15).toNat * 4
        owedN := 0
        owedB := 0
        bubbles := 2
        wait := none
        waitOver := false
        kvRefused := if after then x.kvRefused else none
        savedAfter := x.after
        after := .none
        afterNow := false
        xfer := .trapped }

/-- The results that a handler held captured are in flight again, counted from the cycle `k` cycles on in which B issues; the deadlines
of operations and the cycles of commands issued before the trap count from there too (R170, R224, R230, R349). -/
def State.putBack (s : State) (k : Nat) : State :=
  let x := s.ctx
  let away := x.clock + k - x.replayAt
  let y : Ctx := { x with
    replayArmed := false, replay := []
    pend := x.replay.foldl (fun l e => insertPend { e with due := x.clock + k + e.due } l) x.pend }
  (s.setCtx y).updCore (fun c => { c with
    ops := c.ops.map (fun o => if o.tag = x.tag ∧ o.id < x.trapOp then { o with deadline := o.deadline.map (fun d => d + away) } else o)
    cmds := c.cmds.map (fun m => if m.ctx = s.who ∧ m.id < x.trapSeq then { m with issued := m.issued + away } else m) })

/-- A trap that comes between an ERET and the issue of B finds the results that wait for B in flight, and captures them anew (R224,
R226). -/
def State.rearmed (s : State) : State :=
  if s.ctx.replayArmed && !s.ctx.inTrap then s.putBack (s.ctx.owedN + s.ctx.owedB - s.ctx.replayOwed) else s

/-- Take a trap in the acting context; a mismatch of DCHK or VDCHK adds 128 to the core's score (R387). -/
def State.takeTrap (s : State) (t : Trap) (after : Bool := false) : State :=
  let s := s.rearmed
  let y := s.ctx.trap t after
  let x := if y.life = .stopped then y else { y with trapOp := s.me.nextOp, trapSeq := s.me.seq }
  let s1 := s.setCtx x
  let s2 := if t.cause = .dchk then s1.addScore (coreUnit s.cur) 128 else s1
  if x.life = .stopped then s2.updCore (fun c => c.dropCommits s.who) else s2

/-- A loop ends: its configuration is cleared (R93). -/
def LoopState.ended : LoopState := {}

/-- Return from the handler (R230): the loop is restored, OWED taken from CX_TRAPCAUSE, TRAP cleared and the results
re-injected when B issues, or discarded. A loop whose body does not hold the target ends. The bundles owed before the first bundle after
the body are still the body's (R92, R224, R232): a return to that bundle with OWED above 0 keeps the loop (DEDUCED, Log 67). A page
service's refusal stands for its own bundle alone (R346). -/
def Ctx.eret (x : Ctx) (discard : Bool) : Ctx :=
  let target := (x.trapPc.extractLsb' 0 18).toNat
  let owed := (x.trapCause.extractLsb' 16 10).toNat
  let b := Nat.min x.savedB owed
  let l := x.suspended
  let place := l.places.find? (fun q => q.1 = target)
  { x with
    loop := if !l.active then l else match place with
      | some q => if owed - b ≤ q.2 then { l with pos := q.2 - (owed - b) } else l
      | none => if l.last.pc = target ∧ 0 < owed then l else LoopState.ended
    suspended := {}
    owedN := owed - b
    owedB := b
    inTrap := false
    after := x.savedAfter
    savedAfter := .none
    kvRefused := x.kvRefused.filter (fun r => decide (r.2 = target))
    pc := target
    bubbles := 2
    replay := if discard then [] else x.replay
    replayArmed := true
    xfer := .trapped }

/-- ERET and ERET.D of the acting context (R230): a discard drops the commits of the captured matrix commands (R171). -/
def State.eret (s : State) (discard : Bool) : State :=
  let y := s.ctx.eret discard
  let s1 := s.setCtx y
  if discard then s1.updCore (fun c => c.keepCommits s.who y.pend) else s1

end Sys2Proof.Machine
end

