-- ==== Sys2Proof/Machine/Flags.lean ====
section
/-! DEFINITION. Conditions and flags: integer compares (R23, R81, R124), and CX_FPFLAGS (R54, R55). -/
namespace Sys2Proof.Machine
open Sys2Proof

/-- An integer condition on two numbers of `w` bits: eq, ne, lt, le signed, ltz, lez unsigned (R23). -/
def intCond (w cc a b : Nat) : Bool :=
  match cc with
  | 0 => decide (a % 2 ^ w = b % 2 ^ w)
  | 1 => decide (a % 2 ^ w ≠ b % 2 ^ w)
  | 2 => decide (signedOf w a < signedOf w b)
  | 3 => decide (signedOf w a ≤ signedOf w b)
  | 4 => decide (a % 2 ^ w < b % 2 ^ w)
  | _ => decide (a % 2 ^ w ≤ b % 2 ^ w)

/-- The pair a compare writes: the condition and its negation (R81). -/
def pairWrites (k : Nat) (c : Bool) : List RegWrite := [.p (2 * k) c, .p (2 * k + 1) (!c)]

/-- Merge the flags of the cycle into CX_FPFLAGS at its end (R55). -/
def Ctx.mergeFlags (x : Ctx) : Ctx := { x with fpFlags := x.fpFlags ||| x.fpPend, fpPend := 0 }

/-- A SYSWR of CX_FPFLAGS: flags set in the same cycle are ORed into the written value (R55). -/
def Ctx.writeFlags (x : Ctx) (v : Word) : Ctx := { x with fpFlags := v.extractLsb' 0 7 }

end Sys2Proof.Machine
end

