-- ==== Sys2Proof/Machine/Act.lean ====
section
/-! DEFINITION. What one slot of a bundle does (R14, R17, R20): its guard, the poison it consumes, its decode-time and
issue-time faults, what holds it at issue, and its performance, which reads the state at issue and adds to the state the
earlier slots have left. -/
namespace Sys2Proof.Machine
open Sys2Proof

/-- What holds a bundle at issue. -/
inductive Hold where
  /-- The freeze line is asserted until the cause goes (R156, R169, R184, R203, R204). -/
  | freeze
  /-- Issue bubbles until the oldest command commits (R169). -/
  | bubble
  /-- The word must become full, or empty (R153). -/
  | word (addr : Nat) (full : Bool)
  /-- The array is occupied: the core is frozen and the matrix engine goes on (R169). -/
  | array
  /-- A W-bank must grant the read (R156, R260). -/
  | bank (b : Nat)
  /-- A handle-table entry must arrive (R203). -/
  | handle
  /-- A KVAPP needs a page: the request (R204, R346). -/
  | kvPage (r : SvcReq)
  deriving DecidableEq, Repr

/-- The meaning of a slot word. -/
structure Act where
  /-- The guard predicate (R16, R17). -/
  guard : BitVec 4
  /-- Registers whose poison the slot consumes (R393). -/
  uses : List Src := []
  /-- Poisoned memory it consumes: the source address. -/
  usesMem : State → Option DWord := fun _ => none
  /-- ILLEGAL at decode by the state of the context (R20, R76, R90, R110). -/
  banned : State → Bool := fun _ => false
  /-- A privileged form (R35). -/
  priv : Bool := false
  /-- Precise faults at issue, in the instruction's own order: cause and CX_TRAPINFO. -/
  check : State → Option (Cause × DWord) := fun _ => none
  /-- What holds it at issue. -/
  hold : State → Option Hold := fun _ => none
  /-- It takes an entry in its copy engine's queue (R184). -/
  engine : Bool := false
  /-- Perform: slot index, the state at issue, the state so far. -/
  perform : Nat → State → State → State

/-- Some source is poisoned, so the result is (R392). -/
def State.anyPoisoned (s : State) (l : List Src) : Bool := l.any s.ctx.poisoned

/-- The poison that a slot with a true guard would consume (R393): the address of the poisoned source, or 0 for a
register. -/
def Act.poisonUsed (a : Act) (s : State) : Option DWord :=
  if s.anyPoisoned a.uses then some 0 else a.usesMem s

/-- The guard reads true. -/
def Act.guarded (a : Act) (s : State) : Bool := s.ctx.rp a.guard.toNat

/-- The decode fault of an instruction in a slot: ILLEGAL, then PRIV (R20, R35). -/
def decodeFault (i : Instr) (a : Act) (s : State) : Option Cause :=
  if i.decodeCheck.isSome || a.banned s then some .illegal
  else if a.priv && !s.ctx.priv then some .priv
  else none

/-- What stops a slot at issue. -/
inductive SlotFault where
  | poison (info : DWord)
  | trap (c : Cause) (info : DWord)
  deriving DecidableEq, Repr

/-- The fault of a slot at issue (R17, R20, R393): a poisoned guard is consumed whatever it reads; a slot whose guard is
false has no other; poison is tested before the checks that would use the poisoned value. -/
def issueFault (a : Act) (s : State) : Option SlotFault :=
  if s.ctx.poisoned (.p a.guard) then some (.poison 0)
  else if !a.guarded s then none
  else match a.poisonUsed s with
    | some info => some (.poison info)
    | none => match a.check s with
      | some f => some (.trap f.1 f.2)
      | none => none

/-- The handler of the innermost open region unwinds there (R395). -/
def Ctx.unwindTo (x : Ctx) (r : Region) (rest : List Region) (slot : Nat) (info : DWord) : Ctx :=
  { x with
    pend := x.pend.filter (fun e => e.due ≤ x.clock)
    replay := []
    replayArmed := false
    loop := {}
    suspended := {}
    trapCause := trapCauseWord { cause := .poison, slot := slot, info := info } false 0
    trapPc := BitVec.ofNat 64 (x.pc % 0x40000)
    trapInfo := info
    contain := rest
    pc := r.handler
    liveHalf := r.handler / 0x20000
    rowProg := 0
    kvRefused := none
    owedN := 0
    owedB := 0
    bubbles := 2
    wait := none
    waitOver := false
    after := .none
    afterNow := false
    xfer := .trapped }

/-- Poison consumed in a slot: outside a containment region it traps POISON; inside it unwinds to the innermost region,
whose operations are cancelled and whose staged writes are discarded by the engines (R393, R395). -/
def State.consumePoison (s : State) (slot : Nat) (info : DWord) : State :=
  match s.ctx.contain with
  | [] => s.takeTrap { cause := .poison, slot := slot, info := info }
  | r :: rest =>
    let s1 := s.setCtx (s.ctx.unwindTo r rest slot info)
    ({ s1 with unwinding := s1.unwinding ++ [r.id] } : State).updCore (fun (c : Core) =>
      { c with
        cmds := c.cmds.filter (fun m => m.ctx ≠ s.who)
        port := c.port.map (fun p => if p.ctx = s.who then { p with dropped := true } else p)
        ops := c.ops.filter (fun o => ¬ (o.ctx = s.who ∧ o.region.any (fun q => q.id = r.id) ∧ o.begun = false)) })

/-- Assert a hold found at issue: the core is frozen for this wall cycle, or the context takes a bubble. -/
def State.holdAt (s : State) (h : Hold) : State :=
  match h with
  | .bubble => s
  | .handle => { s with free := s.free + 1 }.updCore (fun c => { c with
      frozen := true, handleWait := if c.handleWait.isNone then some (Config.freeNat s.free) else c.handleWait })
  | .kvPage r =>
    if s.ctx.svcFor then s.updCore (fun c => { c with frozen := true })
    else
      let ask := decide (s.me.svcQueue.length < 16)
      (s.updCore (fun c => { c with frozen := true, svcQueue := if ask then c.svcQueue ++ [{ r with tag := s.ctx.tag }] else c.svcQueue })).updCtx
        (fun x => { x with svcFor := ask, svcHeld := ask })
  | .bank b => s.updCore (fun c => { c with frozen := true, bankWait := c.bankWait.put b (s.wall + 1) })
  | _ => s.updCore (fun c => { c with frozen := true })

/-- A copy engine's queue of 32 is full (R184). -/
def State.engineFull (s : State) (slot : Nat) : Bool :=
  decide (32 ≤ (s.me.ops.filter (fun o => o.engine = slot - 4)).length)

/-- What holds a slot at issue: a full queue of its copy engine, or its own hold. -/
def Act.holdIn (a : Act) (slot : Nat) (s : State) : Option Hold :=
  if a.engine && s.engineFull slot then some .freeze else a.hold s

/-- An array command whose guard is true is held before its issue checks are made: they belong to the cycle in which it issues
(R168, R169, R245). -/
def Act.arrayHeld (a : Act) (s : State) : Option Hold :=
  if a.guarded s then (match a.hold s with
    | some .bubble => some .bubble
    | some .array => some .array
    | _ => none) else none

/-- Take the fault of a slot. -/
def State.takeFault (s : State) (slot : Nat) : SlotFault → State
  | .poison info => s.consumePoison slot info
  | .trap c info => s.takeTrap { cause := c, slot := slot, info := info }

/-- One slot word alone in the bundle of the acting context: the faults of R20 in their order, the hold, and the
performance; the hold of an array command comes before the faults of issue. The bundle's own advance is BUNDLE_ISSUE's. -/
def runAct (i : Instr) (slot : Nat) (a : Act) (s : State) : State :=
  match decodeFault i a s with
  | some c => s.takeTrap { cause := c, slot := slot, info := 0 }
  | none =>
    match a.arrayHeld s with
    | some h => s.holdAt h
    | none =>
      match issueFault a s with
      | some f => s.takeFault slot f
      | none =>
        if !a.guarded s then s
        else match a.holdIn slot s with
          | some h => s.holdAt h
          | none => a.perform slot s s

/-- The slot in which a lone instruction stands (R4, R42). -/
def slotOf (i : Instr) : Nat :=
  match i.slotClass with
  | some c => c.index
  | none => 0

/-- What a step answers. -/
abbrev Out := Host.Outcome State Fault Refusal

/-- The step outcome of one slot word alone. -/
def runAlone (i : Instr) (a : Act) (s : State) : Out := .next (runAct i (slotOf i) a s)

end Sys2Proof.Machine
end

