-- ==== Sys2Proof/Machine/Operands.lean ====
section
/-! DEFINITION. Operand forms: A-space addresses and their checks (R73, R145, R149 to R151), typed lanes and masks
(R115 to R118), walks of nest levels (R93, R172, R188). -/
namespace Sys2Proof.Machine
open Sys2Proof

/-- Sign-extend an offset field and scale it (R25, R145). -/
def offBy {n : Nat} (off : BitVec n) (scale : Nat) : DWord := (off.signExtend 64) * BitVec.ofNat 64 scale

/-- The address of format AM (R145). -/
def Ctx.addrAM {n : Nat} (x : Ctx) (base : BitVec 4) (off : BitVec n) (scale : Nat) : DWord := x.ra base + offBy off scale

/-- The checks of an S-slot access (R73): alignment, then the end of A-space, for `len` bytes; the address itself lies below the end. R73
gives the two no order, nor a trap for an access that begins below the end and passes it: the model reports ALIGN first, and ABOUND for the
whole access (DESIGN CHOICE, Log 70). -/
def checkS (a : DWord) (alignment len : Nat) : Option (Cause × DWord) :=
  if a.toNat % alignment ≠ 0 then some (.align, a)
  else if Config.aSize < a.toNat + Nat.max 1 len then some (.abound, a)
  else none

/-- The lowest-numbered lane address that fails a test. -/
def firstBad (ok : DWord → Bool) : List DWord → Option DWord
  | [] => none
  | a :: rest => if ok a then firstBad ok rest else some a

/-- The lowest of a list of addresses, taken as unsigned numbers. -/
def lowest (d : DWord) : List DWord → DWord
  | [] => d
  | a :: rest => lowest (if a.toNat < d.toNat then a else d) rest

/-- The checks of an A-slot access in their order (R145): a0 aligned, every address aligned, every byte in A-space, and
for a store based on a0 the stack limit (R146). Each address accesses `len` bytes. -/
def Ctx.checkA (x : Ctx) (base : BitVec 4) (addrs : List DWord) (alignment len : Nat) (store : Bool) :
    Option (Cause × DWord) :=
  let first := addrs.headD (x.ra base)
  if base = 0 ∧ (x.ra 0).toNat % 16 ≠ 0 then some (.align, first)
  else match firstBad (fun a => decide (a.toNat % alignment = 0)) addrs with
    | some a => some (.align, a)
    | none => match firstBad (fun a => decide (a.toNat + len ≤ Config.aSize)) addrs with
      | some a => some (.abound, a)
      | none =>
        let lo := lowest first addrs
        if store ∧ base = 0 ∧ lo.toNat < x.stkLim.toNat then some (.stklim, lo) else none

/-- The lane addresses of a strided access (R151). -/
def strideAddrs (a : DWord) (stride : Word) : List DWord :=
  (List.range 64).map (fun i => a + BitVec.ofNat 64 i * stride.signExtend 64)

/-- The lane addresses of a contiguous vector access (R150). -/
def vecAddrs (a : DWord) : List DWord := strideAddrs a 4

/-- The lane addresses of an indexed access (R151). -/
def indexAddrs (a : DWord) (idx : VReg) : List DWord :=
  (List.range 64).map (fun i => a + BitVec.ofNat 64 (vLane idx 4 i))

/-- Words without repeats. -/
def dedupNat : List Nat → List Nat
  | [] => []
  | a :: rest => if rest.contains a then dedupNat rest else a :: dedupNat rest

/-- The largest number of distinct words that one bank serves (R148, R246). -/
def bankLoad (words : List Nat) : Nat :=
  let ws := dedupNat words
  ws.foldl (fun m w => max m (ws.filter (fun v => v % 192 = w % 192)).length) 0

/-- Apply an operation to the lanes of two registers: results and the flags of the active lanes (R116). -/
def laneOp2 (t : Nat) (m : BitVec 64) (f : Nat → Nat → Nat × FpFlags) (a b : VReg) : List Nat × FpFlags :=
  let r := (List.range (typeLanes t)).map (fun i =>
    if laneActive t m i then f (vLane a (typeBytes t) i) (vLane b (typeBytes t) i) else (0, 0))
  (r.map Prod.fst, r.foldl (fun acc x => acc ||| x.2) 0)

/-- Apply an operation to the lanes of three registers. -/
def laneOp3 (t : Nat) (m : BitVec 64) (f : Nat → Nat → Nat → Nat × FpFlags) (a b d : VReg) : List Nat × FpFlags :=
  let r := (List.range (typeLanes t)).map (fun i =>
    if laneActive t m i then
      f (vLane a (typeBytes t) i) (vLane b (typeBytes t) i) (vLane d (typeBytes t) i) else (0, 0))
  (r.map Prod.fst, r.foldl (fun acc x => acc ||| x.2) 0)

/-- The write of a lanewise result: active lanes only (R116). -/
def laneWrite (d t : Nat) (m : BitVec 64) (lanes : List Nat) : RegWrite :=
  .v d (vOfLanes (typeBytes t) lanes) (laneMask t m)

/-- The write of a whole register. -/
def fullWrite (d t : Nat) (lanes : List Nat) : RegWrite := .v d (vOfLanes (typeBytes t) lanes) vAll

/-- A stride of 24 bits as an integer. -/
def strideInt (b : BitVec 24) : Int := b.toInt

/-- The counter vector of step `i` of a walk over levels with these counts, first level fastest (R93). -/
def walkCounters (counts : List Nat) (i : Nat) : List Nat :=
  match counts with
  | [] => []
  | c :: rest => (if c = 0 then 0 else i % c) :: walkCounters rest (if c = 0 then 0 else i / c)

/-- The offset a counter vector and strides give. -/
def walkOffset (ctr : List Nat) (strides : List Int) : Int :=
  match ctr, strides with
  | c :: cs, s :: ss => (c : Int) * s + walkOffset cs ss
  | _, _ => 0

/-- An address plus an integer offset, modulo 2^64. -/
def addInt (a : DWord) (i : Int) : DWord := a + BitVec.ofInt 64 i

end Sys2Proof.Machine
end

