-- ==== Sys2Proof/Machine/Fetch.lean ====
section
/-! DEFINITION. Stored bundles and their fetch (R39, R40, R404 to R408): expansion, the fetch buffer, the loop buffer, and
the faults of fetch. -/
namespace Sys2Proof.Machine
open Sys2Proof

/-- A byte of the fetch unit's source: I-space for a user context, the firmware for ctxS (DESIGN CHOICE, Log 9). -/
def Core.iByte (c : Core) (who a : Nat) : Byte := if who = 4 then Config.firmware a else c.ispace.get 0 a

/-- The word at an I-space address, little-endian. -/
def Core.iWord (c : Core) (who a : Nat) : Word :=
  c.iByte who (a + 3) ++ c.iByte who (a + 2) ++ c.iByte who (a + 1) ++ c.iByte who a

/-- The words of the slots a template marks present, from an address on; the others are NOPs (R39). -/
def slotWords (c : Core) (who : Nat) (t : BitVec 8) (a : Nat) : Nat → List Word
  | 0 => []
  | k + 1 =>
    if t.getLsbD (8 - (k + 1)) then c.iWord who a :: slotWords c who t (a + 4) k else 0 :: slotWords c who t a k

/-- The number of words a template marks present. -/
def templateCount (t : BitVec 8) : Nat := (templateSlots t).length

/-- The first poisoned word of a stored bundle in I-space (R408). -/
def Core.iPoison (c : Core) (a n : Nat) : Option Nat :=
  ((List.range n).map (fun i => a + 4 * i)).find? (fun w => c.ipoison.get false (w / 4))

/-- Expand the stored bundle at a header address (R39), with the first poisoned word it was read from (R408). -/
def Core.expandAt (c : Core) (who a : Nat) : Expanded :=
  let h := c.iWord who a
  let t := headerTemplate h
  { run := headerRun h, next := a + 4 + 4 * templateCount t, words := slotWords c who t (a + 4) 8, headerOk := headerOk h,
    bad := if who = 4 then none else c.iPoison a (1 + templateCount t) }

/-- The end of a half of I-space. -/
def halfEnd (half : Nat) : Nat := (half + 1) * 0x20000

/-- A loop is in its first pass (R407). -/
def LoopState.firstPass (l : LoopState) : Bool := l.active && l.ctr.all (fun n => decide (n = 0))

/-- The stored bundle a context finds at a header address: in the first pass of a loop from the fetch buffer, in later passes from the loop
buffer, and each from the other where that holds none; else expanded from I-space (R406, R407). -/
def Core.bundleAt (c : Core) (who : Nat) (a : Nat) : Expanded :=
  let l := (c.ctx who).loop
  let looped := if l.active then l.buf.find a else none
  let held := if who = 4 then none else (c.fetchBuf.find? (fun e => e.1 = a)).map Prod.snd
  ((if l.firstPass then held.or looped else looped.or held)).getD (c.expandAt who a)

/-- The fault of fetching the next bundle, if it cannot issue (R39, R406, R408). -/
def Core.fetchFault (c : Core) (who : Nat) : Option (Cause × DWord) :=
  let x := c.ctx who
  let stop := halfEnd x.half
  if stop ≤ x.pc then some (.ifetch, BitVec.ofNat 64 stop)
  else
    let e := c.bundleAt who x.pc
    if stop < e.next then some (.ifetch, BitVec.ofNat 64 x.pc)
    else e.bad.map (fun w => (.poison, BitVec.ofNat 64 w))

/-- Keep a bundle in the fetch buffer of 256 bundles; the oldest leaves (R406, DEDUCED, Log 10). -/
def Core.keepBundle (c : Core) (a : Nat) (e : Expanded) : Core :=
  if c.fetchBuf.any (fun f => f.1 = a) then c
  else { c with fetchBuf := (c.fetchBuf ++ [(a, e)]).drop (c.fetchBuf.length + 1 - 256) }

/-- The address of the next header after the bundle at the program counter (R40). -/
def State.nextHeader (s : State) : Nat := (s.me.bundleAt s.who s.ctx.pc).next

/-- The run of the bundle at the program counter. -/
def State.runHere (s : State) : Nat := (s.me.bundleAt s.who s.ctx.pc).run

/-- The places of a loop body of `len` expanded bundles that begins with `owed` NOP bundles and then the stored bundle at
`pc`: for each stored bundle its index, and the place after the body (R40, R92). -/
def bodyPlaces (c : Core) (who : Nat) (fuel len idx owed pc : Nat) : List (Nat × Nat) × Pos :=
  match fuel with
  | 0 => ([], ⟨owed, pc⟩)
  | fuel + 1 =>
    if len - idx ≤ owed then ([], ⟨owed - (len - idx), pc⟩)
    else
      let e := c.bundleAt who pc
      let r := bodyPlaces c who fuel len (idx + owed + 1) e.run e.next
      ((pc, idx + owed) :: r.1, r.2)

end Sys2Proof.Machine
end

