-- ==== Sys2Proof/Machine/Scalar.lean ====
section
/-! DEFINITION. The S slot's arithmetic: integers, constants, compares, FP32, predicates, address registers, checks and
counters (R77 to R86, R112, R113). Each instruction has its Act, and its meaning alone in a bundle. -/
namespace Sys2Proof.Machine
open Sys2Proof

/-- Signed quotient truncated toward zero, with the edges of R78. -/
def sdiv (a b : Word) : Word :=
  if b = 0 then 0xFFFFFFFF else BitVec.ofInt 32 (Int.tdiv a.toInt b.toInt)

/-- Unsigned quotient (R78). -/
def zdiv (a b : Word) : Word := if b = 0 then 0xFFFFFFFF else BitVec.ofNat 32 (a.toNat / b.toNat)

/-- Signed remainder, with the sign of a (R78). -/
def srem (a b : Word) : Word := if b = 0 then a else BitVec.ofInt 32 (Int.tmod a.toInt b.toInt)

/-- Unsigned remainder (R78). -/
def zrem (a b : Word) : Word := if b = 0 then a else BitVec.ofNat 32 (a.toNat % b.toNat)

/-- Count of leading zeros; 32 for 0 (R77). -/
def clz (a : Word) : Word := if a = 0 then 32 else BitVec.ofNat 32 (31 - Nat.log2 a.toNat)

/-- Count of set bits (R77). -/
def popc (a : Word) : Word := BitVec.ofNat 32 ((List.range 32).filter (fun i => a.getLsbD i)).length

/-- The integer operations by function code (R77). -/
def iop (func : Nat) (a b : Word) : Word :=
  match func with
  | 0x00 => a + b
  | 0x01 => a - b
  | 0x02 => a * b
  | 0x03 => BitVec.ofInt 32 (Int.fdiv (a.toInt * b.toInt) (2 ^ 32))
  | 0x04 => BitVec.ofNat 32 (a.toNat * b.toNat / 2 ^ 32)
  | 0x05 => sdiv a b
  | 0x06 => zdiv a b
  | 0x07 => srem a b
  | 0x08 => zrem a b
  | 0x09 => a &&& b
  | 0x0A => a ||| b
  | 0x0B => a ^^^ b
  | 0x0C => a &&& ~~~b
  | 0x0D => a <<< (b.toNat % 32)
  | 0x0E => a >>> (b.toNat % 32)
  | 0x0F => a.sshiftRight (b.toNat % 32)
  | 0x10 => if a.toInt ≤ b.toInt then a else b
  | 0x11 => if a.toInt ≤ b.toInt then b else a
  | 0x12 => if a.toNat ≤ b.toNat then a else b
  | 0x13 => if a.toNat ≤ b.toNat then b else a
  | 0x14 => clz a
  | _ => popc a

/-- The latency of an integer operation (R37, R77). -/
def iopLat (func : Nat) : Nat :=
  if 0x02 ≤ func ∧ func ≤ 0x04 then 3 else if 0x05 ≤ func ∧ func ≤ 0x08 then 18 else 1

/-- FCVT by conversion code (R83). -/
def fcvt (code : Nat) (a : Word) : Nat × FpFlags :=
  match code with
  | 0 => fp32.round (.ofInt a.toInt)
  | 1 => fp32.round (.ofInt a.toNat)
  | 2 => convertTo 2 (nf8Fmt 0) (fp32.unpack a.toNat)
  | 3 => convertTo 5 (nf8Fmt 0) (fp32.unpack a.toNat)
  | 4 => fp32.round (fp16.unpack (a.toNat % 65536))
  | 5 => fp32.round (bf16.unpack (a.toNat % 65536))
  | 6 => fp16.round (fp32.unpack a.toNat)
  | _ => bf16.round (fp32.unpack a.toNat)

/-- The FP32 operations by function code (R82); `code` is the conversion of FCVT. -/
def fop (func code : Nat) (a b : Word) : Nat × FpFlags :=
  match func with
  | 0x00 => fAdd fp32 a.toNat b.toNat
  | 0x01 => fSub fp32 a.toNat b.toNat
  | 0x02 => fMul fp32 a.toNat b.toNat
  | 0x03 => fDiv fp32 a.toNat b.toNat
  | 0x04 => fSqrt fp32 a.toNat
  | 0x05 => fMinMax fp32 false a.toNat b.toNat
  | 0x06 => fMinMax fp32 true a.toNat b.toNat
  | 0x07 => (fSgn fp32 a.toNat b.toNat, 0)
  | _ => fcvt code a

/-- The latency of an FP32 operation (R37, R82). -/
def fopLat (func : Nat) : Nat := if func = 3 ∨ func = 4 then 16 else 4

/-- A slot that computes an s register from s registers by an integer operation (R77). -/
def iopAct (g : BitVec 4) (d a b : BitVec 5) (func : Nat) : Act :=
  { guard := g
    perform := fun _ s0 s => s.emit (iopLat func) [.s d.toNat (iop func (s0.ctx.rs a) (s0.ctx.rs b))] 0
      (s0.anyPoisoned [.s a, .s b]) }

/-- A slot that computes an s register by an FP32 operation (R82). -/
def fopAct (g : BitVec 4) (d a b : BitVec 5) (func code : Nat) : Act :=
  { guard := g
    perform := fun _ s0 s =>
      let r := fop func code (s0.ctx.rs a) (s0.ctx.rs b)
      s.emit (fopLat func) [.s d.toNat (BitVec.ofNat 32 r.1)] r.2 (s0.anyPoisoned [.s a, .s b]) }

/-- A slot that computes an s register from one and an immediate, with latency 1 (R79). -/
def immAct (g : BitVec 4) (d a : BitVec 5) (f : Word → Word) : Act :=
  { guard := g
    perform := fun _ s0 s => s.emit 1 [.s d.toNat (f (s0.ctx.rs a))] 0 (s0.anyPoisoned [.s a]) }

/-- A slot that writes predicates computed from others, with latency 1 (R85). -/
def predAct (g d a b : BitVec 4) (f : Bool → Bool → Bool) : Act :=
  { guard := g
    perform := fun _ s0 s => s.emit 1 [.p d.toNat (f (s0.ctx.rp a.toNat) (s0.ctx.rp b.toNat))] 0
      (s0.anyPoisoned [.p a, .p b]) }

/-- A slot that writes an a register, with latency 1 (R86). -/
def addrAct (g d : BitVec 4) (srcs : List Src) (f : Ctx → DWord) : Act :=
  { guard := g
    perform := fun _ s0 s => s.emit 1 [.a d.toNat (f s0.ctx)] 0 (s0.anyPoisoned srcs) }

/-- A tagged pointer from a scalar and an address (R8, R86). -/
def tagPointer (a : DWord) (s : Word) : DWord :=
  let space := (s.extractLsb' 28 4).setWidth 64
  if space = 7 then (7 <<< 60) ||| ((s.extractLsb' 0 12).setWidth 64 <<< 48) ||| (a.extractLsb' 0 48).setWidth 64
  else (space <<< 60) ||| ((s.extractLsb' 0 9).setWidth 64 <<< 51) ||| (a.extractLsb' 0 51).setWidth 64

/-- NOP does nothing, whatever its guard (R19). -/
def actNop (g : BitVec 4) : Act := { guard := g, perform := fun _ _ s => s }

/-- NOP (R19), alone in its bundle. -/
def execNop (g : BitVec 4) (s : State) : Out := runAlone (.nop g) (actNop g) s

/-- ADD (R77). -/
def actAdd (g : BitVec 4) (d a b : BitVec 5) : Act :=
  iopAct g d a b 0

/-- ADD (R77), alone in its bundle. -/
def execAdd (g : BitVec 4) (d a b : BitVec 5) (s : State) : Out := runAlone (.add g d a b) (actAdd g d a b) s

/-- SUB (R77). -/
def actSub (g : BitVec 4) (d a b : BitVec 5) : Act :=
  iopAct g d a b 1

/-- SUB (R77), alone in its bundle. -/
def execSub (g : BitVec 4) (d a b : BitVec 5) (s : State) : Out := runAlone (.sub g d a b) (actSub g d a b) s

/-- MUL (R77). -/
def actMul (g : BitVec 4) (d a b : BitVec 5) : Act :=
  iopAct g d a b 2

/-- MUL (R77), alone in its bundle. -/
def execMul (g : BitVec 4) (d a b : BitVec 5) (s : State) : Out := runAlone (.mul g d a b) (actMul g d a b) s

/-- MULH (R77). -/
def actMulh (g : BitVec 4) (d a b : BitVec 5) : Act :=
  iopAct g d a b 3

/-- MULH (R77), alone in its bundle. -/
def execMulh (g : BitVec 4) (d a b : BitVec 5) (s : State) : Out := runAlone (.mulh g d a b) (actMulh g d a b) s

/-- MULHZ (R77). -/
def actMulhz (g : BitVec 4) (d a b : BitVec 5) : Act :=
  iopAct g d a b 4

/-- MULHZ (R77), alone in its bundle. -/
def execMulhz (g : BitVec 4) (d a b : BitVec 5) (s : State) : Out := runAlone (.mulhz g d a b) (actMulhz g d a b) s

/-- DIV (R77). -/
def actDiv (g : BitVec 4) (d a b : BitVec 5) : Act :=
  iopAct g d a b 5

/-- DIV (R78), alone in its bundle. -/
def execDiv (g : BitVec 4) (d a b : BitVec 5) (s : State) : Out := runAlone (.div g d a b) (actDiv g d a b) s

/-- DIVZ (R77). -/
def actDivz (g : BitVec 4) (d a b : BitVec 5) : Act :=
  iopAct g d a b 6

/-- DIVZ (R78), alone in its bundle. -/
def execDivz (g : BitVec 4) (d a b : BitVec 5) (s : State) : Out := runAlone (.divz g d a b) (actDivz g d a b) s

/-- REM (R77). -/
def actRem (g : BitVec 4) (d a b : BitVec 5) : Act :=
  iopAct g d a b 7

/-- REM (R78), alone in its bundle. -/
def execRem (g : BitVec 4) (d a b : BitVec 5) (s : State) : Out := runAlone (.rem g d a b) (actRem g d a b) s

/-- REMZ (R77). -/
def actRemz (g : BitVec 4) (d a b : BitVec 5) : Act :=
  iopAct g d a b 8

/-- REMZ (R78), alone in its bundle. -/
def execRemz (g : BitVec 4) (d a b : BitVec 5) (s : State) : Out := runAlone (.remz g d a b) (actRemz g d a b) s

/-- AND (R77). -/
def actAnd (g : BitVec 4) (d a b : BitVec 5) : Act :=
  iopAct g d a b 9

/-- AND (R77), alone in its bundle. -/
def execAnd (g : BitVec 4) (d a b : BitVec 5) (s : State) : Out := runAlone (.and g d a b) (actAnd g d a b) s

/-- OR (R77). -/
def actOr (g : BitVec 4) (d a b : BitVec 5) : Act :=
  iopAct g d a b 10

/-- OR (R77), alone in its bundle. -/
def execOr (g : BitVec 4) (d a b : BitVec 5) (s : State) : Out := runAlone (.or g d a b) (actOr g d a b) s

/-- XOR (R77). -/
def actXor (g : BitVec 4) (d a b : BitVec 5) : Act :=
  iopAct g d a b 11

/-- XOR (R77), alone in its bundle. -/
def execXor (g : BitVec 4) (d a b : BitVec 5) (s : State) : Out := runAlone (.xor g d a b) (actXor g d a b) s

/-- ANDN (R77). -/
def actAndn (g : BitVec 4) (d a b : BitVec 5) : Act :=
  iopAct g d a b 12

/-- ANDN (R77), alone in its bundle. -/
def execAndn (g : BitVec 4) (d a b : BitVec 5) (s : State) : Out := runAlone (.andn g d a b) (actAndn g d a b) s

/-- SHL (R77). -/
def actShl (g : BitVec 4) (d a b : BitVec 5) : Act :=
  iopAct g d a b 13

/-- SHL (R77), alone in its bundle. -/
def execShl (g : BitVec 4) (d a b : BitVec 5) (s : State) : Out := runAlone (.shl g d a b) (actShl g d a b) s

/-- SHR (R77). -/
def actShr (g : BitVec 4) (d a b : BitVec 5) : Act :=
  iopAct g d a b 14

/-- SHR (R77), alone in its bundle. -/
def execShr (g : BitVec 4) (d a b : BitVec 5) (s : State) : Out := runAlone (.shr g d a b) (actShr g d a b) s

/-- SRA (R77). -/
def actSra (g : BitVec 4) (d a b : BitVec 5) : Act :=
  iopAct g d a b 15

/-- SRA (R77), alone in its bundle. -/
def execSra (g : BitVec 4) (d a b : BitVec 5) (s : State) : Out := runAlone (.sra g d a b) (actSra g d a b) s

/-- MIN (R77). -/
def actMin (g : BitVec 4) (d a b : BitVec 5) : Act :=
  iopAct g d a b 16

/-- MIN (R77), alone in its bundle. -/
def execMin (g : BitVec 4) (d a b : BitVec 5) (s : State) : Out := runAlone (.min g d a b) (actMin g d a b) s

/-- MAX (R77). -/
def actMax (g : BitVec 4) (d a b : BitVec 5) : Act :=
  iopAct g d a b 17

/-- MAX (R77), alone in its bundle. -/
def execMax (g : BitVec 4) (d a b : BitVec 5) (s : State) : Out := runAlone (.max g d a b) (actMax g d a b) s

/-- MINZ (R77). -/
def actMinz (g : BitVec 4) (d a b : BitVec 5) : Act :=
  iopAct g d a b 18

/-- MINZ (R77), alone in its bundle. -/
def execMinz (g : BitVec 4) (d a b : BitVec 5) (s : State) : Out := runAlone (.minz g d a b) (actMinz g d a b) s

/-- MAXZ (R77). -/
def actMaxz (g : BitVec 4) (d a b : BitVec 5) : Act :=
  iopAct g d a b 19

/-- MAXZ (R77), alone in its bundle. -/
def execMaxz (g : BitVec 4) (d a b : BitVec 5) (s : State) : Out := runAlone (.maxz g d a b) (actMaxz g d a b) s

/-- CLZ (R77). -/
def actClz (g : BitVec 4) (d a : BitVec 5) : Act :=
  iopAct g d a 0 20

/-- CLZ (R77), alone in its bundle. -/
def execClz (g : BitVec 4) (d a : BitVec 5) (s : State) : Out := runAlone (.clz g d a) (actClz g d a) s

/-- POPC (R77). -/
def actPopc (g : BitVec 4) (d a : BitVec 5) : Act :=
  iopAct g d a 0 21

/-- POPC (R77), alone in its bundle. -/
def execPopc (g : BitVec 4) (d a : BitVec 5) (s : State) : Out := runAlone (.popc g d a) (actPopc g d a) s

/-- ADDI, the immediate sign-extended (R79). -/
def actAddi (g : BitVec 4) (d a : BitVec 5) (i : BitVec 12) : Act :=
  immAct g d a (fun x => x + i.signExtend 32)

/-- ADDI (R79), alone in its bundle. -/
def execAddi (g : BitVec 4) (d a : BitVec 5) (i : BitVec 12) (s : State) : Out := runAlone (.addi g d a i) (actAddi g d a i) s

/-- ANDI, the immediate zero-extended (R79). -/
def actAndi (g : BitVec 4) (d a : BitVec 5) (i : BitVec 12) : Act :=
  immAct g d a (fun x => x &&& i.setWidth 32)

/-- ANDI (R79), alone in its bundle. -/
def execAndi (g : BitVec 4) (d a : BitVec 5) (i : BitVec 12) (s : State) : Out := runAlone (.andi g d a i) (actAndi g d a i) s

/-- ORI, the immediate zero-extended (R79). -/
def actOri (g : BitVec 4) (d a : BitVec 5) (i : BitVec 12) : Act :=
  immAct g d a (fun x => x ||| i.setWidth 32)

/-- ORI (R79), alone in its bundle. -/
def execOri (g : BitVec 4) (d a : BitVec 5) (i : BitVec 12) (s : State) : Out := runAlone (.ori g d a i) (actOri g d a i) s

/-- XORI, the immediate zero-extended (R79). -/
def actXori (g : BitVec 4) (d a : BitVec 5) (i : BitVec 12) : Act :=
  immAct g d a (fun x => x ^^^ i.setWidth 32)

/-- XORI (R79), alone in its bundle. -/
def execXori (g : BitVec 4) (d a : BitVec 5) (i : BitVec 12) (s : State) : Out := runAlone (.xori g d a i) (actXori g d a i) s

/-- SHLI, the immediate shift amount (R79). -/
def actShli (g : BitVec 4) (d a i : BitVec 5) : Act :=
  immAct g d a (fun x => x <<< i.toNat)

/-- SHLI (R79), alone in its bundle. -/
def execShli (g : BitVec 4) (d a i : BitVec 5) (s : State) : Out := runAlone (.shli g d a i) (actShli g d a i) s

/-- SHRI, the immediate shift amount (R79). -/
def actShri (g : BitVec 4) (d a i : BitVec 5) : Act :=
  immAct g d a (fun x => x >>> i.toNat)

/-- SHRI (R79), alone in its bundle. -/
def execShri (g : BitVec 4) (d a i : BitVec 5) (s : State) : Out := runAlone (.shri g d a i) (actShri g d a i) s

/-- SRAI, the immediate shift amount (R79). -/
def actSrai (g : BitVec 4) (d a i : BitVec 5) : Act :=
  immAct g d a (fun x => x.sshiftRight i.toNat)

/-- SRAI (R79), alone in its bundle. -/
def execSrai (g : BitVec 4) (d a i : BitVec 5) (s : State) : Out := runAlone (.srai g d a i) (actSrai g d a i) s

/-- MOVI (R80). -/
def actMovi (g : BitVec 4) (d : BitVec 5) (i : BitVec 17) : Act :=
  { guard := g, perform := fun _ _ s => s.emit 1 [.s d.toNat (i.signExtend 32)] }

/-- MOVI (R80), alone in its bundle. -/
def execMovi (g : BitVec 4) (d : BitVec 5) (i : BitVec 17) (s : State) : Out := runAlone (.movi g d i) (actMovi g d i) s

/-- MOVHI keeps the low half of sd as it is at issue (R80). -/
def actMovhi (g : BitVec 4) (d : BitVec 5) (i : BitVec 16) : Act :=
  immAct g d d (fun x => i ++ x.extractLsb' 0 16)

/-- MOVHI (R80), alone in its bundle. -/
def execMovhi (g : BitVec 4) (d : BitVec 5) (i : BitVec 16) (s : State) : Out := runAlone (.movhi g d i) (actMovhi g d i) s

/-- SEL: sa when pc reads true, and sb otherwise (R80). -/
def actSel (g : BitVec 4) (d a b : BitVec 5) (p : BitVec 4) : Act :=
  { guard := g
    uses := [.p p]
    perform := fun _ s0 s => s.emit 1 [.s d.toNat (if s0.ctx.rp p.toNat then s0.ctx.rs a else s0.ctx.rs b)] 0
      (s0.anyPoisoned [.s a, .s b]) }

/-- SEL (R80), alone in its bundle. -/
def execSel (g : BitVec 4) (d a b : BitVec 5) (p : BitVec 4) (s : State) : Out := runAlone (.sel g d a b p) (actSel g d a b p) s

/-- CMP (R81). -/
def actCmp (g : BitVec 4) (k c : BitVec 3) (a b : BitVec 5) : Act :=
  { guard := g
    perform := fun _ s0 s => s.emit 1 (pairWrites k.toNat (intCond 32 c.toNat (s0.ctx.rs a).toNat (s0.ctx.rs b).toNat)) 0
      (s0.anyPoisoned [.s a, .s b]) }

/-- CMP (R81), alone in its bundle. -/
def execCmp (g : BitVec 4) (k c : BitVec 3) (a b : BitVec 5) (s : State) : Out := runAlone (.cmp g k c a b) (actCmp g k c a b) s

/-- CMPI: imm11 sign-extended, then compared as the condition says (R81). -/
def actCmpi (g : BitVec 4) (k c : BitVec 3) (a : BitVec 5) (i : BitVec 11) : Act :=
  { guard := g
    perform := fun _ s0 s => s.emit 1
      (pairWrites k.toNat (intCond 32 c.toNat (s0.ctx.rs a).toNat (i.signExtend 32).toNat)) 0 (s0.anyPoisoned [.s a]) }

/-- CMPI (R81), alone in its bundle. -/
def execCmpi (g : BitVec 4) (k c : BitVec 3) (a : BitVec 5) (i : BitVec 11) (s : State) : Out := runAlone (.cmpi g k c a i) (actCmpi g k c a i) s

/-- FADD (R82). -/
def actFadd (g : BitVec 4) (d a b : BitVec 5) : Act :=
  fopAct g d a b 0 0

/-- FADD (R82), alone in its bundle. -/
def execFadd (g : BitVec 4) (d a b : BitVec 5) (s : State) : Out := runAlone (.fadd g d a b) (actFadd g d a b) s

/-- FSUB (R82). -/
def actFsub (g : BitVec 4) (d a b : BitVec 5) : Act :=
  fopAct g d a b 1 0

/-- FSUB (R82), alone in its bundle. -/
def execFsub (g : BitVec 4) (d a b : BitVec 5) (s : State) : Out := runAlone (.fsub g d a b) (actFsub g d a b) s

/-- FMUL (R82). -/
def actFmul (g : BitVec 4) (d a b : BitVec 5) : Act :=
  fopAct g d a b 2 0

/-- FMUL (R82), alone in its bundle. -/
def execFmul (g : BitVec 4) (d a b : BitVec 5) (s : State) : Out := runAlone (.fmul g d a b) (actFmul g d a b) s

/-- FDIV (R82). -/
def actFdiv (g : BitVec 4) (d a b : BitVec 5) : Act :=
  fopAct g d a b 3 0

/-- FDIV (R82), alone in its bundle. -/
def execFdiv (g : BitVec 4) (d a b : BitVec 5) (s : State) : Out := runAlone (.fdiv g d a b) (actFdiv g d a b) s

/-- FSQRT (R82). -/
def actFsqrt (g : BitVec 4) (d a : BitVec 5) : Act :=
  fopAct g d a 0 4 0

/-- FSQRT (R82), alone in its bundle. -/
def execFsqrt (g : BitVec 4) (d a : BitVec 5) (s : State) : Out := runAlone (.fsqrt g d a) (actFsqrt g d a) s

/-- FMIN (R82). -/
def actFmin (g : BitVec 4) (d a b : BitVec 5) : Act :=
  fopAct g d a b 5 0

/-- FMIN (R82), alone in its bundle. -/
def execFmin (g : BitVec 4) (d a b : BitVec 5) (s : State) : Out := runAlone (.fmin g d a b) (actFmin g d a b) s

/-- FMAX (R82). -/
def actFmax (g : BitVec 4) (d a b : BitVec 5) : Act :=
  fopAct g d a b 6 0

/-- FMAX (R82), alone in its bundle. -/
def execFmax (g : BitVec 4) (d a b : BitVec 5) (s : State) : Out := runAlone (.fmax g d a b) (actFmax g d a b) s

/-- FSGN (R82). -/
def actFsgn (g : BitVec 4) (d a b : BitVec 5) : Act :=
  fopAct g d a b 7 0

/-- FSGN (R82), alone in its bundle. -/
def execFsgn (g : BitVec 4) (d a b : BitVec 5) (s : State) : Out := runAlone (.fsgn g d a b) (actFsgn g d a b) s

/-- FCVT_F32_S32 (R83). -/
def actFcvtF32S32 (g : BitVec 4) (d a : BitVec 5) : Act :=
  fopAct g d a 0 8 0

/-- FCVT_F32_S32 (R83), alone in its bundle. -/
def execFcvtF32S32 (g : BitVec 4) (d a : BitVec 5) (s : State) : Out := runAlone (.fcvtF32S32 g d a) (actFcvtF32S32 g d a) s

/-- FCVT_F32_Z32 (R83). -/
def actFcvtF32Z32 (g : BitVec 4) (d a : BitVec 5) : Act :=
  fopAct g d a 0 8 1

/-- FCVT_F32_Z32 (R83), alone in its bundle. -/
def execFcvtF32Z32 (g : BitVec 4) (d a : BitVec 5) (s : State) : Out := runAlone (.fcvtF32Z32 g d a) (actFcvtF32Z32 g d a) s

/-- FCVT_S32_F32 (R83). -/
def actFcvtS32F32 (g : BitVec 4) (d a : BitVec 5) : Act :=
  fopAct g d a 0 8 2

/-- FCVT_S32_F32 (R83), alone in its bundle. -/
def execFcvtS32F32 (g : BitVec 4) (d a : BitVec 5) (s : State) : Out := runAlone (.fcvtS32F32 g d a) (actFcvtS32F32 g d a) s

/-- FCVT_Z32_F32 (R83). -/
def actFcvtZ32F32 (g : BitVec 4) (d a : BitVec 5) : Act :=
  fopAct g d a 0 8 3

/-- FCVT_Z32_F32 (R83), alone in its bundle. -/
def execFcvtZ32F32 (g : BitVec 4) (d a : BitVec 5) (s : State) : Out := runAlone (.fcvtZ32F32 g d a) (actFcvtZ32F32 g d a) s

/-- FCVT_F32_F16 (R83). -/
def actFcvtF32F16 (g : BitVec 4) (d a : BitVec 5) : Act :=
  fopAct g d a 0 8 4

/-- FCVT_F32_F16 (R83), alone in its bundle. -/
def execFcvtF32F16 (g : BitVec 4) (d a : BitVec 5) (s : State) : Out := runAlone (.fcvtF32F16 g d a) (actFcvtF32F16 g d a) s

/-- FCVT_F32_BF16 (R83). -/
def actFcvtF32Bf16 (g : BitVec 4) (d a : BitVec 5) : Act :=
  fopAct g d a 0 8 5

/-- FCVT_F32_BF16 (R83), alone in its bundle. -/
def execFcvtF32Bf16 (g : BitVec 4) (d a : BitVec 5) (s : State) : Out := runAlone (.fcvtF32Bf16 g d a) (actFcvtF32Bf16 g d a) s

/-- FCVT_F16_F32 (R83). -/
def actFcvtF16F32 (g : BitVec 4) (d a : BitVec 5) : Act :=
  fopAct g d a 0 8 6

/-- FCVT_F16_F32 (R83), alone in its bundle. -/
def execFcvtF16F32 (g : BitVec 4) (d a : BitVec 5) (s : State) : Out := runAlone (.fcvtF16F32 g d a) (actFcvtF16F32 g d a) s

/-- FCVT_BF16_F32 (R83). -/
def actFcvtBf16F32 (g : BitVec 4) (d a : BitVec 5) : Act :=
  fopAct g d a 0 8 7

/-- FCVT_BF16_F32 (R83), alone in its bundle. -/
def execFcvtBf16F32 (g : BitVec 4) (d a : BitVec 5) (s : State) : Out := runAlone (.fcvtBf16F32 g d a) (actFcvtBf16F32 g d a) s

/-- FFMA: sa * sb + sc, rounded once (R84). -/
def actFfma (g : BitVec 4) (d a b c : BitVec 5) : Act :=
  { guard := g
    perform := fun _ s0 s =>
      let r := fFma fp32 (s0.ctx.rs a).toNat (s0.ctx.rs b).toNat (s0.ctx.rs c).toNat
      s.emit 4 [.s d.toNat (BitVec.ofNat 32 r.1)] r.2 (s0.anyPoisoned [.s a, .s b, .s c]) }

/-- FFMA (R84), alone in its bundle. -/
def execFfma (g : BitVec 4) (d a b c : BitVec 5) (s : State) : Out := runAlone (.ffma g d a b c) (actFfma g d a b c) s

/-- FCMP (R81, R56). -/
def actFcmp (g : BitVec 4) (k c : BitVec 3) (a b : BitVec 5) : Act :=
  { guard := g
    perform := fun _ s0 s =>
      let r := fCmp fp32 c.toNat (s0.ctx.rs a).toNat (s0.ctx.rs b).toNat
      s.emit 4 (pairWrites k.toNat r.1) r.2 (s0.anyPoisoned [.s a, .s b]) }

/-- FCMP (R81), alone in its bundle. -/
def execFcmp (g : BitVec 4) (k c : BitVec 3) (a b : BitVec 5) (s : State) : Out := runAlone (.fcmp g k c a b) (actFcmp g k c a b) s

/-- PAND (R85). -/
def actPand (g d a b : BitVec 4) : Act :=
  predAct g d a b (fun x y => x && y)

/-- PAND (R85), alone in its bundle. -/
def execPand (g d a b : BitVec 4) (s : State) : Out := runAlone (.pand g d a b) (actPand g d a b) s

/-- POR (R85). -/
def actPor (g d a b : BitVec 4) : Act :=
  predAct g d a b (fun x y => x || y)

/-- POR (R85), alone in its bundle. -/
def execPor (g d a b : BitVec 4) (s : State) : Out := runAlone (.por g d a b) (actPor g d a b) s

/-- PXOR (R85). -/
def actPxor (g d a b : BitVec 4) : Act :=
  predAct g d a b (fun x y => x != y)

/-- PXOR (R85), alone in its bundle. -/
def execPxor (g d a b : BitVec 4) (s : State) : Out := runAlone (.pxor g d a b) (actPxor g d a b) s

/-- PMOV (R85). -/
def actPmov (g d a : BitVec 4) : Act :=
  predAct g d a a (fun x _ => x)

/-- PMOV (R85), alone in its bundle. -/
def execPmov (g d a : BitVec 4) (s : State) : Out := runAlone (.pmov g d a) (actPmov g d a) s

/-- Eight predicates from pa on, as bits 7 to 0 (R85). -/
def packPreds (x : Ctx) (a : Nat) : Nat := (List.range 8).foldl (fun acc i => acc + (if x.rp (a + i) then 2 ^ i else 0)) 0

/-- PPACK (R85). -/
def actPpack (g a : BitVec 4) (u : BitVec 5) : Act :=
  { guard := g
    perform := fun _ s0 s => s.emit 1 [.s u.toNat (BitVec.ofNat 32 (packPreds s0.ctx a.toNat))] 0
      (s0.anyPoisoned ((List.range 8).map (fun i => .p (a + BitVec.ofNat 4 i)))) }

/-- PPACK (R85), alone in its bundle. -/
def execPpack (g a : BitVec 4) (u : BitVec 5) (s : State) : Out := runAlone (.ppack g a u) (actPpack g a u) s

/-- PUNPK writes only the eight predicates it names (R85). -/
def actPunpk (g d : BitVec 4) (u : BitVec 5) : Act :=
  { guard := g
    perform := fun _ s0 s => s.emit 1 ((List.range 8).map (fun i => .p (d.toNat + i) ((s0.ctx.rs u).getLsbD i))) 0
      (s0.anyPoisoned [.s u]) }

/-- PUNPK (R85), alone in its bundle. -/
def execPunpk (g d : BitVec 4) (u : BitVec 5) (s : State) : Out := runAlone (.punpk g d u) (actPunpk g d u) s

/-- AADD (R86). -/
def actAadd (g d a : BitVec 4) (u : BitVec 5) : Act :=
  addrAct g d [.a a, .s u] (fun x => x.ra a + (x.rs u).signExtend 64)

/-- AADD (R86), alone in its bundle. -/
def execAadd (g d a : BitVec 4) (u : BitVec 5) (s : State) : Out := runAlone (.aadd g d a u) (actAadd g d a u) s

/-- AADDI (R86). -/
def actAaddi (g d a : BitVec 4) (i : BitVec 14) : Act :=
  addrAct g d [.a a] (fun x => x.ra a + i.signExtend 64)

/-- AADDI (R86), alone in its bundle. -/
def execAaddi (g d a : BitVec 4) (i : BitVec 14) (s : State) : Out := runAlone (.aaddi g d a i) (actAaddi g d a i) s

/-- AMOV (R86). -/
def actAmov (g d : BitVec 4) (u : BitVec 5) : Act :=
  addrAct g d [.s u] (fun x => (x.rs u).setWidth 64)

/-- AMOV (R86), alone in its bundle. -/
def execAmov (g d : BitVec 4) (u : BitVec 5) (s : State) : Out := runAlone (.amov g d u) (actAmov g d u) s

/-- AMOV.hi: the low half is the one read at issue (R86). -/
def actAmovHi (g d : BitVec 4) (u : BitVec 5) : Act :=
  addrAct g d [.a d, .s u] (fun x => x.rs u ++ (x.ra d).extractLsb' 0 32)

/-- AMOV_HI (R86), alone in its bundle. -/
def execAmovHi (g d : BitVec 4) (u : BitVec 5) (s : State) : Out := runAlone (.amovHi g d u) (actAmovHi g d u) s

/-- ATOS (R86). -/
def actAtos (g a : BitVec 4) (u : BitVec 5) : Act :=
  { guard := g, perform := fun _ s0 s => s.emit 1 [.s u.toNat ((s0.ctx.ra a).extractLsb' 0 32)] 0 (s0.anyPoisoned [.a a]) }

/-- ATOS (R86), alone in its bundle. -/
def execAtos (g a : BitVec 4) (u : BitVec 5) (s : State) : Out := runAlone (.atos g a u) (actAtos g a u) s

/-- ATOS_HI (R86). -/
def actAtosHi (g a : BitVec 4) (u : BitVec 5) : Act :=
  { guard := g, perform := fun _ s0 s => s.emit 1 [.s u.toNat ((s0.ctx.ra a).extractLsb' 32 32)] 0 (s0.anyPoisoned [.a a]) }

/-- ATOS_HI (R86), alone in its bundle. -/
def execAtosHi (g a : BitVec 4) (u : BitVec 5) (s : State) : Out := runAlone (.atosHi g a u) (actAtosHi g a u) s

/-- ATAG: privileged; forms a tagged pointer and checks nothing (R86). -/
def actAtag (g d a : BitVec 4) (u : BitVec 5) : Act :=
  { addrAct g d [.a a, .s u] (fun x => tagPointer (x.ra a) (x.rs u)) with priv := true }

/-- ATAG (R86), alone in its bundle. -/
def execAtag (g d a : BitVec 4) (u : BitVec 5) (s : State) : Out := runAlone (.atag g d a u) (actAtag g d a u) s

/-- DCHK: a mismatch traps precisely (R112). -/
def actDchk (g : BitVec 4) (a b : BitVec 5) : Act :=
  { guard := g
    uses := [.s a, .s b]
    check := fun s => if s.ctx.rs a = s.ctx.rs b then none else some (.dchk, 0)
    perform := fun _ _ s => s }

/-- DCHK (R112), alone in its bundle. -/
def execDchk (g : BitVec 4) (a b : BitVec 5) (s : State) : Out := runAlone (.dchk g a b) (actDchk g a b) s

/-- The counters of CYCRD: the core cycle counter, or the context counter (R113). -/
def counterOf (k : BitVec 1) (s : State) : DWord := BitVec.ofNat 64 (if k = 0 then s.wall else s.ctx.clock)

/-- CYCRD (R113). -/
def actCycrd (g : BitVec 4) (u : BitVec 5) (k : BitVec 1) : Act :=
  { guard := g, perform := fun _ s0 s => s.emit 1 [.s u.toNat ((counterOf k s0).extractLsb' 0 32)] }

/-- CYCRD (R113), alone in its bundle. -/
def execCycrd (g : BitVec 4) (u : BitVec 5) (k : BitVec 1) (s : State) : Out := runAlone (.cycrd g u k) (actCycrd g u k) s

/-- CYCRD.w (R113). -/
def actCycrdW (g a : BitVec 4) (k : BitVec 1) : Act :=
  { guard := g, perform := fun _ s0 s => s.emit 1 [.a a.toNat (counterOf k s0)] }

/-- CYCRD_W (R113), alone in its bundle. -/
def execCycrdW (g a : BitVec 4) (k : BitVec 1) (s : State) : Out := runAlone (.cycrdW g a k) (actCycrdW g a k) s


end Sys2Proof.Machine
end

