-- ==== Sys2Proof/Machine/Control.lean ====
section
/-! DEFINITION. The S slot's control: transfers, the loop sequencer, waits on the core's own objects, traps, containment
and idling (R74, R75, R87 to R99, R105, R110, R111, R114). -/
namespace Sys2Proof.Machine
open Sys2Proof

/-- The instruction is not available to ctxS (R76). -/
def notInService (s : State) : Bool := decide (s.who = 4)

/-- The instruction is not available while a loop is active (R90). -/
def notInLoop (s : State) : Bool := s.ctx.loop.active

/-- Both restrictions. -/
def notInServiceOrLoop (s : State) : Bool := notInService s || notInLoop s

/-- The target of format SB: H + 4 * imm22 (R87). -/
def branchTarget (x : Ctx) (i : BitVec 22) : Int := (x.pc : Int) + 4 * i.toInt

/-- A branch target lies in a half of I-space; otherwise IFETCH (R88, R95). -/
def checkBranch (half : Nat) (t : Int) : Option (Cause × DWord) :=
  if (half * 0x20000 : Nat) ≤ t ∧ t < (halfEnd half : Nat) then none else some (.ifetch, BitVec.ofInt 64 t)

/-- A register target (R88): alignment first, then the live half. -/
def checkTarget (x : Ctx) (v : DWord) : Option (Cause × DWord) :=
  if v.toNat % 4 ≠ 0 then some (.align, v)
  else if v.toNat / 0x20000 ≠ x.half then some (.ifetch, v)
  else none

/-- The bundle chooses a transfer. -/
def State.xferTo (s : State) (t : Xfer) : State := s.updCtx (fun x => { x with xfer := t })

/-- A taken branch of format SB with its bubbles (R89). -/
def branchAct (g : BitVec 4) (i : BitVec 22) (link : Bool) : Act :=
  { guard := g
    check := fun s => checkBranch s.ctx.half (branchTarget s.ctx i)
    perform := fun _ s0 s =>
      let s1 := if link then s.emit 1 [.a 1 (BitVec.ofNat 64 s0.nextHeader)] else s
      s1.xferTo (.jump (branchTarget s0.ctx i).toNat 1 false) }

/-- A taken transfer to a register's value (R87, R89). -/
def jumpAct (g a : BitVec 4) (link : Bool) : Act :=
  { guard := g
    uses := [.a a]
    check := fun s => checkTarget s.ctx (s.ctx.ra a)
    perform := fun _ s0 s =>
      let s1 := if link then s.emit 1 [.a 1 (BitVec.ofNat 64 s0.nextHeader)] else s
      s1.xferTo (.jump (s0.ctx.ra a).toNat 2 false) }

/-- BR (R87). -/
def actBr (g : BitVec 4) (i : BitVec 22) : Act :=
  branchAct g i false

/-- BR (R87), alone in its bundle. -/
def execBr (g : BitVec 4) (i : BitVec 22) (s : State) : Out := runAlone (.br g i) (actBr g i) s

/-- BRL writes the link to a1; not in a loop (R87, R90). -/
def actBrl (g : BitVec 4) (i : BitVec 22) : Act :=
  { branchAct g i true with banned := notInLoop }

/-- BRL (R87), alone in its bundle. -/
def execBrl (g : BitVec 4) (i : BitVec 22) (s : State) : Out := runAlone (.brl g i) (actBrl g i) s

/-- JR (R87). -/
def actJr (g a : BitVec 4) : Act :=
  jumpAct g a false

/-- JR (R87), alone in its bundle. -/
def execJr (g a : BitVec 4) (s : State) : Out := runAlone (.jr g a) (actJr g a) s

/-- JRL reads aa before it writes a1; not in a loop (R87, R90). -/
def actJrl (g a : BitVec 4) : Act :=
  { jumpAct g a true with banned := notInLoop }

/-- JRL (R87), alone in its bundle. -/
def execJrl (g a : BitVec 4) (s : State) : Out := runAlone (.jrl g a) (actJrl g a) s

/-- RET: as JR, and the return is recorded in the trace; not in a loop (R87, R90). What an entry of the trace holds, and that it
loses none, is the model's (DESIGN CHOICE, Log 51). -/
def actRet (g a : BitVec 4) : Act :=
  { jumpAct g a false with
    banned := notInLoop
    perform := fun k s0 s => ((jumpAct g a false).perform k s0 s).updCtx (fun x =>
      { x with returns := (s0.ctx.pc, (s0.ctx.ra a).toNat) :: x.returns }) }

/-- RET (R87), alone in its bundle. -/
def execRet (g a : BitVec 4) (s : State) : Out := runAlone (.ret g a) (actRet g a) s

/-- IBSW: into the other half, which becomes the live half (R95). -/
def actIbsw (g : BitVec 4) (i : BitVec 22) : Act :=
  { guard := g
    banned := notInServiceOrLoop
    check := fun s => checkBranch (1 - s.ctx.half) (branchTarget s.ctx i)
    perform := fun _ s0 s => s.xferTo (.jump (branchTarget s0.ctx i).toNat 2 true) }

/-- IBSW (R95), alone in its bundle. -/
def execIbsw (g : BitVec 4) (i : BitVec 22) (s : State) : Out := runAlone (.ibsw g i) (actIbsw g i) s

/-- IFENCE holds issue until the context's own I-space copies are complete and two further cycles have passed (R94, R406). -/
def actIfence (g : BitVec 4) : Act :=
  { guard := g
    perform := fun _ s0 s => s.updCtx (fun x => { x with wait := some (.ifence s0.me.nextOp 2) }) }

/-- IFENCE (R94), alone in its bundle. -/
def execIfence (g : BitVec 4) (s : State) : Out := runAlone (.ifence g) (actIfence g) s

/-- The levels of a configuration with a zero count (R92). -/
def LoopCfg.hasZero (c : LoopCfg) : Bool := (List.range c.levels).any (fun l => decide (nestCount c.nest l = 0))

/-- LSET copies a nest register into the configuration (R92). -/
def actLset (g : BitVec 4) (n : BitVec 3) (a y : BitVec 4) (l : BitVec 3) : Act :=
  { guard := g
    banned := notInServiceOrLoop
    perform := fun _ s0 s => s.updCtx (fun x => { x with loop :=
      { cfg := some { nest := s0.ctx.rn n.toNat, levels := l.toNat + 1, ax := a.toNat, ay := y.toNat } } }) }

/-- LSET (R92), alone in its bundle. -/
def execLset (g : BitVec 4) (n : BitVec 3) (a y : BitVec 4) (l : BitVec 3) (s : State) : Out := runAlone (.lset g n a y l) (actLset g n a y l) s

/-- The body that LBODY would start here: its stored bundles and the place after it (R92). -/
def State.bodyHere (s : State) (len : Nat) : List (Nat × Nat) × Pos :=
  bodyPlaces s.me s.who (len + 1) len 0 s.runHere s.nextHeader

/-- The stored bundles of a body, each expanded from I-space with its header address; a poisoned one is expanded when it is reached
(R407, R408). -/
def Core.bodyOf (c : Core) (who : Nat) (places : List (Nat × Nat)) : List (Nat × Expanded) :=
  (places.map (fun q => (q.1, c.expandAt who q.1))).filter (fun q => q.2.bad.isNone)

/-- The fetch buffer keeps what a loop expands (R406). -/
def Core.keepBody (c : Core) (body : List (Nat × Expanded)) : Core := body.foldl (fun k q => k.keepBundle q.1 q.2) c

/-- LBODY starts the loop, or with a zero count goes on after the body (R92). The body is expanded from I-space as the loop begins, so that
no write that lands while the loop is active changes it (R407); a bundle that the fetch buffer holds issues from there in the first pass
(R406; DEDUCED, Log 10). -/
def State.startLoop (s0 s : State) (len : Nat) : State :=
  match s0.ctx.loop.cfg with
  | none => s
  | some c =>
    let b := s0.bodyHere len
    if c.hasZero then (s.updCtx (fun x => { x with loop := {} })).xferTo (.skipBody len)
    else
      let body := s0.me.bodyOf s0.who b.1
      (s.updCore (fun k => if s0.who = 4 then k else k.keepBody body)).updCtx (fun x => { x with
        xfer := .startBody len
        loop := { cfg := some c, active := true, ctr := List.replicate c.levels 0, len := len,
                  first := ⟨s0.runHere, s0.nextHeader⟩, last := b.2, places := b.1,
                  buf := body.foldl (fun m q => m.put q.1 q.2) [] } })

/-- LBODY (R92). For its IFETCH, which has no target, CX_TRAPINFO holds the end of the live half (DESIGN CHOICE, Log 52). -/
def actLbody (g : BitVec 4) (l : BitVec 6) : Act :=
  { guard := g
    banned := notInServiceOrLoop
    check := fun s =>
      if s.ctx.loop.cfg = none then some (.illegal, 0)
      else if halfEnd s.ctx.half < (s.bodyHere (l.toNat + 1)).2.pc then
        some (.ifetch, BitVec.ofNat 64 (halfEnd s.ctx.half))
      else none
    perform := fun _ s0 s => s0.startLoop s (l.toNat + 1) }

/-- LBODY (R92), alone in its bundle. -/
def execLbody (g : BitVec 4) (l : BitVec 6) (s : State) : Out := runAlone (.lbody g l) (actLbody g l) s

/-- LEXIT: the largest request of a pass applies; no effect without a loop (R92). -/
def actLexit (g : BitVec 4) (k : BitVec 3) : Act :=
  { guard := g
    banned := notInService
    perform := fun _ _ s => s.updCtx (fun x =>
      if x.loop.active then { x with loop := { x.loop with exitReq := max x.loop.exitReq k.toNat } } else x) }

/-- LEXIT (R92), alone in its bundle. -/
def execLexit (g : BitVec 4) (k : BitVec 3) (s : State) : Out := runAlone (.lexit g k) (actLexit g k) s

/-- One level of a nest image at an A-space offset (R91). -/
def Core.readLevel (c : Core) (a : Nat) : NestLevel :=
  { count := (c.rWord a).extractLsb' 0 16, sa := (c.rWord (a + 4)).extractLsb' 0 24,
    sb := (c.rWord (a + 8)).extractLsb' 0 24, sd := (c.rWord (a + 12)).extractLsb' 0 24 }

/-- A nest image of 96 bytes (R91). -/
def Core.readNest (c : Core) (a : Nat) : Nest := (List.range 6).map (fun l => c.readLevel (a + 16 * l))

/-- The first poisoned word of a range of A-space. -/
def Core.poisonIn (c : Core) (a words : Nat) : Option DWord :=
  (((List.range words).map (fun i => a + 4 * i)).find? c.wordPoison).map (BitVec.ofNat 64)

/-- NSET loads a nest register; five bubbles follow (R92). An image that begins below the end of A-space and passes it traps ABOUND (R73 speaks of the
address alone; DESIGN CHOICE, Log 70). -/
def actNset (g : BitVec 4) (n : BitVec 3) (a : BitVec 4) (o : BitVec 9) : Act :=
  { guard := g
    uses := [.a a]
    check := fun s => checkS (s.ctx.ra a + BitVec.ofNat 64 (16 * o.toNat)) 16 96
    usesMem := fun s => s.me.poisonIn (s.ctx.ra a + BitVec.ofNat 64 (16 * o.toNat)).toNat 24
    perform := fun _ s0 s => s.updCtx (fun x => { x with
      n := x.n.put n.toNat (s0.me.readNest (s0.ctx.ra a + BitVec.ofNat 64 (16 * o.toNat)).toNat), bubbles := 5 }) }

/-- NSET (R92), alone in its bundle. -/
def execNset (g : BitVec 4) (n : BitVec 3) (a : BitVec 4) (o : BitVec 9) (s : State) : Out := runAlone (.nset g n a o) (actNset g n a o) s

/-- The phase bit of a barrier object (R200). -/
def Core.phase (c : Core) (a : Nat) : Bool := (c.rWord (a + 12)).getLsbD 0

/-- The owner field of an event record (R98). -/
def Record.owner (r : Record) : Nat := (r.extractLsb' 8 3).toNat

/-- Take the oldest record addressed to a context (R98). -/
def popRecord (who : Nat) : List Record → Option (Record × List Record)
  | [] => none
  | r :: rest =>
    if Record.owner r = who then some (r, rest)
    else match popRecord who rest with
      | none => none
      | some q => some (q.1, r :: q.2)

/-- Begin a wait on the core's own state, unless it is satisfied in the issue cycle (R75). -/
def State.await (s : State) (w : Wait) (now : Bool) : State :=
  if now then s else s.updCtx (fun x => { x with wait := some w })

/-- BWAIT waits until the phase bit differs from par (R97). -/
def actBwait (g a : BitVec 4) (o : BitVec 8) (q : BitVec 1) : Act :=
  { guard := g
    uses := [.a a]
    banned := notInService
    check := fun s => checkS (s.ctx.ra a + BitVec.ofNat 64 (16 * o.toNat)) 16 16
    perform := fun _ s0 s =>
      let b := (s0.ctx.ra a + BitVec.ofNat 64 (16 * o.toNat)).toNat
      s.await (.barrier b (q = 1)) (s0.me.phase b != (q = 1)) }

/-- BWAIT (R97), alone in its bundle. -/
def execBwait (g a : BitVec 4) (o : BitVec 8) (q : BitVec 1) (s : State) : Out := runAlone (.bwait g a o q) (actBwait g a o q) s

/-- EVPOP removes the oldest record addressed to the context, and never waits (R98). -/
def actEvpop (g : BitVec 4) (u : BitVec 5) (a p : BitVec 4) (o : BitVec 9) : Act :=
  { guard := g
    uses := [.a a]
    check := fun s => checkS (s.ctx.ra a + BitVec.ofNat 64 (16 * o.toNat)) 16 16
    perform := fun _ s0 s =>
      match popRecord s0.who s0.me.events with
      | none => s.emit 1 [.s u.toNat 0, .p p.toNat false, .p (p.toNat + 1) true]
      | some r =>
        let s1 := s.updCore (fun c => { c.store (s0.ctx.ra a + BitVec.ofNat 64 (16 * o.toNat)).toNat r.1.toNat 16 false with
          events := r.2 })
        s1.emit 1 [.s u.toNat (r.1.extractLsb' 0 32), .p p.toNat true, .p (p.toNat + 1) false] }

/-- EVPOP (R98), alone in its bundle. -/
def execEvpop (g : BitVec 4) (u : BitVec 5) (a p : BitVec 4) (o : BitVec 9) (s : State) : Out := runAlone (.evpop g u a p o) (actEvpop g u a p o) s

/-- EVWAIT waits for a record addressed to the context and removes nothing (R98). -/
def actEvwait (g : BitVec 4) : Act :=
  { guard := g
    perform := fun _ s0 s => s.await .event (popRecord s0.who s0.me.events).isSome }

/-- EVWAIT (R98), alone in its bundle. -/
def execEvwait (g : BitVec 4) (s : State) : Out := runAlone (.evwait g) (actEvwait g) s

/-- YIELD ends the quantum: the selector switches if another context is ready (R105, R219). -/
def actYield (g : BitVec 4) : Act :=
  { guard := g
    banned := notInService
    perform := fun _ _ s => s.updCtx (fun x => { x with quantumDone := true }) }

/-- YIELD (R105), alone in its bundle. -/
def execYield (g : BitVec 4) (s : State) : Out := runAlone (.yield g) (actYield g) s

/-- TRAP: TRAPI after the bundle and its run (R110). -/
def actTrap (g : BitVec 4) (c : BitVec 8) : Act :=
  { guard := g
    banned := notInLoop
    perform := fun _ _ s => s.updCtx (fun x => { x with
      after := .trap { cause := .trapi, slot := 0, info := c.setWidth 64 } }) }

/-- TRAP (R110), alone in its bundle. -/
def execTrap (g : BitVec 4) (c : BitVec 8) (s : State) : Out := runAlone (.trap g c) (actTrap g c) s

/-- No handler is running: ERET is ILLEGAL at decode (R110). -/
def notInHandler (s : State) : Bool := !s.ctx.inTrap

/-- CX_TRAPPC is checked as a JR target; its fault is raised in the handler, so it stops the context (R88, R230, R233). -/
def checkResume (s : State) : Option (Cause × DWord) := checkTarget s.ctx ((s.ctx.trapPc.extractLsb' 0 18).setWidth 64)

/-- ERET resumes at CX_TRAPPC and re-injects the captured results (R110, R230). -/
def actEret (g : BitVec 4) : Act :=
  { guard := g, banned := notInHandler, check := checkResume, perform := fun _ _ s => s.eret false }

/-- ERET (R230), alone in its bundle. -/
def execEret (g : BitVec 4) (s : State) : Out := runAlone (.eret g) (actEret g) s

/-- ERET.D resumes and discards them (R110, R230). -/
def actEretD (g : BitVec 4) : Act :=
  { guard := g, banned := notInHandler, check := checkResume, perform := fun _ _ s => s.eret true }

/-- ERET_D (R230), alone in its bundle. -/
def execEretD (g : BitVec 4) (s : State) : Out := runAlone (.eretD g) (actEretD g) s

/-- An output list entry (R111); what its bytes 12 to 15 hold is not looked at (DESIGN CHOICE, Log 54). -/
def Core.readOut (c : Core) (a : Nat) : OutRange := { base := BitVec.ofNat 64 (c.rBytes a 8), len := c.rWord (a + 8) }

/-- An output list (R111). -/
def Core.readOuts (c : Core) (a m : Nat) : List OutRange := (List.range m).map (fun i => c.readOut (a + 16 * i))

/-- The total bytes of output lists (R395). -/
def outBytes (l : List OutRange) : Nat := (l.map (fun o => o.len.toNat)).sum

/-- The checks CONTAIN makes of its list (R395). -/
def checkOuts (x : Ctx) (l : List OutRange) : Bool :=
  l.all (fun o => decide (o.base.toNat % 128 = 0 ∧ o.len.toNat % 128 = 0 ∧ o.len.toNat ≠ 0)) &&
    decide (outBytes l + (x.contain.map (fun r => outBytes r.outputs)).sum ≤ 0x400000)

/-- CONTAIN opens a region: handler and output list, read at issue (R111, R395); the bases and lengths of the list are consumed (R393). R111
gives its faults no order: the model reports the depth, the handler, the list's address, and an entry of the list, in this order (DESIGN
CHOICE, Log 70). -/
def actContain (g : BitVec 4) (u : BitVec 5) (a m : BitVec 4) : Act :=
  { guard := g
    uses := [.s u, .a a]
    usesMem := fun s => if (checkS (s.ctx.ra a) 16 (16 * m.toNat)).isSome then none
      else (((List.range (4 * m.toNat)).filter (fun i => i % 4 ≠ 3)).find? (fun i => s.me.wordPoison ((s.ctx.ra a).toNat + 4 * i))).map
        (fun i => s.ctx.ra a + BitVec.ofNat 64 (4 * i))
    banned := notInServiceOrLoop
    check := fun s =>
      if 4 ≤ s.ctx.contain.length then some (.illegal, 0)
      else match checkTarget s.ctx ((s.ctx.rs u).setWidth 64) with
        | some f => some f
        | none => match checkS (s.ctx.ra a) 16 (16 * m.toNat) with
          | some f => some f
          | none => if checkOuts s.ctx (s.me.readOuts (s.ctx.ra a).toNat m.toNat) then none else some (.illegal, 0)
    perform := fun _ s0 s =>
      let s1 := s.updCtx (fun x => { x with contain :=
        { id := s0.me.nextRegion * 512 + s0.cur, handler := (s0.ctx.rs u).toNat,
          outputs := s0.me.readOuts (s0.ctx.ra a).toNat m.toNat } :: x.contain })
      s1.updCore (fun c => { c with nextRegion := c.nextRegion + 1 }) }

/-- CONTAIN (R111), alone in its bundle. -/
def execContain (g : BitVec 4) (u : BitVec 5) (a m : BitVec 4) (s : State) : Out := runAlone (.contain g u a m) (actContain g u a m) s

/-- Close the innermost region (R396): an inner region's staged writes pass to the enclosing one, and the outermost
region's are to be published once the region's operations are complete. -/
def State.closeRegion (s : State) : State :=
  match s.ctx.contain with
  | [] => s
  | r :: rest =>
    let s1 := s.updCtx (fun x => { x with contain := rest })
    match rest with
    | [] => { s1 with publishing := s1.publishing ++ [r.id] }
    | q :: _ => { s1 with merged := s1.merged ++ [(r.id, q.id)] }

/-- UNCONTAIN closes the innermost region (R111, R396). -/
def actUncontain (g : BitVec 4) : Act :=
  { guard := g
    banned := notInService
    check := fun s => if s.ctx.contain = [] then some (.illegal, 0) else none
    perform := fun _ _ s => s.closeRegion }

/-- UNCONTAIN (R396), alone in its bundle. -/
def execUncontain (g : BitVec 4) (s : State) : Out := runAlone (.uncontain g) (actUncontain g) s

/-- SNOP: n - 1 bubbles before its run (R114). -/
def actSnop (g : BitVec 4) (n : BitVec 9) : Act :=
  { guard := g, perform := fun _ _ s => s.updCtx (fun x => { x with owedB := n.toNat - 1 }) }

/-- SNOP (R114), alone in its bundle. -/
def execSnop (g : BitVec 4) (n : BitVec 9) (s : State) : Out := runAlone (.snop g n) (actSnop g n) s

/-- HALT ends the context after the bundle and its run (R114). -/
def actHalt (g : BitVec 4) : Act :=
  { guard := g, perform := fun _ _ s => s.updCtx (fun x => { x with after := .halt }) }

/-- HALT (R114), alone in its bundle. -/
def execHalt (g : BitVec 4) (s : State) : Out := runAlone (.halt g) (actHalt g) s


end Sys2Proof.Machine
end

