-- ==== Sys2Proof/Machine/Vector.lean ====
section
/-! DEFINITION. The vector slots: lanewise arithmetic, logic, compares, moves, reductions, dot products, conversions,
rounding, the function unit, checks and the scalar forms (R115 to R131, R143, R144). -/
namespace Sys2Proof.Machine
open Sys2Proof

/-- The width in bits of a lane of a type. -/
def laneBits (t : Nat) : Nat := 8 * typeBytes t

/-- A number of `w` bits from an integer. -/
def wrapInt (w : Nat) (i : Int) : Nat := (i % (2 ^ w : Nat)).toNat

/-- The lanewise arithmetic of R120 on a, b and the destination lane d: 0 add, 1 sub, 2 mul, 3 fma, 4 fms, 5 min, 6 max,
7 abs, 8 neg. Integers wrap and raise no flag (R121); floating results are rounded once (R122). -/
def vArith (op t : Nat) (a b d : Nat) : Nat × FpFlags :=
  let w := laneBits t
  if t ≤ 5 then
    let sg := decide (t ≤ 2)
    let le := if sg then decide (signedOf w a ≤ signedOf w b) else decide (a ≤ b)
    (match op with
      | 0 => (a + b) % 2 ^ w
      | 1 => wrapInt w ((a : Int) - b)
      | 2 => (a * b) % 2 ^ w
      | 3 => (a * b + d) % 2 ^ w
      | 4 => wrapInt w ((d : Int) - a * b)
      | 5 => if le then a else b
      | 6 => if le then b else a
      | 7 => if sg then wrapInt w ((signedOf w a).natAbs : Int) else a
      | _ => wrapInt w (-(a : Int)), 0)
  else
    let f := floatFmtOf t
    match op with
    | 0 => fAdd f a b
    | 1 => fSub f a b
    | 2 => fMul f a b
    | 3 => fFma f a b d
    | 4 => fFms f a b d
    | 5 => fMinMax f false a b
    | 6 => fMinMax f true a b
    | 7 => (fAbsBits f a, 0)
    | _ => (fNegBits f a, 0)

/-- The latency of an integer or a floating lane operation (R37). -/
def vLat (t : Nat) : Nat := if t ≤ 5 then 2 else 4

/-- A lanewise instruction of format V3 under its mask (R116, R117); a mask is a predicate whose poison is consumed. -/
def arithAct (op : Nat) (g : BitVec 4) (d a b : BitVec 5) (q : BitVec 3) (t : BitVec 4) (srcs : List Src) : Act :=
  { guard := g
    uses := [.vq q.toNat]
    perform := fun _ s0 s =>
      let x := s0.ctx
      let m := x.rvq q.toNat
      let r := laneOp3 t.toNat m (vArith op t.toNat) (x.rv a.toNat) (x.rv b.toNat) (x.rv d.toNat)
      s.emit (vLat t.toNat) [laneWrite d.toNat t.toNat m r.1] r.2 (s0.anyPoisoned srcs) }

/-- Logic and shifts (R123): 0 and, 1 or, 2 xor, 3 andn, 4 shl, 5 shr, 6 sra. -/
def vLogic (op t : Nat) (a b : Nat) : Nat × FpFlags :=
  let w := laneBits t
  let k := b % w
  (match op with
    | 0 => Nat.land a b
    | 1 => Nat.lor a b
    | 2 => Nat.xor a b
    | 3 => Nat.land a (2 ^ w - 1 - b)
    | 4 => (a * 2 ^ k) % 2 ^ w
    | 5 => a / 2 ^ k
    | _ => wrapInt w (Int.fdiv (signedOf w a) (2 ^ k : Nat)), 0)

/-- A logic instruction. -/
def logicAct (op : Nat) (g : BitVec 4) (d a b : BitVec 5) (q : BitVec 3) (t : BitVec 4) : Act :=
  { guard := g
    uses := [.vq q.toNat]
    perform := fun _ s0 s =>
      let x := s0.ctx
      let m := x.rvq q.toNat
      let r := laneOp2 t.toNat m (vLogic op t.toNat) (x.rv a.toNat) (x.rv b.toNat)
      s.emit 2 [laneWrite d.toNat t.toNat m r.1] 0 (s0.anyPoisoned [.v a.toNat, .v b.toNat]) }

/-- The condition of a lane (R124): integers by the code alone, floats by R56. -/
def laneCond (t cc a b : Nat) : Bool × FpFlags :=
  if t ≤ 5 then (intCond (laneBits t) cc a b, 0) else fCmp (floatFmtOf t) cc a b

/-- The conditions of all lanes, with the flags of the active ones. -/
def laneConds (t cc : Nat) (m : BitVec 64) (a b : VReg) : List Bool × FpFlags :=
  let r := (List.range (typeLanes t)).map (fun i =>
    if laneActive t m i then laneCond t cc (vLane a (typeBytes t) i) (vLane b (typeBytes t) i) else (false, 0))
  (r.map Prod.fst, r.foldl (fun acc x => acc ||| x.2) 0)

/-- A 64-bit number from its bits. -/
def bitsOf (f : Nat → Bool) : BitVec 64 :=
  BitVec.ofNat 64 ((List.range 64).foldl (fun acc i => acc + (if f i then 2 ^ i else 0)) 0)

/-- Bit j of the condition register (R124): the condition holds in every lane of 32-bit lane j; for f64 both bits of a
lane take its result. -/
def condBit (t : Nat) (cs : List Bool) (j : Nat) : Bool :=
  if t = 9 then cs.getD (j / 2) false
  else let n := 4 / typeBytes t; (List.range n).all (fun i => cs.getD (j * n + i) false)

/-- Bit j of 32-bit lane j is active (R124). -/
def condActive (t : Nat) (m : BitVec 64) (j : Nat) : Bool := if t = 9 then m.getLsbD (j / 2 * 2) else m.getLsbD j

/-- Widen a lane to the reduction format (R127): INT32 by extension, FP32, or FP64. -/
def redWiden (t a : Nat) : Nat × FpFlags :=
  if t ≤ 2 then (wrapInt 32 (signedOf (laneBits t) a), 0)
  else if t ≤ 5 then (a, 0)
  else if t ≤ 7 then fp32.round ((floatFmtOf t).unpack a)
  else (a, 0)

/-- The identity of an inactive lane (R127): 0 sum, 1 maximum, 2 minimum. -/
def redIdentity (op t : Nat) : Nat :=
  let f := if t = 9 then fp64 else fp32
  match op with
  | 0 => if t ≤ 5 then 0 else f.zero true
  | 1 => if t ≤ 2 then 0x80000000 else if t ≤ 5 then 0 else f.inf true
  | _ => if t ≤ 2 then 0x7FFFFFFF else if t ≤ 5 then 0xFFFFFFFF else f.inf false

/-- One node of the reduction tree (R127). -/
def redNode (op t a b : Nat) : Nat × FpFlags :=
  let f := if t = 9 then fp64 else fp32
  match op with
  | 0 => if t ≤ 5 then ((a + b) % 2 ^ 32, 0) else fAdd f a b
  | 1 => if t ≤ 2 then (if signedOf 32 a ≤ signedOf 32 b then b else a, 0)
         else if t ≤ 5 then (max a b, 0) else fMinMax f true a b
  | _ => if t ≤ 2 then (if signedOf 32 a ≤ signedOf 32 b then a else b, 0)
         else if t ≤ 5 then (min a b, 0) else fMinMax f false a b

/-- One level of the tree: neighbours are combined (R127). -/
def redLevel (f : Nat → Nat → Nat × FpFlags) : List Nat → List Nat × FpFlags
  | a :: b :: rest =>
    let r := f a b
    let q := redLevel f rest
    (r.1 :: q.1, r.2 ||| q.2)
  | l => (l, 0)

/-- The fixed tree of a reduction (R127). -/
def redTree (f : Nat → Nat → Nat × FpFlags) : Nat → List Nat → FpFlags → Nat × FpFlags
  | 0, l, fl => (l.headD 0, fl)
  | k + 1, l, fl =>
    match l with
    | _ :: _ :: _ => let r := redLevel f l; redTree f k r.1 (fl ||| r.2)
    | _ => (l.headD 0, fl)

/-- Reduce a register under a mask (R127). -/
def reduce (op t : Nat) (m : BitVec 64) (a : VReg) : Nat × FpFlags :=
  let z := (List.range (typeLanes t)).map (fun i =>
    if laneActive t m i then redWiden t (vLane a (typeBytes t) i) else (redIdentity op t, 0))
  redTree (redNode op t) 8 (z.map Prod.fst) (z.foldl (fun acc x => acc ||| x.2) 0)

/-- A reduction: the result in the lowest lanes, and 0 in the others (R127); nothing is written where no lane is active (R116;
DEDUCED, Log 14). -/
def reduceAct (op : Nat) (g : BitVec 4) (d a : BitVec 5) (q : BitVec 3) (t : BitVec 4) : Act :=
  { guard := g
    uses := [.vq q.toNat]
    perform := fun _ s0 s =>
      let r := reduce op t.toNat (s0.ctx.rvq q.toNat) (s0.ctx.rv a.toNat)
      if !anyLane t.toNat (s0.ctx.rvq q.toNat) then s
      else s.emit 8 [.v d.toNat (BitVec.ofNat 2048 r.1) vAll] r.2 (s0.anyPoisoned [.v a.toNat]) }

/-- One 32-bit lane of a dot product (R128): the accumulator word, and the operand lanes of the type. -/
def dotLane (t acc : Nat) (as bs : List Nat) : Nat × FpFlags :=
  if t ≤ 5 then
    let val := fun (v : Nat) => if t ≤ 2 then signedOf (laneBits t) v else (v : Int)
    (wrapInt 32 ((acc : Int) + ((as.zip bs).map (fun p => val p.1 * val p.2)).sum), 0)
  else
    let f := floatFmtOf t
    let r := (as.zip bs).foldl (fun (st : XNum × FpFlags) p =>
      let m := (f.unpack p.1).mul (f.unpack p.2)
      let s := st.1.add m.1
      (s.1, st.2 ||| m.2 ||| s.2)) (fp32.unpack acc, 0)
    let q := fp32.round r.1
    (q.1, r.2 ||| q.2)

/-- VDOT over the 32-bit lanes (R128). -/
def vdot (t : Nat) (m : BitVec 64) (a b d : VReg) : List Nat × FpFlags :=
  let n := 4 / typeBytes t
  let r := (List.range 64).map (fun j =>
    if m.getLsbD j then
      dotLane t (vLane d 4 j) ((List.range n).map (fun i => vLane a (typeBytes t) (j * n + i)))
        ((List.range n).map (fun i => vLane b (typeBytes t) (j * n + i)))
    else (0, 0))
  (r.map Prod.fst, r.foldl (fun acc x => acc ||| x.2) 0)

/-- An FMT register that an nf8 side names holds a valid format (R60). -/
def checkFmt (used : Bool) (f : BitVec 3) (s : State) : Option (Cause × DWord) :=
  if used && !(nf8Fmt (s.ctx.rfmt f.toNat)).valid then some (.illegal, 0) else none

/-- Convert a value between types (R129): an integer beyond the range of an integer type saturates with NV. -/
def convertLane (dt st : Nat) (f : Nf8Fmt) (v : Nat) : Nat × FpFlags := convertTo dt f (unpackElem st f v)

/-- VCVT over all lanes (R129). -/
def vcvt (dt st : Nat) (f : Nf8Fmt) (a : VReg) : List Nat × FpFlags :=
  let n := min (typeLanes dt) (typeLanes st)
  let r := (List.range (typeLanes dt)).map (fun i =>
    if i < n then convertLane dt st f (vLane a (typeBytes st) i) else (0, 0))
  (r.map Prod.fst, r.foldl (fun acc x => acc ||| x.2) 0)

/-- The mode of VRND (R130). -/
def roundMode (m : Nat) : RMode :=
  match m with
  | 0 => .rne
  | 1 => .taz
  | 2 => .rz
  | 3 => .rp
  | _ => .rm

/-- A one-operand floating instruction under its mask. -/
def unaryAct (lat : Nat) (f : Nat → Nat × FpFlags) (g : BitVec 4) (d a : BitVec 5) (q : BitVec 3) (t : BitVec 4) : Act :=
  { guard := g
    uses := [.vq q.toNat]
    perform := fun _ s0 s =>
      let m := s0.ctx.rvq q.toNat
      let r := laneOp2 t.toNat m (fun v _ => f v) (s0.ctx.rv a.toNat) 0
      s.emit lat [laneWrite d.toNat t.toNat m r.1] r.2 (s0.anyPoisoned [.v a.toNat]) }

/-- A move that computes each active lane from the state at issue, with no flag. -/
def moveAct (lat : Nat) (g : BitVec 4) (d : BitVec 5) (m : Ctx → BitVec 64) (mask : List Src) (t : BitVec 4)
    (srcs : List Src) (f : Ctx → Nat → Nat) : Act :=
  { guard := g
    uses := mask
    perform := fun _ s0 s =>
      let lanes := (List.range (typeLanes t.toNat)).map (fun i => if laneActive t.toNat (m s0.ctx) i then f s0.ctx i else 0)
      s.emit lat [laneWrite d.toNat t.toNat (m s0.ctx) lanes] 0 (s0.anyPoisoned srcs) }

/-- Source lane of VSHUF (R126): register (false for va) and lane. -/
def shufLane (pat n i : Nat) : Bool × Nat :=
  let m := n / 2
  match pat with
  | 0 => (decide (i % 2 = 1), i / 2)
  | 1 => (decide (i % 2 = 1), m + i / 2)
  | 2 => (decide (m ≤ i), 2 * (i % m))
  | _ => (decide (m ≤ i), 2 * (i % m) + 1)

/-- Extend a lane to a scalar: by sign for s types, by zeros for z types (R126). -/
def extendLane (t v : Nat) : Word := if t ≤ 2 then BitVec.ofInt 32 (signedOf (laneBits t) v) else BitVec.ofNat 32 v

/-- A mask of one lane. -/
def oneLane (t i : Nat) : VReg := BitVec.ofNat 2048 ((2 ^ laneBits t - 1) * 2 ^ (laneBits t * i))

/-- Some active lane differs (R143). -/
def lanesDiffer (t : Nat) (m : BitVec 64) (a b : VReg) : Bool :=
  decide ((a &&& laneMask t m) ≠ (b &&& laneMask t m))

/-- VADD (R120 to R122). -/
def actVadd (g : BitVec 4) (d a b : BitVec 5) (q : BitVec 3) (t : BitVec 4) : Act :=
  arithAct 0 g d a b q t [.v a.toNat, .v b.toNat]

/-- VADD (R120), alone in its bundle. -/
def execVadd (g : BitVec 4) (d a b : BitVec 5) (q : BitVec 3) (t : BitVec 4) (s : State) : Out := runAlone (.vadd g d a b q t) (actVadd g d a b q t) s

/-- VSUB (R120 to R122). -/
def actVsub (g : BitVec 4) (d a b : BitVec 5) (q : BitVec 3) (t : BitVec 4) : Act :=
  arithAct 1 g d a b q t [.v a.toNat, .v b.toNat]

/-- VSUB (R120), alone in its bundle. -/
def execVsub (g : BitVec 4) (d a b : BitVec 5) (q : BitVec 3) (t : BitVec 4) (s : State) : Out := runAlone (.vsub g d a b q t) (actVsub g d a b q t) s

/-- VMUL (R120 to R122). -/
def actVmul (g : BitVec 4) (d a b : BitVec 5) (q : BitVec 3) (t : BitVec 4) : Act :=
  arithAct 2 g d a b q t [.v a.toNat, .v b.toNat]

/-- VMUL (R120), alone in its bundle. -/
def execVmul (g : BitVec 4) (d a b : BitVec 5) (q : BitVec 3) (t : BitVec 4) (s : State) : Out := runAlone (.vmul g d a b q t) (actVmul g d a b q t) s

/-- VFMA (R120 to R122). -/
def actVfma (g : BitVec 4) (d a b : BitVec 5) (q : BitVec 3) (t : BitVec 4) : Act :=
  arithAct 3 g d a b q t [.v a.toNat, .v b.toNat, .v d.toNat]

/-- VFMA (R120), alone in its bundle. -/
def execVfma (g : BitVec 4) (d a b : BitVec 5) (q : BitVec 3) (t : BitVec 4) (s : State) : Out := runAlone (.vfma g d a b q t) (actVfma g d a b q t) s

/-- VFMS (R120 to R122). -/
def actVfms (g : BitVec 4) (d a b : BitVec 5) (q : BitVec 3) (t : BitVec 4) : Act :=
  arithAct 4 g d a b q t [.v a.toNat, .v b.toNat, .v d.toNat]

/-- VFMS (R120), alone in its bundle. -/
def execVfms (g : BitVec 4) (d a b : BitVec 5) (q : BitVec 3) (t : BitVec 4) (s : State) : Out := runAlone (.vfms g d a b q t) (actVfms g d a b q t) s

/-- VMIN (R120 to R122). -/
def actVmin (g : BitVec 4) (d a b : BitVec 5) (q : BitVec 3) (t : BitVec 4) : Act :=
  arithAct 5 g d a b q t [.v a.toNat, .v b.toNat]

/-- VMIN (R120), alone in its bundle. -/
def execVmin (g : BitVec 4) (d a b : BitVec 5) (q : BitVec 3) (t : BitVec 4) (s : State) : Out := runAlone (.vmin g d a b q t) (actVmin g d a b q t) s

/-- VMAX (R120 to R122). -/
def actVmax (g : BitVec 4) (d a b : BitVec 5) (q : BitVec 3) (t : BitVec 4) : Act :=
  arithAct 6 g d a b q t [.v a.toNat, .v b.toNat]

/-- VMAX (R120), alone in its bundle. -/
def execVmax (g : BitVec 4) (d a b : BitVec 5) (q : BitVec 3) (t : BitVec 4) (s : State) : Out := runAlone (.vmax g d a b q t) (actVmax g d a b q t) s

/-- VABS: on F types only the sign bit changes (R120 to R122). -/
def actVabs (g : BitVec 4) (d a : BitVec 5) (q : BitVec 3) (t : BitVec 4) : Act :=
  arithAct 7 g d a a q t [.v a.toNat]

/-- VABS (R120), alone in its bundle. -/
def execVabs (g : BitVec 4) (d a : BitVec 5) (q : BitVec 3) (t : BitVec 4) (s : State) : Out := runAlone (.vabs g d a q t) (actVabs g d a q t) s

/-- VNEG: on F types only the sign bit changes (R120 to R122). -/
def actVneg (g : BitVec 4) (d a : BitVec 5) (q : BitVec 3) (t : BitVec 4) : Act :=
  arithAct 8 g d a a q t [.v a.toNat]

/-- VNEG (R120), alone in its bundle. -/
def execVneg (g : BitVec 4) (d a : BitVec 5) (q : BitVec 3) (t : BitVec 4) (s : State) : Out := runAlone (.vneg g d a q t) (actVneg g d a q t) s

/-- VAND (R123). -/
def actVand (g : BitVec 4) (d a b : BitVec 5) (q : BitVec 3) (t : BitVec 4) : Act :=
  logicAct 0 g d a b q t

/-- VAND (R123), alone in its bundle. -/
def execVand (g : BitVec 4) (d a b : BitVec 5) (q : BitVec 3) (t : BitVec 4) (s : State) : Out := runAlone (.vand g d a b q t) (actVand g d a b q t) s

/-- VOR (R123). -/
def actVor (g : BitVec 4) (d a b : BitVec 5) (q : BitVec 3) (t : BitVec 4) : Act :=
  logicAct 1 g d a b q t

/-- VOR (R123), alone in its bundle. -/
def execVor (g : BitVec 4) (d a b : BitVec 5) (q : BitVec 3) (t : BitVec 4) (s : State) : Out := runAlone (.vor g d a b q t) (actVor g d a b q t) s

/-- VXOR (R123). -/
def actVxor (g : BitVec 4) (d a b : BitVec 5) (q : BitVec 3) (t : BitVec 4) : Act :=
  logicAct 2 g d a b q t

/-- VXOR (R123), alone in its bundle. -/
def execVxor (g : BitVec 4) (d a b : BitVec 5) (q : BitVec 3) (t : BitVec 4) (s : State) : Out := runAlone (.vxor g d a b q t) (actVxor g d a b q t) s

/-- VANDN (R123). -/
def actVandn (g : BitVec 4) (d a b : BitVec 5) (q : BitVec 3) (t : BitVec 4) : Act :=
  logicAct 3 g d a b q t

/-- VANDN (R123), alone in its bundle. -/
def execVandn (g : BitVec 4) (d a b : BitVec 5) (q : BitVec 3) (t : BitVec 4) (s : State) : Out := runAlone (.vandn g d a b q t) (actVandn g d a b q t) s

/-- VSHL (R123). -/
def actVshl (g : BitVec 4) (d a b : BitVec 5) (q : BitVec 3) (t : BitVec 4) : Act :=
  logicAct 4 g d a b q t

/-- VSHL (R123), alone in its bundle. -/
def execVshl (g : BitVec 4) (d a b : BitVec 5) (q : BitVec 3) (t : BitVec 4) (s : State) : Out := runAlone (.vshl g d a b q t) (actVshl g d a b q t) s

/-- VSHR (R123). -/
def actVshr (g : BitVec 4) (d a b : BitVec 5) (q : BitVec 3) (t : BitVec 4) : Act :=
  logicAct 5 g d a b q t

/-- VSHR (R123), alone in its bundle. -/
def execVshr (g : BitVec 4) (d a b : BitVec 5) (q : BitVec 3) (t : BitVec 4) (s : State) : Out := runAlone (.vshr g d a b q t) (actVshr g d a b q t) s

/-- VSRA (R123). -/
def actVsra (g : BitVec 4) (d a b : BitVec 5) (q : BitVec 3) (t : BitVec 4) : Act :=
  logicAct 6 g d a b q t

/-- VSRA (R123), alone in its bundle. -/
def execVsra (g : BitVec 4) (d a b : BitVec 5) (q : BitVec 3) (t : BitVec 4) (s : State) : Out := runAlone (.vsra g d a b q t) (actVsra g d a b q t) s

/-- VCMP writes all bits of a mask pair; bits of inactive lanes are 0 in both (R124). Nothing is written where no lane is active (R116;
DEDUCED, Log 14). -/
def actVcmp (g : BitVec 4) (k : BitVec 2) (c : BitVec 3) (a b : BitVec 5) (q : BitVec 3) (t : BitVec 4) : Act :=
  { guard := g
    uses := [.vq q.toNat]
    perform := fun _ s0 s =>
      let m := s0.ctx.rvq q.toNat
      let r := laneConds t.toNat c.toNat m (s0.ctx.rv a.toNat) (s0.ctx.rv b.toNat)
      let yes := fun j => condActive t.toNat m j && condBit t.toNat r.1 j
      let no := fun j => condActive t.toNat m j && !condBit t.toNat r.1 j
      if !anyLane t.toNat m then s
      else s.emit (vLat t.toNat) [.vq (2 * k.toNat) (bitsOf yes), .vq (2 * k.toNat + 1) (bitsOf no)] r.2
        (s0.anyPoisoned [.v a.toNat, .v b.toNat]) }

/-- VCMP (R124), alone in its bundle. -/
def execVcmp (g : BitVec 4) (k : BitVec 2) (c : BitVec 3) (a b : BitVec 5) (q : BitVec 3) (t : BitVec 4) (s : State) : Out := runAlone (.vcmp g k c a b q t) (actVcmp g k c a b q t) s

/-- VSEL selects each lane by the bit of the selector, in all lanes (R125). -/
def actVsel (g : BitVec 4) (d a b : BitVec 5) (q : BitVec 3) (t : BitVec 4) : Act :=
  { guard := g
    uses := [.vq q.toNat]
    perform := fun _ s0 s =>
      let x := s0.ctx
      let pick := laneMask t.toNat (x.rvq q.toNat)
      s.emit (vLat t.toNat) [.v d.toNat ((x.rv a.toNat &&& pick) ||| (x.rv b.toNat &&& ~~~pick)) vAll] 0
        (s0.anyPoisoned [.v a.toNat, .v b.toNat]) }

/-- VSEL (R125), alone in its bundle. -/
def execVsel (g : BitVec 4) (d a b : BitVec 5) (q : BitVec 3) (t : BitVec 4) (s : State) : Out := runAlone (.vsel g d a b q t) (actVsel g d a b q t) s

/-- VMOV (R126). -/
def actVmov (g : BitVec 4) (d a : BitVec 5) (q : BitVec 3) (t : BitVec 4) : Act :=
  moveAct (vLat t.toNat) g d (fun x => x.rvq q.toNat) [.vq q.toNat] t [.v a.toNat]
    (fun x i => vLane (x.rv a.toNat) (typeBytes t.toNat) i)

/-- VMOV (R126), alone in its bundle. -/
def execVmov (g : BitVec 4) (d a : BitVec 5) (q : BitVec 3) (t : BitVec 4) (s : State) : Out := runAlone (.vmov g d a q t) (actVmov g d a q t) s

/-- VBCAST: the low bits of sa to every active lane (R126). -/
def actVbcast (g : BitVec 4) (d u : BitVec 5) (q : BitVec 3) (t : BitVec 4) : Act :=
  moveAct 2 g d (fun x => x.rvq q.toNat) [.vq q.toNat] t [.s u]
    (fun x _ => (x.rs u).toNat % 2 ^ laneBits t.toNat)

/-- VBCAST (R126), alone in its bundle. -/
def execVbcast (g : BitVec 4) (d u : BitVec 5) (q : BitVec 3) (t : BitVec 4) (s : State) : Out := runAlone (.vbcast g d u q t) (actVbcast g d u q t) s

/-- VEXT: one lane of va to an s register (R126). -/
def actVext (g : BitVec 4) (d a b : BitVec 5) (t : BitVec 4) : Act :=
  { guard := g
    perform := fun _ s0 s =>
      let x := s0.ctx
      s.emit 2 [.s d.toNat (extendLane t.toNat
        (vLane (x.rv a.toNat) (typeBytes t.toNat) ((x.rs b).toNat % typeLanes t.toNat)))] 0
        (s0.anyPoisoned [.v a.toNat, .s b]) }

/-- VEXT (R126), alone in its bundle. -/
def execVext (g : BitVec 4) (d a b : BitVec 5) (t : BitVec 4) (s : State) : Out := runAlone (.vext g d a b t) (actVext g d a b t) s

/-- VINS: one lane of vd from an s register; the others keep their values (R126). -/
def actVins (g : BitVec 4) (d a b : BitVec 5) (t : BitVec 4) : Act :=
  { guard := g
    perform := fun _ s0 s =>
      let x := s0.ctx
      let i := (x.rs b).toNat % typeLanes t.toNat
      s.emit 2 [.v d.toNat (BitVec.ofNat 2048 ((x.rs a).toNat % 2 ^ laneBits t.toNat * 2 ^ (laneBits t.toNat * i)))
        (oneLane t.toNat i)] 0 (s0.anyPoisoned [.s a, .s b]) }

/-- VINS (R126), alone in its bundle. -/
def execVins (g : BitVec 4) (d a b : BitVec 5) (t : BitVec 4) (s : State) : Out := runAlone (.vins g d a b t) (actVins g d a b t) s

/-- VPERM: lane i from the lane its index names (R126). -/
def actVperm (g : BitVec 4) (d a b : BitVec 5) (q : BitVec 3) (t : BitVec 4) : Act :=
  moveAct 2 g d (fun x => x.rvq q.toNat) [.vq q.toNat] t [.v a.toNat, .v b.toNat]
    (fun x i => vLane (x.rv a.toNat) (typeBytes t.toNat) (vLane (x.rv b.toNat) (typeBytes t.toNat) i % typeLanes t.toNat))

/-- VPERM (R126), alone in its bundle. -/
def execVperm (g : BitVec 4) (d a b : BitVec 5) (q : BitVec 3) (t : BitVec 4) (s : State) : Out := runAlone (.vperm g d a b q t) (actVperm g d a b q t) s

/-- VSHUF: zips and unzips two registers, in all lanes (R126). -/
def actVshuf (g : BitVec 4) (d a b : BitVec 5) (p : BitVec 3) (t : BitVec 4) : Act :=
  moveAct 2 g d (fun _ => BitVec.allOnes 64) [] t [.v a.toNat, .v b.toNat]
    (fun x i =>
      let l := shufLane p.toNat (typeLanes t.toNat) i
      vLane (x.rv (if l.1 then b.toNat else a.toNat)) (typeBytes t.toNat) l.2)

/-- VSHUF (R126), alone in its bundle. -/
def execVshuf (g : BitVec 4) (d a b : BitVec 5) (p : BitVec 3) (t : BitVec 4) (s : State) : Out := runAlone (.vshuf g d a b p t) (actVshuf g d a b p t) s

/-- VROT: lane (i + k) mod n from lane i (R126). -/
def actVrot (g : BitVec 4) (d a b : BitVec 5) (q : BitVec 3) (t : BitVec 4) : Act :=
  moveAct 2 g d (fun x => x.rvq q.toNat) [.vq q.toNat] t [.v a.toNat, .s b]
    (fun x i =>
      let n := typeLanes t.toNat
      vLane (x.rv a.toNat) (typeBytes t.toNat) ((i + n - (x.rs b).toNat % n) % n))

/-- VROT (R126), alone in its bundle. -/
def execVrot (g : BitVec 4) (d a b : BitVec 5) (q : BitVec 3) (t : BitVec 4) (s : State) : Out := runAlone (.vrot g d a b q t) (actVrot g d a b q t) s

/-- VREDS (R127). -/
def actVreds (g : BitVec 4) (d a : BitVec 5) (q : BitVec 3) (t : BitVec 4) : Act :=
  reduceAct 0 g d a q t

/-- VREDS (R127), alone in its bundle. -/
def execVreds (g : BitVec 4) (d a : BitVec 5) (q : BitVec 3) (t : BitVec 4) (s : State) : Out := runAlone (.vreds g d a q t) (actVreds g d a q t) s

/-- VREDM.max (R127). -/
def actVredmMax (g : BitVec 4) (d a : BitVec 5) (q : BitVec 3) (t : BitVec 4) : Act :=
  reduceAct 1 g d a q t

/-- VREDM_MAX (R127), alone in its bundle. -/
def execVredmMax (g : BitVec 4) (d a : BitVec 5) (q : BitVec 3) (t : BitVec 4) (s : State) : Out := runAlone (.vredmMax g d a q t) (actVredmMax g d a q t) s

/-- VREDM.min (R127). -/
def actVredmMin (g : BitVec 4) (d a : BitVec 5) (q : BitVec 3) (t : BitVec 4) : Act :=
  reduceAct 2 g d a q t

/-- VREDM_MIN (R127), alone in its bundle. -/
def execVredmMin (g : BitVec 4) (d a : BitVec 5) (q : BitVec 3) (t : BitVec 4) (s : State) : Out := runAlone (.vredmMin g d a q t) (actVredmMin g d a q t) s

/-- VDOT accumulates products into the 32-bit lanes of vd (R128). -/
def actVdot (g : BitVec 4) (d a b : BitVec 5) (q : BitVec 3) (t : BitVec 4) : Act :=
  { guard := g
    uses := [.vq q.toNat]
    perform := fun _ s0 s =>
      let x := s0.ctx
      let m := x.rvq q.toNat
      let r := vdot t.toNat m (x.rv a.toNat) (x.rv b.toNat) (x.rv d.toNat)
      s.emit 8 [laneWrite d.toNat 2 m r.1] r.2 (s0.anyPoisoned [.v a.toNat, .v b.toNat, .v d.toNat]) }

/-- VDOT (R128), alone in its bundle. -/
def execVdot (g : BitVec 4) (d a b : BitVec 5) (q : BitVec 3) (t : BitVec 4) (s : State) : Out := runAlone (.vdot g d a b q t) (actVdot g d a b q t) s

/-- VCVT converts lanes, in all lanes (R129). -/
def actVcvt (g : BitVec 4) (d a : BitVec 5) (x y : BitVec 4) (f : BitVec 3) : Act :=
  { guard := g
    check := checkFmt (decide (x = 10 ∨ y = 10)) f
    perform := fun _ s0 s =>
      let r := vcvt x.toNat y.toNat (nf8Fmt (s0.ctx.rfmt f.toNat)) (s0.ctx.rv a.toNat)
      s.emit 3 [fullWrite d.toNat x.toNat r.1] r.2 (s0.anyPoisoned [.v a.toNat]) }

/-- VCVT (R129), alone in its bundle. -/
def execVcvt (g : BitVec 4) (d a : BitVec 5) (x y : BitVec 4) (f : BitVec 3) (s : State) : Out := runAlone (.vcvt g d a x y f) (actVcvt g d a x y f) s

/-- VRND (R130). -/
def actVrnd (g : BitVec 4) (d a m : BitVec 5) (q : BitVec 3) (t : BitVec 4) : Act :=
  unaryAct 3 (fRound (floatFmtOf t.toNat) (roundMode m.toNat)) g d a q t

/-- VRND (R130), alone in its bundle. -/
def execVrnd (g : BitVec 4) (d a m : BitVec 5) (q : BitVec 3) (t : BitVec 4) (s : State) : Out := runAlone (.vrnd g d a m q t) (actVrnd g d a m q t) s

/-- VEXP2 (R131, R57). -/
def actVexp2 (g : BitVec 4) (d a : BitVec 5) (q : BitVec 3) (t : BitVec 4) : Act :=
  unaryAct 10 fExp2 g d a q t

/-- VEXP2 (R131), alone in its bundle. -/
def execVexp2 (g : BitVec 4) (d a : BitVec 5) (q : BitVec 3) (t : BitVec 4) (s : State) : Out := runAlone (.vexp2 g d a q t) (actVexp2 g d a q t) s

/-- VLOG2 (R131, R57). -/
def actVlog2 (g : BitVec 4) (d a : BitVec 5) (q : BitVec 3) (t : BitVec 4) : Act :=
  unaryAct 10 fLog2 g d a q t

/-- VLOG2 (R131), alone in its bundle. -/
def execVlog2 (g : BitVec 4) (d a : BitVec 5) (q : BitVec 3) (t : BitVec 4) (s : State) : Out := runAlone (.vlog2 g d a q t) (actVlog2 g d a q t) s

/-- VRCP (R131, R57). -/
def actVrcp (g : BitVec 4) (d a : BitVec 5) (q : BitVec 3) (t : BitVec 4) : Act :=
  unaryAct 10 fRcp g d a q t

/-- VRCP (R131), alone in its bundle. -/
def execVrcp (g : BitVec 4) (d a : BitVec 5) (q : BitVec 3) (t : BitVec 4) (s : State) : Out := runAlone (.vrcp g d a q t) (actVrcp g d a q t) s

/-- VRSQ (R131, R57). -/
def actVrsq (g : BitVec 4) (d a : BitVec 5) (q : BitVec 3) (t : BitVec 4) : Act :=
  unaryAct 10 fRsq g d a q t

/-- VRSQ (R131), alone in its bundle. -/
def execVrsq (g : BitVec 4) (d a : BitVec 5) (q : BitVec 3) (t : BitVec 4) (s : State) : Out := runAlone (.vrsq g d a q t) (actVrsq g d a q t) s

/-- VDCHK: a mismatch in an active lane traps precisely (R143). -/
def actVdchk (g : BitVec 4) (a b : BitVec 5) (q : BitVec 3) (t : BitVec 4) : Act :=
  { guard := g
    uses := [.v a.toNat, .v b.toNat, .vq q.toNat]
    check := fun s => if lanesDiffer t.toNat (s.ctx.rvq q.toNat) (s.ctx.rv a.toNat) (s.ctx.rv b.toNat)
      then some (.dchk, 0) else none
    perform := fun _ _ s => s }

/-- VDCHK (R143), alone in its bundle. -/
def execVdchk (g : BitVec 4) (a b : BitVec 5) (q : BitVec 3) (t : BitVec 4) (s : State) : Out := runAlone (.vdchk g a b q t) (actVdchk g a b q t) s

/-- VIOP: the scalar form of IOP (R144). -/
def actViop (g : BitVec 4) (d a b : BitVec 5) (f : BitVec 7) : Act :=
  iopAct g d a b f.toNat

/-- VIOP (R144), alone in its bundle. -/
def execViop (g : BitVec 4) (d a b : BitVec 5) (f : BitVec 7) (s : State) : Out := runAlone (.viop g d a b f) (actViop g d a b f) s

/-- VFOP: the scalar form of FOP (R144). -/
def actVfop (g : BitVec 4) (d a b : BitVec 5) (f : BitVec 7) : Act :=
  fopAct g d a (if f = 8 then 0 else b) f.toNat b.toNat

/-- VFOP (R144), alone in its bundle. -/
def execVfop (g : BitVec 4) (d a b : BitVec 5) (f : BitVec 7) (s : State) : Out := runAlone (.vfop g d a b f) (actVfop g d a b f) s


end Sys2Proof.Machine
end

