-- ==== Sys2Proof/Machine/Lattice.lean ====
section
/-! DEFINITION. The vector slots' lattice instructions, tile registers and accumulator rows (R132 to R142). -/
namespace Sys2Proof.Machine
open Sys2Proof

/-- The type of the ordinary side of a lattice instruction (R132). -/
def ordinaryType (x : BitVec 2) : Nat := if x = 0 then 8 else if x = 1 then 6 else 7

/-- The lanes of the ordinary side in a register of a group (R133). -/
def groupLanes (x : BitVec 2) : Nat := if x = 0 then 64 else 128

/-- The bits of the scale of word `w` in a scale register (R132). -/
def scaleBits (v : VReg) (lf : Word) (w : Nat) : Nat := vLane v 2 (w / lfmtGroup lf)

/-- The scale of word `w` from a scale register (R132). -/
def scaleOf (v : VReg) (lf : Word) (w : Nat) : XNum := fp16.unpack (scaleBits v lf w)

/-- Value `k` of a source group at register `a` (R133). -/
def groupValue (x : Ctx) (f : BitVec 2) (a k : Nat) : XNum :=
  (floatFmtOf (ordinaryType f)).unpack
    (vLane (x.rv (a + k / groupLanes f)) (if f = 0 then 4 else 2) (k % groupLanes f))

/-- The value of 32-bit lane `w` in an ordinary format, a 16-bit one in its low half (R132). -/
def laneValue (f : BitVec 2) (v : VReg) (w : Nat) : XNum :=
  (floatFmtOf (ordinaryType f)).unpack (if f = 0 then vLane v 4 w else vLane v 4 w % 65536)

/-- The exact values of a LAT8 word under a scale, without flags (R65). -/
def latValues (w : Nat) (s : XNum) : List XNum := (latDoubled w).map (fun y => (latValue y s).1)

/-- The words that a quantising instruction computes for its active words, with flags and overflow bits (R132). -/
def quantise (m : BitVec 64) (f : Nat → LatResult) : List LatResult :=
  (List.range 64).map (fun w => if m.getLsbD w then f w else ⟨0, 0, false⟩)

/-- A quantising instruction (R132, R69): under FLAG it writes the overflow mask; under TRAP an overflow traps LSHELL. With
no active word nothing is written (R116; DEDUCED, Log 14). -/
def quantAct (g : BitVec 4) (d : BitVec 5) (q : BitVec 3) (l : BitVec 2) (srcs : Ctx → List Src)
    (f : Ctx → Word → Nat → LatResult) : Act :=
  { guard := g
    uses := [.vq q.toNat]
    check := fun s =>
      let lf := s.ctx.rlfmt l.toNat
      if !lfmtValid lf then some (.illegal, 0)
      else if lfmtMode lf = 2 ∧ (quantise (s.ctx.rvq q.toNat) (f s.ctx lf)).any LatResult.shell then some (.lshell, 0)
      else none
    perform := fun _ s0 s =>
      let x := s0.ctx
      let lf := x.rlfmt l.toNat
      let m := x.rvq q.toNat
      let r := quantise m (f x lf)
      let shelled := bitsOf (fun w => ((r.map LatResult.shell).getD w false))
      if !anyLane 2 m then s
      else s.emit 6 (laneWrite d.toNat 2 m (r.map LatResult.word) :: (if lfmtMode lf = 1 then [.vq (lfmtFq lf) shelled] else []))
        (r.foldl (fun acc k => acc ||| k.flags) 0) (s0.anyPoisoned (srcs x)) }

/-- The registers of a group. -/
def groupSrcs (a n : Nat) : List Src := (List.range n).map (fun i => .v (a + i))

/-- The LFMT register holds a valid value (R67). -/
def checkLfmt (l : BitVec 2) (s : State) : Option (Cause × DWord) :=
  if lfmtValid (s.ctx.rlfmt l.toNat) then none else some (.illegal, 0)

/-- One decoded element, rounded to the ordinary format (R70). -/
def decodeElem (f : BitVec 2) (w i : Nat) (s : XNum) : Nat × FpFlags :=
  let v := latValue ((latDoubled w).getD i 0) s
  let r := (floatFmtOf (ordinaryType f)).round v.1
  (r.1, v.2 ||| r.2)

/-- One register of a VDQL result group: its lanes, its mask and its flags (R134). -/
def dqlRegister (x : Ctx) (f : BitVec 2) (lf : Word) (m : BitVec 64) (a b j : Nat) : VReg × VReg × FpFlags :=
  let n := groupLanes f
  let by4 := if f = 0 then 4 else 2
  let r := (List.range n).map (fun i =>
    let w := (j * n + i) / 8
    if m.getLsbD w then decodeElem f (vLane (x.rv a) 4 w) ((j * n + i) % 8) (scaleOf (x.rv b) lf w) else (0, 0))
  (vOfLanes by4 (r.map Prod.fst),
   vOfLanes by4 ((List.range n).map (fun i => if m.getLsbD ((j * n + i) / 8) then 2 ^ (8 * by4) - 1 else 0)),
   r.foldl (fun acc k => acc ||| k.2) 0)

/-- The container of a tile register that a vector lane becomes (R138). -/
def tileIn (t : Nat) (f : Nf8Fmt) (v : Nat) : Nat × FpFlags :=
  if t ≤ 2 then (wrapInt 32 (signedOf (laneBits t) v), 0)
  else if t ≤ 5 then (v, 0)
  else if t = 8 then (v, 0)
  else fp32.round (unpackElem t f v)

/-- The vector lane that a container of a tile register becomes (R138). -/
def tileOut (t : Nat) (f : Nf8Fmt) (v : Nat) : Nat × FpFlags :=
  if t = 2 ∨ t = 5 ∨ t = 8 then (v, 0)
  else convertTo t f (if t ≤ 2 then .ofInt (signedOf 32 v) else if t ≤ 5 then .ofInt v else fp32.unpack v)

/-- VTRW and VTCW: a row or column of a tile register from 32 lanes (R138). -/
def tileWriteAct (column : Bool) (g : BitVec 4) (v : BitVec 5) (q : BitVec 2) (i : BitVec 5) (t : BitVec 4)
    (f : BitVec 3) : Act :=
  { guard := g
    check := checkFmt (decide (t = 10)) f
    perform := fun _ s0 s =>
      let fm := nf8Fmt (s0.ctx.rfmt f.toNat)
      let r := (List.range 32).map (fun j => tileIn t.toNat fm (vLane (s0.ctx.rv v.toNat) (typeBytes t.toNat) j))
      s.emit 3 [.q q.toNat i.toNat column (r.map (fun e => BitVec.ofNat 32 e.1))]
        (r.foldl (fun acc k => acc ||| k.2) 0) (s0.anyPoisoned [.v v.toNat]) }

/-- VTRR and VTCR: a row or column of a tile register into lanes 0 to 31; the lanes above are 0 (R138). -/
def tileReadAct (column : Bool) (g : BitVec 4) (v : BitVec 5) (q : BitVec 2) (i : BitVec 5) (t : BitVec 4)
    (f : BitVec 3) : Act :=
  { guard := g
    check := checkFmt (decide (t = 10)) f
    perform := fun _ s0 s =>
      let fm := nf8Fmt (s0.ctx.rfmt f.toNat)
      let r := (List.range 32).map (fun j =>
        tileOut t.toNat fm (if column then s0.ctx.rq q.toNat j i.toNat else s0.ctx.rq q.toNat i.toNat j).toNat)
      s.emit 3 [fullWrite v.toNat t.toNat (r.map Prod.fst)] (r.foldl (fun acc k => acc ||| k.2) 0)
        (s0.anyPoisoned [.q q.toNat]) }

/-- The physical tile of a relative one (R249). -/
def Ctx.phys (x : Ctx) (c : Nat) : Nat := x.tileBase + c

/-- A tile the context may read or write by rows (R139): allocated to it, and no odd tile of an FP64 pair. The spec gives
CX_TRAPINFO no address here (DESIGN CHOICE, Log 12); an odd tile counts as one of a pair by its own format, also where MZERO has
given the even tile another (DESIGN CHOICE, Log 54). -/
def checkTile (c : BitVec 6) (s : State) : Option (Cause × DWord) :=
  if s.ctx.tileCount ≤ c.toNat ∨ (c.toNat % 2 = 1 ∧ (s.me.tile (s.ctx.phys c.toNat)).fmt = .f64) then
    some (.prot, Config.freeInfo s.wall s.cur) else none

/-- A row of an accumulator tile, scaled and converted (R140). An integer 0 counts as +0, so it is -0 under a negative scale (DEDUCED,
Log 62). -/
def accRowOut (c : Core) (t row type : Nat) : List Nat × FpFlags :=
  let sc := fp32.unpack (c.tile t).scale.toNat
  let r := (List.range 64).map (fun j =>
    let v := (accValue (c.tile t).fmt (c.tileElem t row j)).mul sc
    let k := convertTo type (nf8Fmt 0) v.1
    (k.1, v.2 ||| k.2))
  (r.map Prod.fst, r.foldl (fun acc k => acc ||| k.2) 0)

/-- Some element of a row of a tile is poisoned (R392). -/
def rowPoison (c : Core) (t row : Nat) : Bool :=
  (List.range 64).any (fun j => (c.tile t).poison.get false (row * 64 + j)
    || ((c.tile t).fmt == .f64 && (c.tile (t + 1)).poison.get false (row * 64 + j)))

/-- VQNT quantises a group of 512 values (R133). -/
def actVqnt (g : BitVec 4) (d a b : BitVec 5) (q : BitVec 3) (l x : BitVec 2) : Act :=
  quantAct g d q l (fun _ => .v b.toNat :: groupSrcs a.toNat (groupSize x))
    (fun c lf w => nearest8 ((List.range 8).map (fun i => groupValue c x a.toNat (8 * w + i))) (scaleOf (c.rv b.toNat) lf w))

/-- VQNT (R133), alone in its bundle. -/
def execVqnt (g : BitVec 4) (d a b : BitVec 5) (q : BitVec 3) (l x : BitVec 2) (s : State) : Out := runAlone (.vqnt g d a b q l x) (actVqnt g d a b q l x) s

/-- VDQL decodes 64 words into a group (R134). -/
def actVdql (g : BitVec 4) (d a b : BitVec 5) (q : BitVec 3) (l x : BitVec 2) : Act :=
  { guard := g
    uses := [.vq q.toNat]
    check := checkLfmt l
    perform := fun _ s0 s =>
      let c := s0.ctx
      let r := (List.range (groupSize x)).map (fun j =>
        dqlRegister c x (c.rlfmt l.toNat) (c.rvq q.toNat) a.toNat b.toNat j)
      s.emit 3 (r.zipIdx.map (fun p => .v (d.toNat + p.2) p.1.1 p.1.2.1)) (r.foldl (fun acc k => acc ||| k.2.2) 0)
        (s0.anyPoisoned [.v a.toNat, .v b.toNat]) }

/-- VDQL (R134), alone in its bundle. -/
def execVdql (g : BitVec 4) (d a b : BitVec 5) (q : BitVec 3) (l x : BitVec 2) (s : State) : Out := runAlone (.vdql g d a b q l x) (actVdql g d a b q l x) s

/-- VLINS replaces one element of each active word and re-quantises it (R135). -/
def actVlins (g : BitVec 4) (d a b : BitVec 5) (q : BitVec 3) (l x : BitVec 2) : Act :=
  quantAct g d q l (fun _ => [.v d.toNat, .v a.toNat, .v (a.toNat + 1), .v b.toNat])
    (fun c lf w =>
      let s := scaleOf (c.rv b.toNat) lf w
      nearest8 ((latValues (vLane (c.rv d.toNat) 4 w) s).set (vLane (c.rv (a.toNat + 1)) 4 w % 8)
        (laneValue x (c.rv a.toNat) w)) s)

/-- VLINS (R135), alone in its bundle. -/
def execVlins (g : BitVec 4) (d a b : BitVec 5) (q : BitVec 3) (l x : BitVec 2) (s : State) : Out := runAlone (.vlins g d a b q l x) (actVlins g d a b q l x) s

/-- VLEXT extracts one element of each active word (R136). -/
def actVlext (g : BitVec 4) (d a b : BitVec 5) (q : BitVec 3) (l x : BitVec 2) : Act :=
  { guard := g
    uses := [.vq q.toNat]
    check := checkLfmt l
    perform := fun _ s0 s =>
      let c := s0.ctx
      let m := c.rvq q.toNat
      let r := (List.range 64).map (fun w =>
        if m.getLsbD w then
          decodeElem x (vLane (c.rv a.toNat) 4 w) (vLane (c.rv (b.toNat + 1)) 4 w % 8)
            (scaleOf (c.rv b.toNat) (c.rlfmt l.toNat) w)
        else (0, 0))
      s.emit 3 [laneWrite d.toNat 2 m (r.map Prod.fst)] (r.foldl (fun acc k => acc ||| k.2) 0)
        (s0.anyPoisoned [.v a.toNat, .v b.toNat, .v (b.toNat + 1)]) }

/-- VLEXT (R136), alone in its bundle. -/
def execVlext (g : BitVec 4) (d a b : BitVec 5) (q : BitVec 3) (l x : BitVec 2) (s : State) : Out := runAlone (.vlext g d a b q l x) (actVlext g d a b q l x) s

/-- VLNRM moves each active word to a new scale (R137). Where both scales have the same bits the word is returned unchanged, also for a
scale of zero, infinity or NaN; the flags are those of R132 in every case (DEDUCED, Log 62). -/
def actVlnrm (g : BitVec 4) (d a b : BitVec 5) (q : BitVec 3) (l : BitVec 2) : Act :=
  quantAct g d q l (fun _ => [.v a.toNat, .v b.toNat, .v (b.toNat + 1)])
    (fun c lf w =>
      let r := nearest8 (latValues (vLane (c.rv a.toNat) 4 w) (scaleOf (c.rv b.toNat) lf w)) (scaleOf (c.rv (b.toNat + 1)) lf w)
      if scaleBits (c.rv b.toNat) lf w = scaleBits (c.rv (b.toNat + 1)) lf w then { r with word := vLane (c.rv a.toNat) 4 w } else r)

/-- VLNRM (R137), alone in its bundle. -/
def execVlnrm (g : BitVec 4) (d a b : BitVec 5) (q : BitVec 3) (l : BitVec 2) (s : State) : Out := runAlone (.vlnrm g d a b q l) (actVlnrm g d a b q l) s

/-- VTRW (R138). -/
def actVtrw (g : BitVec 4) (v : BitVec 5) (q : BitVec 2) (i : BitVec 5) (t : BitVec 4) (f : BitVec 3) : Act :=
  tileWriteAct false g v q i t f

/-- VTRW (R138), alone in its bundle. -/
def execVtrw (g : BitVec 4) (v : BitVec 5) (q : BitVec 2) (i : BitVec 5) (t : BitVec 4) (f : BitVec 3) (s : State) : Out := runAlone (.vtrw g v q i t f) (actVtrw g v q i t f) s

/-- VTRR (R138). -/
def actVtrr (g : BitVec 4) (v : BitVec 5) (q : BitVec 2) (i : BitVec 5) (t : BitVec 4) (f : BitVec 3) : Act :=
  tileReadAct false g v q i t f

/-- VTRR (R138), alone in its bundle. -/
def execVtrr (g : BitVec 4) (v : BitVec 5) (q : BitVec 2) (i : BitVec 5) (t : BitVec 4) (f : BitVec 3) (s : State) : Out := runAlone (.vtrr g v q i t f) (actVtrr g v q i t f) s

/-- VTCW (R138). -/
def actVtcw (g : BitVec 4) (v : BitVec 5) (q : BitVec 2) (i : BitVec 5) (t : BitVec 4) (f : BitVec 3) : Act :=
  tileWriteAct true g v q i t f

/-- VTCW (R138), alone in its bundle. -/
def execVtcw (g : BitVec 4) (v : BitVec 5) (q : BitVec 2) (i : BitVec 5) (t : BitVec 4) (f : BitVec 3) (s : State) : Out := runAlone (.vtcw g v q i t f) (actVtcw g v q i t f) s

/-- VTCR (R138). -/
def actVtcr (g : BitVec 4) (v : BitVec 5) (q : BitVec 2) (i : BitVec 5) (t : BitVec 4) (f : BitVec 3) : Act :=
  tileReadAct true g v q i t f

/-- VTCR (R138), alone in its bundle. -/
def execVtcr (g : BitVec 4) (v : BitVec 5) (q : BitVec 2) (i : BitVec 5) (t : BitVec 4) (f : BitVec 3) (s : State) : Out := runAlone (.vtcr g v q i t f) (actVtcr g v q i t f) s

/-- VACR reads a row of an accumulator tile (R140). -/
def actVacr (g : BitVec 4) (d : BitVec 5) (c r : BitVec 6) (t : BitVec 4) : Act :=
  { guard := g
    check := checkTile c
    perform := fun _ s0 s =>
      let tile := s0.ctx.phys c.toNat
      let v := accRowOut s0.me tile r.toNat t.toNat
      let p := rowPoison s0.me tile r.toNat
      if t = 9 then
        s.emit 6 [fullWrite d.toNat 9 (v.1.take 32), fullWrite (d.toNat + 1) 9 (v.1.drop 32)] v.2 p
      else s.emit 6 [fullWrite d.toNat t.toNat v.1] v.2 p }

/-- VACR (R140), alone in its bundle. -/
def execVacr (g : BitVec 4) (d : BitVec 5) (c r : BitVec 6) (t : BitVec 4) (s : State) : Out := runAlone (.vacr g d c r t) (actVacr g d c r t) s

/-- VACW writes a row of an accumulator tile, converted to its format at the landing (R141). -/
def actVacw (g : BitVec 4) (d : BitVec 5) (c r : BitVec 6) (t : BitVec 4) : Act :=
  { guard := g
    check := checkTile c
    perform := fun _ s0 s =>
      let x := s0.ctx
      let lanes := if t = 9 then vLanes (x.rv d.toNat) 9 ++ vLanes (x.rv (d.toNat + 1)) 9
        else (vLanes (x.rv d.toNat) t.toNat).take 64
      s.emit 6 [.accRow (x.phys c.toNat) r.toNat t.toNat lanes] 0
        (s0.anyPoisoned (if t = 9 then [.v d.toNat, .v (d.toNat + 1)] else [.v d.toNat])) }

/-- VACW (R141), alone in its bundle. -/
def execVacw (g : BitVec 4) (d : BitVec 5) (c r : BitVec 6) (t : BitVec 4) (s : State) : Out := runAlone (.vacw g d c r t) (actVacw g d c r t) s


end Sys2Proof.Machine
end

