-- ==== Sys2Proof/Machine/Scratch.lean ====
section
/-! DEFINITION. The A slot: scalar, address-register and vector accesses to A-space, and full/empty accesses (R145 to
R154). Loads read the state at issue; stores perform in the issue cycle. -/
namespace Sys2Proof.Machine
open Sys2Proof

/-- The bytes of an access size of LD and ST (R25). -/
def sizeBytes (z : BitVec 3) : Nat := if z.toNat ≤ 1 then 1 else if z.toNat ≤ 3 then 2 else 4

/-- The value a load delivers: sign- or zero-extended (R149). -/
def loadExtend (z : BitVec 3) (v : Nat) : Word :=
  if z = 0 then BitVec.ofInt 32 (signedOf 8 v) else if z = 2 then BitVec.ofInt 32 (signedOf 16 v) else BitVec.ofNat 32 v

/-- The 64 words at lane addresses (R150, R151). -/
def Core.rLanes (c : Core) (addrs : List DWord) : List Nat := addrs.map (fun a => (c.rWord a.toNat).toNat)

/-- Store 64 words at lane addresses, ascending: the highest lane that names a word stands (R151). -/
def Core.wLanes (c : Core) (v : VReg) (poison : Bool) (i : Nat) : List DWord → Core
  | [] => c
  | a :: rest => (c.store a.toNat (vLane v 4 i) 4 poison).wLanes v poison (i + 1) rest

/-- The extra cycles of bank conflicts, during which the core is frozen from the next cycle (R148). -/
def State.bankFreeze (s : State) (addrs : List DWord) : State :=
  s.updCore (fun c => { c with freeze := max c.freeze (bankLoad (addrs.map (fun a => a.toNat / 4)) - 1) })

/-- The cycle, counted from the issue, in which each lane of an access is served (R148, R305): a bank serves one word a cycle, lanes
that name one word together; the order of a bank's words is open, and `r` turns it (DESIGN CHOICE, Log 6). -/
def laneDelays (r : Nat) (words : List Nat) : List Nat :=
  words.map (fun w =>
    let bank := dedupNat (words.filter (fun v => v % 192 = w % 192))
    (bank.findIdx (fun v => decide (v = w)) + r) % bank.length)

/-- A word as a lane of a load reads it, with its mark: without what the load's own bundle has stored (R14, R73). -/
def Core.laneWord (c : Core) (l : LaneAccess) (a : Nat) : Word × Bool :=
  let old := fun k => l.hides.find (c.aPhys (a + k))
  let byte := fun k => ((old k).map Prod.fst).getD (c.rByte (a + k))
  (byte 3 ++ byte 2 ++ byte 1 ++ byte 0, ((List.range 4).findSome? old).elim (c.wordPoison a) Prod.snd)

/-- One lane is served: a load's result takes its word, a store's word is written. -/
def Core.serveLane (c : Core) (l : LaneAccess) (i : Nat × Nat × DWord × Word) : Core :=
  match l.load with
  | none => c.store i.2.2.1.toNat i.2.2.2.toNat 4 l.poison
  | some seq =>
    let x := c.ctx l.ctx
    let lane : VReg := BitVec.ofNat 2048 (2 ^ 32 - 1) <<< (32 * i.2.1)
    let word := c.laneWord l i.2.2.1.toNat
    let v : VReg := word.1.setWidth 2048 <<< (32 * i.2.1)
    let put := fun (w : RegWrite) => match w with
      | .v r old m => RegWrite.v r ((old &&& ~~~lane) ||| v) m
      | w => w
    c.setCtx l.ctx { x with pend := x.pend.map (fun e =>
      if e.seq = seq then { e with writes := e.writes.map put, poison := e.poison || word.2 } else e) }

/-- Keep the lanes of an access whose cycle is still to come. -/
def Core.keepLanes (c : Core) (l : LaneAccess) : Core :=
  let rest := (l.items.filter (fun i => i.1 ≠ 0)).map (fun i => (i.1 - 1, i.2))
  { c with lanes := if rest = [] then none else some { l with items := rest } }

/-- Serve the lanes of an access whose cycle has come, and keep the others. -/
def Core.serveLanes (c : Core) (l : LaneAccess) : Core :=
  (l.items.filter (fun i => i.1 = 0)).foldl (fun c i => c.serveLane l i) (c.keepLanes l)

/-- A frozen cycle of an access with bank conflicts (R148). -/
def Core.laneCycle (c : Core) : Core :=
  match c.lanes with
  | none => c
  | some l => c.serveLanes l

/-- The cycle of each lane of an access that issues now. -/
def State.laneCycles (s : State) (as : List DWord) : List Nat := laneDelays (Config.freeNat s.free) (as.map (fun a => a.toNat / 4))

/-- Lane addresses name several words of one bank (R148). -/
def bankConflict (as : List DWord) : Bool := decide (bankLoad (as.map (fun a => a.toNat / 4)) ≠ 1)

/-- The bytes of addresses that have changed in the bundle, with what they held when it issued (R14). -/
def Core.hidden (c0 c : Core) (as : List DWord) : Map (Byte × Bool) :=
  as.foldl (fun m a => (List.range 4).foldl (fun m k =>
    let n := a.toNat + k
    if c0.rByte n = c.rByte n ∧ c0.wordPoison a.toNat = c.wordPoison a.toNat then m
    else m.put (c0.aPhys n) (c0.rByte n, c0.wordPoison a.toNat)) m) []

/-- An access with bank conflicts: a store writes the lanes of its first cycle, and a load has read them with the bundle's loads (R73); the
others are served in the frozen cycles that follow (R148, R305). -/
def State.spreadLanes (s : State) (s0 : State) (who : Nat) (load : Option Nat) (as : List DWord) (v : VReg) (poison : Bool) : State :=
  let items := (as.zip (s.laneCycles as)).mapIdx (fun i p => (p.2, i, p.1, BitVec.ofNat 32 (vLane v 4 i)))
  let l : LaneAccess := { ctx := who, load := load, items := items, poison := poison,
                           hides := if load.isSome then s0.me.hidden s.me as else [] }
  ({ s with free := s.free + 1 }.updCore (fun c => if load.isSome then c.keepLanes l else c.serveLanes l)).bankFreeze as

/-- A vector load from lane addresses (R150, R151). -/
def vloadAct (g : BitVec 4) (d : BitVec 5) (b : BitVec 4) (extra : List Src) (addrs : Ctx → List DWord)
    (banks : Bool) : Act :=
  { guard := g
    uses := .a b :: extra
    check := fun s => s.ctx.checkA b (addrs s.ctx) 4 4 false
    perform := fun _ s0 s =>
      let as := addrs s0.ctx
      let w := [fullWrite d.toNat 2 (s0.me.rLanes as)]
      if banks && bankConflict as then
        (s.emit 5 w 0 ((as.zip (s.laneCycles as)).any (fun p => decide (p.2 = 0) && s0.me.wordPoison p.1.toNat))).spreadLanes s0 s0.who
          (some s.me.seq) as 0 false
      else s.emit 5 w 0 (as.any (fun a => s0.me.wordPoison a.toNat)) }

/-- A vector store to lane addresses (R150, R151). -/
def vstoreAct (g : BitVec 4) (d : BitVec 5) (b : BitVec 4) (extra : List Src) (addrs : Ctx → List DWord)
    (banks : Bool) : Act :=
  { guard := g
    uses := .a b :: extra
    check := fun s => s.ctx.checkA b (addrs s.ctx) 4 4 true
    perform := fun _ s0 s =>
      let as := addrs s0.ctx
      let bad := s0.anyPoisoned [.v d.toNat]
      if banks && bankConflict as then s.spreadLanes s0 s0.who none as (s0.ctx.rv d.toNat) bad
      else s.updCore (fun c => c.wLanes (s0.ctx.rv d.toNat) bad 0 as) }

/-- The checks of FESET (R145, R154). For a count above 64 CX_TRAPINFO holds the first word's address (DESIGN CHOICE, Log 52). -/
def checkFeset (b : BitVec 4) (x : BitVec 5) (s : State) : Option (Cause × DWord) :=
  let a := s.ctx.ra b
  let n := (s.ctx.rs x).toNat
  if b = 0 ∧ a.toNat % 16 ≠ 0 then some (.align, a)
  else if a.toNat % 4 ≠ 0 then some (.align, a)
  else if 64 < n then some (.abound, a)
  else match firstBad (fun w => decide (w.toNat + 4 ≤ Config.aSize)) ((List.range n).map (fun i => a + BitVec.ofNat 64 (4 * i))) with
    | some w => some (.abound, w)
    | none => if b = 0 ∧ 0 < n ∧ a.toNat < s.ctx.stkLim.toNat then some (.stklim, a) else none

/-- FESET: the full bits of a run of words, seen from the next cycle (R154). -/
def fesetAct (g b : BitVec 4) (x : BitVec 5) (full : Bool) : Act :=
  { guard := g
    uses := [.a b, .s x]
    check := checkFeset b x
    perform := fun _ s0 s => s.updCore (fun c => (List.range (s0.ctx.rs x).toNat).foldl
      (fun c i => c.setFull ((s0.ctx.ra b).toNat + 4 * i) full) c) }

/-- LD in its five sizes (R149). -/
def actLd (g : BitVec 4) (d : BitVec 5) (b : BitVec 4) (z : BitVec 3) (o : BitVec 10) : Act :=
  { guard := g
    uses := [.a b]
    check := fun s => s.ctx.checkA b [s.ctx.addrAM b o (sizeBytes z)] (sizeBytes z) (sizeBytes z) false
    perform := fun _ s0 s =>
      let a := (s0.ctx.addrAM b o (sizeBytes z)).toNat
      s.emit 5 [.s d.toNat (loadExtend z (s0.me.rBytes a (sizeBytes z)))] 0 (s0.me.wordPoison a) }

/-- LD (R149), alone in its bundle. -/
def execLd (g : BitVec 4) (d : BitVec 5) (b : BitVec 4) (z : BitVec 3) (o : BitVec 10) (s : State) : Out := runAlone (.ld g d b z o) (actLd g d b z o) s

/-- ST in its three sizes; the full bits are untouched (R149). -/
def actSt (g : BitVec 4) (d : BitVec 5) (b : BitVec 4) (z : BitVec 3) (o : BitVec 10) : Act :=
  { guard := g
    uses := [.a b]
    check := fun s => s.ctx.checkA b [s.ctx.addrAM b o (sizeBytes z)] (sizeBytes z) (sizeBytes z) true
    perform := fun _ s0 s => s.updCore (fun c =>
      c.store (s0.ctx.addrAM b o (sizeBytes z)).toNat (s0.ctx.rs d).toNat (sizeBytes z) (s0.anyPoisoned [.s d])) }

/-- ST (R149), alone in its bundle. -/
def execSt (g : BitVec 4) (d : BitVec 5) (b : BitVec 4) (z : BitVec 3) (o : BitVec 10) (s : State) : Out := runAlone (.st g d b z o) (actSt g d b z o) s

/-- LDA (R149). -/
def actLda (g d b : BitVec 4) (o : BitVec 10) : Act :=
  { guard := g
    uses := [.a b]
    check := fun s => s.ctx.checkA b [s.ctx.addrAM b o 8] 8 8 false
    perform := fun _ s0 s =>
      let a := (s0.ctx.addrAM b o 8).toNat
      s.emit 5 [.a d.toNat (BitVec.ofNat 64 (s0.me.rBytes a 8))] 0 (s0.me.anyPoison a 2) }

/-- LDA (R149), alone in its bundle. -/
def execLda (g d b : BitVec 4) (o : BitVec 10) (s : State) : Out := runAlone (.lda g d b o) (actLda g d b o) s

/-- STA (R149). -/
def actSta (g d b : BitVec 4) (o : BitVec 10) : Act :=
  { guard := g
    uses := [.a b]
    check := fun s => s.ctx.checkA b [s.ctx.addrAM b o 8] 8 8 true
    perform := fun _ s0 s => s.updCore (fun c =>
      c.store (s0.ctx.addrAM b o 8).toNat (s0.ctx.ra d).toNat 8 (s0.anyPoisoned [.a d])) }

/-- STA (R149), alone in its bundle. -/
def execSta (g d b : BitVec 4) (o : BitVec 10) (s : State) : Out := runAlone (.sta g d b o) (actSta g d b o) s

/-- LDV (R150). -/
def actLdv (g : BitVec 4) (d : BitVec 5) (b : BitVec 4) (o : BitVec 10) : Act :=
  vloadAct g d b [] (fun x => vecAddrs (x.addrAM b o 256)) false

/-- LDV (R150), alone in its bundle. -/
def execLdv (g : BitVec 4) (d : BitVec 5) (b : BitVec 4) (o : BitVec 10) (s : State) : Out := runAlone (.ldv g d b o) (actLdv g d b o) s

/-- STV (R150). -/
def actStv (g : BitVec 4) (d : BitVec 5) (b : BitVec 4) (o : BitVec 10) : Act :=
  vstoreAct g d b [] (fun x => vecAddrs (x.addrAM b o 256)) false

/-- STV (R150), alone in its bundle. -/
def execStv (g : BitVec 4) (d : BitVec 5) (b : BitVec 4) (o : BitVec 10) (s : State) : Out := runAlone (.stv g d b o) (actStv g d b o) s

/-- LDVS: a signed byte stride (R151). -/
def actLdvs (g : BitVec 4) (d : BitVec 5) (b : BitVec 4) (x : BitVec 5) : Act :=
  vloadAct g d b [.s x] (fun c => strideAddrs (c.ra b) (c.rs x)) true

/-- LDVS (R151), alone in its bundle. -/
def execLdvs (g : BitVec 4) (d : BitVec 5) (b : BitVec 4) (x : BitVec 5) (s : State) : Out := runAlone (.ldvs g d b x) (actLdvs g d b x) s

/-- STVS (R151). -/
def actStvs (g : BitVec 4) (d : BitVec 5) (b : BitVec 4) (x : BitVec 5) : Act :=
  vstoreAct g d b [.s x] (fun c => strideAddrs (c.ra b) (c.rs x)) true

/-- STVS (R151), alone in its bundle. -/
def execStvs (g : BitVec 4) (d : BitVec 5) (b : BitVec 4) (x : BitVec 5) (s : State) : Out := runAlone (.stvs g d b x) (actStvs g d b x) s

/-- LDVX: unsigned byte indices (R151). -/
def actLdvx (g : BitVec 4) (d : BitVec 5) (b : BitVec 4) (x : BitVec 5) : Act :=
  vloadAct g d b [.v x.toNat] (fun c => indexAddrs (c.ra b) (c.rv x.toNat)) true

/-- LDVX (R151), alone in its bundle. -/
def execLdvx (g : BitVec 4) (d : BitVec 5) (b : BitVec 4) (x : BitVec 5) (s : State) : Out := runAlone (.ldvx g d b x) (actLdvx g d b x) s

/-- STVX (R151). -/
def actStvx (g : BitVec 4) (d : BitVec 5) (b : BitVec 4) (x : BitVec 5) : Act :=
  vstoreAct g d b [.v x.toNat] (fun c => indexAddrs (c.ra b) (c.rv x.toNat)) true

/-- STVX (R151), alone in its bundle. -/
def execStvx (g : BitVec 4) (d : BitVec 5) (b : BitVec 4) (x : BitVec 5) (s : State) : Out := runAlone (.stvx g d b x) (actStvx g d b x) s

/-- LDF waits for a full word, reads it and empties it (R152, R153). -/
def actLdf (g : BitVec 4) (d : BitVec 5) (b : BitVec 4) (o : BitVec 10) : Act :=
  { guard := g
    uses := [.a b]
    check := fun s => s.ctx.checkA b [s.ctx.addrAM b o 4] 4 4 false
    hold := fun s =>
      let a := (s.ctx.addrAM b o 4).toNat
      if s.me.isFull a then none else some (.word a true)
    perform := fun _ s0 s =>
      let a := (s0.ctx.addrAM b o 4).toNat
      (s.updCore (fun c => c.setFull a false)).emit 5 [.s d.toNat (s0.me.rWord a)] 0 (s0.me.wordPoison a) }

/-- LDF (R152), alone in its bundle. -/
def execLdf (g : BitVec 4) (d : BitVec 5) (b : BitVec 4) (o : BitVec 10) (s : State) : Out := runAlone (.ldf g d b o) (actLdf g d b o) s

/-- STE waits for an empty word, writes it and fills it (R152, R153). -/
def actSte (g : BitVec 4) (d : BitVec 5) (b : BitVec 4) (o : BitVec 10) : Act :=
  { guard := g
    uses := [.a b]
    check := fun s => s.ctx.checkA b [s.ctx.addrAM b o 4] 4 4 true
    hold := fun s =>
      let a := (s.ctx.addrAM b o 4).toNat
      if s.me.isFull a then some (.word a false) else none
    perform := fun _ s0 s =>
      let a := (s0.ctx.addrAM b o 4).toNat
      s.updCore (fun c => (c.store a (s0.ctx.rs d).toNat 4 (s0.anyPoisoned [.s d])).setFull a true) }

/-- STE (R152), alone in its bundle. -/
def execSte (g : BitVec 4) (d : BitVec 5) (b : BitVec 4) (o : BitVec 10) (s : State) : Out := runAlone (.ste g d b o) (actSte g d b o) s

/-- FESET.f (R154). -/
def actFesetF (g b : BitVec 4) (x : BitVec 5) : Act :=
  fesetAct g b x true

/-- FESET_F (R154), alone in its bundle. -/
def execFesetF (g b : BitVec 4) (x : BitVec 5) (s : State) : Out := runAlone (.fesetF g b x) (actFesetF g b x) s

/-- FESET.e (R154). -/
def actFesetE (g b : BitVec 4) (x : BitVec 5) : Act :=
  fesetAct g b x false

/-- FESET_E (R154), alone in its bundle. -/
def execFesetE (g b : BitVec 4) (x : BitVec 5) (s : State) : Out := runAlone (.fesetE g b x) (actFesetE g b x) s


end Sys2Proof.Machine
end

