-- ==== Sys2Proof/Machine/WSlot.lean ====
section
/-! DEFINITION. W-space and the W slot (R155 to R163, R254 to R262): rows, pages and their attributes, the bank arbiter's
grants to reads, and the slot's instructions. -/
namespace Sys2Proof.Machine
open Sys2Proof

/-! ### Rows and attributes (R254, R255) -/

/-- The bytes of a row from index `i` on, as a little-endian number. -/
def rowBytes (m : Map Byte) (row i : Nat) : Nat → Nat
  | 0 => 0
  | n + 1 => (m.get 0 (row * 512 + i)).toNat + 256 * rowBytes m row (i + 1) n

/-- A logical row's stored contents. -/
def Core.wRow (c : Core) (row : Nat) : Row := BitVec.ofNat 4096 (rowBytes c.wspace row 0 512)

/-- Write the bytes of a number to a row from index `i` on. -/
def putRowBytes (m : Map Byte) (row i v : Nat) : Nat → Map Byte
  | 0 => m
  | n + 1 => putRowBytes (m.write 0 (row * 512 + i) (BitVec.ofNat 8 v)) row (i + 1) (v / 256) n

/-- Replace a logical row. -/
def Core.setRow (c : Core) (row : Nat) (v : Row) : Core := { c with wspace := putRowBytes c.wspace row 0 v.toNat 512 }

/-- A row that reads poisoned: an uncorrectable quarter, or a failed row (R265, R271). -/
def Core.rowPoisoned (c : Core) (row : Nat) : Bool :=
  c.failedRows.contains row || (List.range 4).any (fun q => c.wpoison.get false (row * 4 + q))

/-- The attribute word of the page of a row (R255). -/
def Core.attrOf (c : Core) (row : Nat) : Word := c.wattr.get 0 (row / 2048)
/-- PART (R255). -/
def attrPart (w : Word) : Nat := (w.extractLsb' 27 4).toNat
/-- IMAGE (R255). -/
def attrImage (w : Word) : Nat := (w.extractLsb' 22 5).toNat
/-- LAYOUT (R255). -/
def attrLayout (w : Word) : Nat := (w.extractLsb' 20 2).toNat
/-- FMT (R255). -/
def attrFmt (w : Word) : Nat := (w.extractLsb' 16 4).toNat
/-- FX (R255). -/
def attrFx (w : Word) : Nat := (w.extractLsb' 13 3).toNat
/-- SCALE (R255). -/
def attrScale (w : Word) : Nat := (w.extractLsb' 0 13).toNat
/-- SEALED (R255). -/
def attrSealed (w : Word) : Bool := w.getLsbD 31

/-! ### The bank arbiter (R156, R260) -/

/-- The bank of a row (R155, R254). -/
def bankOf (row : Nat) : Nat := row % 16

/-- The row being programmed in a bank of a core, if any. -/
def State.jobAt (s : State) (rank bank : Nat) : Option RowJob :=
  s.jobs.find? (fun j => j.core = rank ∧ bankOf j.row = bank)

/-- A bank grants a read in this cycle: four wall cycles after the last one, between programming phases only to a
read that was waiting when the phase ended (R156, R260); a test of the bank runs in such phases too (R384). -/
def State.bankReady (s : State) (rank bank : Nat) : Bool :=
  let c := s.core rank
  let last := c.bankRead.get 0 bank
  decide (last = 0 ∨ last + 3 ≤ s.wall) &&
    (match s.jobAt rank bank with
     | none => true
     | some j => j.boundary && decide (c.bankWait.get 0 bank = s.wall))

/-- A row enters the correction log of its bank, which holds 16 rows and keeps the oldest (R270). -/
def Core.logRow (c : Core) (row : Nat) : Core :=
  if (c.corrLog.filter (fun r => bankOf r = bankOf row)).length < 16 ∧ !c.corrLog.contains row then
    { c with corrLog := c.corrLog ++ [row] }
  else c

/-- A read is granted: the bank's time of its last read, and the correction log of a corrected row (R156, R270). -/
def State.grantRead (s : State) (rank row : Nat) : State :=
  let c := s.core rank
  let c1 := { c with bankRead := c.bankRead.put (bankOf row) (s.wall + 1) }
  let s1 := s.setCore rank (if c.wErr.contains row then c1.logRow row else c1)
  if c.wErr.contains row then s1.correctedError (bankUnit rank (bankOf row)) else s1

/-- What a granted read of a row returns: the captured contents until the row commits (R261). -/
def State.rowSeen (s : State) (rank row : Nat) : Row :=
  match s.jobs.find? (fun j => j.core = rank ∧ j.row = row ∧ j.started ∧ j.committed = false) with
  | some j => j.captured
  | none => (s.core rank).wRow row

/-- The 2 frozen cycles of a corrected read with an architected cycle (R156, R270). The rules place them before the result lands and
no closer: the model takes the two that follow the cycle of the read (DESIGN CHOICE, Log 66). -/
def State.eccFreeze (s : State) (row : Nat) : State :=
  if s.me.wErr.contains row then s.updCore (fun c => { c with freeze := max c.freeze 2 }) else s

/-! ### The slot -/

/-- The row a W-slot instruction names (R155). -/
def Ctx.rowOf {n : Nat} (x : Ctx) (b : BitVec 4) (o : BitVec n) : DWord := x.ra b + o.signExtend 64

/-- WBOUND and PARTITION of a row (R155). -/
def checkRow (s : State) (row : DWord) : Option (Cause × DWord) :=
  if Config.wRows ≤ row.toNat then some (.wbound, row)
  else if attrPart (s.me.attrOf row.toNat) ≠ s.ctx.part then some (.partition, row)
  else none

/-- The attributes a WLDM requires (R158, R257). -/
def wldmLayout (x : Ctx) (attr : Word) : Bool :=
  let bf := (x.mcfg.extractLsb' 4 4).toNat
  decide (attrFmt attr = bf ∧ attrLayout attr = (x.mcfg.extractLsb' 18 2).toNat) &&
    (if bf = 10 then decide (attrFx attr = (x.mcfg.extractLsb' 11 3).toNat)
     else if bf = 11 ∧ (x.mlat.extractLsb' 8 2).toNat = 1 then
       decide (attrFx attr % 4 = (x.mlat.extractLsb' 10 2).toNat)
     else true)

/-- A read of W-space in the slot: held until the bank accepts it (R156). -/
def wHold (row : State → DWord) (s : State) : Option Hold :=
  if s.bankReady s.cur (bankOf (row s).toNat) then none else some (.bank (bankOf (row s).toNat))

/-- The slot's read is granted and the port is used in this cycle. -/
def State.wRead (s : State) (row : Nat) : State :=
  ((s.grantRead s.cur row).eccFreeze row).updCore (fun c => { c with wPortUsed := true })

/-- The delta bits of a tenant delta at an A-space offset (R160). -/
def Core.deltaBits (c : Core) (d : Nat) : BitVec 64 := BitVec.ofNat 64 (c.rBytes d 8)

/-- The chunks present in a bitmap. -/
def popCount64 (b : BitVec 64) : Nat := ((List.range 64).filter (fun i => b.getLsbD i)).length

/-- Apply a delta to a row, chunk `j` of 64 on, with `k` chunks already taken (R160). -/
def applyDelta (c : Core) (d : Nat) (bits : BitVec 64) (row : Nat) (k j : Nat) : Nat → Nat
  | 0 => row
  | n + 1 =>
    if bits.getLsbD j then
      let old := row / 2 ^ (64 * j) % 2 ^ 64
      applyDelta c d bits (row - old * 2 ^ (64 * j) + c.rBytes (d + 8 + 8 * k) 8 * 2 ^ (64 * j)) (k + 1) (j + 1) n
    else applyDelta c d bits row k (j + 1) n

/-- The checks of WLDD's delta access (R155): rules 1 to 3 of R145. -/
def checkDelta (s : State) (x : BitVec 4) : Option (Cause × DWord) :=
  let a := s.ctx.ra x
  if x = 0 ∧ a.toNat % 16 ≠ 0 then some (.align, a)
  else if a.toNat % 8 ≠ 0 then some (.align, a)
  else if Config.aSize < a.toNat + 8 then some (.abound, a)
  else if Config.aSize < a.toNat + 8 + 8 * popCount64 (s.me.deltaBits a.toNat) then some (.abound, a)
  else none

/-- The pair of writes of a row (R159). -/
def pairOfRow (d : Nat) (row : Row) : List RegWrite :=
  [.v (2 * d) (row.extractLsb' 0 2048) vAll, .v (2 * d + 1) (row.extractLsb' 2048 2048) vAll]

/-- WLDM streams a row to the B port, where it is at c+12 (R158, R173). Rows that an MSTOP or a fault has dropped count to the 16 until they
arrive (R178; DESIGN CHOICE, Log 64). -/
def actWldm (g b : BitVec 4) (o : BitVec 18) : Act :=
  { guard := g
    uses := [.a b]
    check := fun s =>
      let row := s.ctx.rowOf b o
      match checkRow s row with
      | some f => some f
      | none =>
        if !wldmLayout s.ctx (s.me.attrOf row.toNat) then some (.layout, row)
        else if 16 ≤ s.me.port.length then some (.illegal, row) else none
    hold := wHold (fun s => s.ctx.rowOf b o)
    perform := fun _ s0 s =>
      let row := (s0.ctx.rowOf b o).toNat
      (s.wRead row).updCore (fun c => { c with port := c.port ++
        [{ wait := 12, ctx := s0.who, data := s0.rowSeen s0.cur row, poison := s0.me.rowPoisoned row, dropped := false }] }) }

/-- WLDM (R158), alone in its bundle. -/
def execWldm (g b : BitVec 4) (o : BitVec 18) (s : State) : Out := runAlone (.wldm g b o) (actWldm g b o) s

/-- WLDV loads a row into a register pair (R159). -/
def actWldv (g d b : BitVec 4) (o : BitVec 14) : Act :=
  { guard := g
    uses := [.a b]
    check := fun s => checkRow s (s.ctx.rowOf b o)
    hold := wHold (fun s => s.ctx.rowOf b o)
    perform := fun _ s0 s =>
      let row := (s0.ctx.rowOf b o).toNat
      (s.wRead row).emit 12 (pairOfRow d.toNat (s0.rowSeen s0.cur row)) 0 (s0.me.rowPoisoned row) }

/-- WLDV (R159), alone in its bundle. -/
def execWldv (g d b : BitVec 4) (o : BitVec 14) (s : State) : Out := runAlone (.wldv g d b o) (actWldv g d b o) s

/-- WLDD: a row with a tenant delta applied (R160). -/
def actWldd (g d b x : BitVec 4) : Act :=
  { guard := g
    uses := [.a b, .a x]
    check := fun s => match checkRow s (s.ctx.ra b) with
      | some f => some f
      | none => checkDelta s x
    hold := wHold (fun s => s.ctx.ra b)
    perform := fun _ s0 s =>
      let row := (s0.ctx.ra b).toNat
      let dl := (s0.ctx.ra x).toNat
      let m := s0.me.deltaBits dl
      let v := applyDelta s0.me dl m (s0.rowSeen s0.cur row).toNat 0 0 64
      (s.wRead row).emit 14 (pairOfRow d.toNat (BitVec.ofNat 4096 v)) 0
        (s0.me.rowPoisoned row || s0.me.anyPoison dl (2 + 2 * popCount64 m)) }

/-- WLDD (R160), alone in its bundle. -/
def execWldd (g d b x : BitVec 4) (s : State) : Out := runAlone (.wldd g d b x) (actWldd g d b x) s

/-- WATTR reads the attribute word of a page; it takes no bank slot (R161). -/
def actWattr (g : BitVec 4) (d : BitVec 5) (b : BitVec 4) : Act :=
  { guard := g
    uses := [.a b]
    check := fun s => checkRow s (s.ctx.ra b)
    perform := fun _ s0 s => s.emit 4 [.s d.toNat (s0.me.attrOf (s0.ctx.ra b).toNat)] }

/-- WATTR (R161), alone in its bundle. -/
def execWattr (g : BitVec 4) (d : BitVec 5) (b : BitVec 4) (s : State) : Out := runAlone (.wattr g d b) (actWattr g d b) s

/-- WST always traps WSTORE when its guard is true (R162). -/
def actWst (g : BitVec 4) (c : BitVec 22) : Act :=
  { guard := g
    check := fun _ => some (.wstore, c.setWidth 64)
    perform := fun _ _ s => s }

/-- WST (R162), alone in its bundle. -/
def execWst (g : BitVec 4) (c : BitVec 22) (s : State) : Out := runAlone (.wst g c) (actWst g c) s


end Sys2Proof.Machine
end

