-- ==== Sys2Proof/Machine/MSlot.lean ====
section
/-! DEFINITION. The M slot: the matrix configuration, the issue checks of commands, and their issue (R164 to R178, R180). -/
namespace Sys2Proof.Machine
open Sys2Proof

/-! ### The matrix configuration (R164, R165) -/

/-- AFMT. -/
def cfgA (w : Word) : Nat := (w.extractLsb' 0 4).toNat
/-- BFMT. -/
def cfgB (w : Word) : Nat := (w.extractLsb' 4 4).toNat
/-- AFX. -/
def cfgAfx (w : Word) : Nat := (w.extractLsb' 8 3).toNat
/-- BFX. -/
def cfgBfx (w : Word) : Nat := (w.extractLsb' 11 3).toNat
/-- ASRC. -/
def cfgAsrc (w : Word) : Nat := (w.extractLsb' 14 2).toNat
/-- BSRC. -/
def cfgBsrc (w : Word) : Nat := (w.extractLsb' 16 2).toNat
/-- BLAY. -/
def cfgBlay (w : Word) : Nat := (w.extractLsb' 18 2).toNat

/-- An operand pair: chunk, cycles per chunk, and the rate of MMV (R165). -/
def operandPair (a b : Nat) : Option (Nat × Nat × Nat) :=
  if (a = 7 ∧ b = 7) ∨ (a = 6 ∧ b = 6) then some (1, 1, 4096)
  else if (a = 0 ∨ a = 10) ∧ (b = 0 ∨ b = 10) then some (2, 1, 8192)
  else if (a = 0 ∨ a = 10) ∧ b = 11 then some (4, 1, 16384)
  else if a = 7 ∧ b = 11 then some (1, 1, 4096)
  else if (a = 8 ∧ b = 8) ∨ (a = 9 ∧ b = 9) then some (1, 4, 1024)
  else none

/-- The pair of a configuration; the configuration register only ever holds a listed one. -/
def pairOf (w : Word) : Nat × Nat × Nat := (operandPair (cfgA w) (cfgB w)).getD (1, 1, 1024)

/-- A configuration word MCFG accepts (R166). -/
def cfgValid (w : Word) : Bool :=
  decide (w.extractLsb' 20 12 = 0 ∧ cfgAsrc w ≤ 1 ∧ cfgBsrc w ≤ 2 ∧ cfgBlay w ≤ 2) &&
    (operandPair (cfgA w) (cfgB w)).isSome

/-- The mode of an MLAT binding (R177). -/
def mlatMode (w : Word) : Nat := (w.extractLsb' 8 2).toNat
/-- The copied LFMT value of a binding (R177). -/
def mlatCopy (w : Word) : Word := (w.extractLsb' 0 8).setWidth 32
/-- The LFMT number of a binding (R177). -/
def mlatIdx (w : Word) : Nat := (w.extractLsb' 10 2).toNat

/-! ### Operand addresses (R172, R174) -/

/-- The bytes of an element of an operand; a lat8 B operand is addressed by words. -/
def elemBytes (t : Nat) : Nat := typeBytes t

/-- A stride of a level as an integer: 0 for A, 1 for B, 2 for D. -/
def levelStride (n : Nest) (l which : Nat) : Int :=
  match which with
  | 0 => strideInt (nestLevel n l).sa
  | 1 => strideInt (nestLevel n l).sb
  | _ => strideInt (nestLevel n l).sd

/-- The counts of levels 1 to levels - 1: the blocks of an MMA (R172). -/
def blockCounts (n : Nest) (levels : Nat) : List Nat := (List.range (levels - 1)).map (fun l => nestCount n (l + 1))

/-- The number of blocks. -/
def blockCount (n : Nest) (levels : Nat) : Nat := (blockCounts n levels).foldl (· * ·) 1

/-- The base of block `b` of an operand (R172). -/
def blockBase (n : Nest) (levels : Nat) (base : DWord) (which b : Nat) : DWord :=
  addInt base (walkOffset (walkCounters (blockCounts n levels) b)
    ((List.range (levels - 1)).map (fun l => levelStride n (l + 1) which)))

/-- The address of row 0 of A for one k of a block (R172). The sum is taken modulo 2^64, as a sum of address registers is, where R172
writes no modulus (R12; DESIGN CHOICE, Log 70). -/
def addrA (n : Nest) (levels : Nat) (base : DWord) (b kk : Nat) : DWord :=
  addInt (blockBase n levels base 0 b) ((kk : Int) * levelStride n 0 0)

/-- The address of column 0 of B for one k of a block (R172); for lat8, of the word that holds it. -/
def addrB (n : Nest) (levels : Nat) (base : DWord) (lat : Bool) (b kk : Nat) : DWord :=
  addInt (blockBase n levels base 1 b) (((if lat then kk / 8 else kk : Nat) : Int) * levelStride n 0 1)

/-- The A-space ranges (start, element size, elements) an MMA reads for one operand: those of the blocks and k values that it
reads. -/
def mmaRanges (n : Nest) (levels : Nat) (base : DWord) (isB lat : Bool) (eb : Nat) (reads : Nat → Nat → Bool) :
    List (DWord × Nat × Nat) :=
  let c0 := nestCount n 0
  (List.range (blockCount n levels)).flatMap (fun b =>
    ((List.range c0).filter (fun kk => (!lat || decide (kk % 8 = 0)) && reads b kk)).map (fun kk =>
      (if isB then addrB n levels base lat b kk else addrA n levels base b kk, eb, 64)))

/-- A walk that begins at chunk `step` reads this k of a block; a lat8 word is read while one of its elements is left (R180, R246). -/
def walkReads (n : Nest) (k step : Nat) (lat : Bool) (b kk : Nat) : Bool :=
  let c0 := nestCount n 0
  decide (step ≤ b * ((c0 + k - 1) / k) + (if lat then Nat.min (kk / 8 * 8 + 7) (c0 - 1) else kk) / k)

/-- The lowest address of a list. -/
def lowestOf : List DWord → Option DWord
  | [] => none
  | a :: rest => some (lowest a rest)

/-- ALIGN, then ABOUND, over ranges of elements, with the lowest failing address (R168). -/
def checkRanges (l : List (DWord × Nat × Nat)) : Option (Cause × DWord) :=
  match lowestOf ((l.filter (fun r => r.1.toNat % r.2.1 ≠ 0)).map Prod.fst) with
  | some a => some (.align, a)
  | none =>
    match lowestOf (l.flatMap (fun r =>
      if r.1.toNat + r.2.1 * r.2.2 ≤ Config.aSize then []
      else (((List.range r.2.2).map (fun i => r.1 + BitVec.ofNat 64 (i * r.2.1))).find?
        (fun a => decide (Config.aSize < a.toNat + r.2.1))).toList)) with
    | some a => some (.abound, a)
    | none => none

/-! ### Tiles at c+12 (R170) -/

/-- A context with the commits of its MMAS commands in their cycles (R175). -/
def Core.withMmas (c : Core) (who : Nat) : Ctx :=
  (c.cmds.filter (fun m => m.ctx = who ∧ m.kind = .mmas)).foldl (fun x m =>
    { x with pend := insertPend ⟨x.clock + (m.due - c.ucyc), m.id, [.commit m.id], 0, false⟩ x.pend }) (c.ctx who)

/-- The core as the results of a context due up to clock `t`, landing cycle by cycle, leave it (R168, R170). Results that a handler
holds captured do not land before it returns (R224). -/
def Core.landAhead (c : Core) (who t : Nat) : Core :=
  let x := c.withMmas who
  (List.range (t + 1 - x.clock)).foldl (fun c i => c.land who (x.clock + i)) (c.setCtx who x)

/-- The format a tile will have at c+12 (R168): what lands up to then, cycle by cycle, sets it. -/
def State.tileFmtAt (s : State) (t : Nat) : AccFmt :=
  let x := s.me.withMmas s.who
  s.me.fmtAfter (x.duePend x.clock ++ (List.range 12).flatMap (fun i => x.pend.filter (fun e => e.due = x.clock + i + 1))) t

/-! ### Restart (R180) -/

/-- The chunks or rows a restarted command skips, if CX_ROWPROG names it (R180). -/
def restartStep (x : Ctx) (acc : Nat) (kind : Nat) : Option Nat :=
  if x.rowProg.getLsbD 31 && decide ((x.rowProg.extractLsb' 25 6).toNat = acc ∧ (x.rowProg.extractLsb' 23 2).toNat = kind)
  then some (x.rowProg.extractLsb' 0 23).toNat else none

/-! ### Issue checks (R168) -/

/-- FMT registers a configuration uses are valid; a bound LFMT copy is valid by its binding (R60, R67). -/
def cfgFmtsValid (x : Ctx) : Bool :=
  (cfgA x.mcfg != 10 || (nf8Fmt (x.rfmt (cfgAfx x.mcfg))).valid) &&
    (cfgB x.mcfg != 10 || (nf8Fmt (x.rfmt (cfgBfx x.mcfg))).valid)

/-- The tiles a command writes are allocated (R168). -/
def tilesAllocated (x : Ctx) (acc n : Nat) : Bool := decide (acc + n ≤ x.tileCount)

/-- The number of tiles of a result. -/
def resultTiles (x : Ctx) : Nat := if accFmtOf x.mcfg x.mlat = .f64 then 2 else 1

/-- Item 5 of R168: the tile's format at c+12. -/
def checkFormat (s : State) (acc : Nat) (accumulate : Bool) : Option (Cause × DWord) :=
  if accumulate && decide (s.tileFmtAt (s.ctx.phys acc) ≠ accFmtOf s.ctx.mcfg s.ctx.mlat) then some (.layout, 0) else none

/-- The number of chunks of an MMA (R172). -/
def mmaChunks (n : Nest) (levels k : Nat) : Nat := blockCount n levels * ((nestCount n 0 + k - 1) / k)

/-- The issue checks of MMA (R168, R172). -/
def checkMma (s : State) (acc : Nat) (n : Nest) (a b : BitVec 4) (levels : Nat) (fl : Bool) : Option (Cause × DWord) :=
  let x := s.ctx
  let w := x.mcfg
  let k := (pairOf w).1
  let lat := decide (cfgB w = 11)
  let step := restartStep x acc 0
  if !tilesAllocated x acc (resultTiles x) then some (.prot, Config.freeInfo s.wall s.cur)
  else if (accFmtOf w x.mlat = .f64 ∧ acc % 2 = 1)
    ∨ (List.range levels).any (fun l => decide (nestCount n l = 0)) = true
    ∨ (2 ≤ levels ∧ nestCount n 0 % (if lat then 8 else k) ≠ 0)
    ∨ 4194303 < mmaChunks n levels k
    ∨ cfgFmtsValid x = false
    ∨ (lat = true ∧ mlatMode x.mlat = 2)
    ∨ mmaChunks n levels k < step.getD 0 then some (.illegal, 0)
  else
    match checkRanges ((if cfgAsrc w = 0 then
          mmaRanges n levels (x.ra a) false false (elemBytes (cfgA w)) (walkReads n k (step.getD 0) false) else [])
        ++ (if cfgBsrc w = 0 then
          mmaRanges n levels (x.ra b) true lat (elemBytes (cfgB w)) (walkReads n k (step.getD 0) lat) else [])) with
    | some f => some f
    | none =>
      if cfgBsrc w = 2 ∧ cfgBlay w ≠ 1 then some (.layout, 0)
      else checkFormat s acc (fl || step.isSome)

/-- The elements of a row of an MMV weight (R174). -/
def rowElems (t : Nat) : Nat := if t = 11 then 1024 else 512 / typeBytes t

/-- The weight rows of an MMV in the order it reads them (R174). -/
def mmvRows (n : Nest) (base : DWord) (per : Nat) : List DWord :=
  (List.range (nestCount n 1)).flatMap (fun (j : Nat) =>
    (List.range per).map (fun (m : Nat) => addInt base (((j : Nat) : Int) * levelStride n 1 1 + ((m : Nat) : Int))))

/-- The scale row of a group entry of a page (R258): entry `e` of the array at row SCALE * 256. -/
def scaleRow (attr : Word) (e : Nat) : Nat := attrScale attr * 256 + e / 256

/-- The scale entry of word `w` (from the row's first word) of a weight row (R177, R258): entries count from the page's
array for the page's words. -/
def scaleEntry (row w g : Nat) : Nat := (row % 2048 * 128 + w) / g

/-- The attributes an MMV requires of a row (R257). -/
def mmvLayout (x : Ctx) (attr : Word) : Bool :=
  decide (attrFmt attr = cfgB x.mcfg ∧ attrLayout attr = 2) &&
    (if cfgB x.mcfg = 10 then decide (attrFx attr = cfgBfx x.mcfg)
     else if cfgB x.mcfg = 11 ∧ mlatMode x.mlat ≠ 0 then decide (attrFx attr % 4 = mlatIdx x.mlat) else true)

/-- The first failing check of a list. -/
def firstFault {α : Type} (f : α → Option (Cause × DWord)) : List α → Option (Cause × DWord)
  | [] => none
  | a :: rest => match f a with
    | some e => some e
    | none => firstFault f rest

/-- The scale rows that a weight row's words use under mode 2. -/
def scaleRowsOf (attr : Word) (row g : Nat) : List Nat :=
  dedupNat ((List.range 128).map (fun w => scaleRow attr (scaleEntry row w g)))

/-- Item 4 of R168 for one weight row of an MMV, and its scale rows (R155, R177, R258). -/
def checkMmvRow (s : State) (row : DWord) : Option (Cause × DWord) :=
  match checkRow s row with
  | some f => some f
  | none =>
    let attr := s.me.attrOf row.toNat
    if !mmvLayout s.ctx attr then some (.layout, row)
    else if cfgB s.ctx.mcfg = 11 ∧ mlatMode s.ctx.mlat = 2 then
      if attrScale attr = 0 then some (.layout, BitVec.ofNat 64 (row.toNat / 2048 * 2048))
      else firstFault (fun r => checkRow s (BitVec.ofNat 64 r)) (scaleRowsOf attr row.toNat (lfmtGroup (mlatCopy s.ctx.mlat)))
    else none

/-- The rows of each output of an MMV. -/
def mmvPer (w : Word) (n : Nest) : Nat := (nestCount n 0 + rowElems (cfgB w) - 1) / rowElems (cfgB w)

/-- The activations of an MMV (R174), in runs of the `e` that a weight row takes; a walk that begins at row `step` reads the runs of the
rows that are left (R180). -/
def mmvRanges (n : Nest) (base : DWord) (ea e step : Nat) : List (DWord × Nat × Nat) :=
  let per := (nestCount n 0 + e - 1) / e
  (List.range (nestCount n 2)).flatMap (fun (bt : Nat) =>
    ((List.range per).filter (fun m => decide (step ≤ (nestCount n 1 - 1) * per + m))).map (fun m =>
      (addInt base ((bt : Int) * levelStride n 2 0) + BitVec.ofNat 64 (m * e * ea), ea, Nat.min e (nestCount n 0 - m * e))))

/-- The issue checks of MMV (R168, R174). Of several rows that fail, the first in the order of the walk is reported, with its own first
cause (DEDUCED, Log 55). -/
def checkMmv (s : State) (acc : Nat) (n : Nest) (a b : BitVec 4) (fl : Bool) : Option (Cause × DWord) :=
  let x := s.ctx
  let w := x.mcfg
  let step := restartStep x acc 1
  let rows := nestCount n 1 * mmvPer w n
  if !tilesAllocated x acc (resultTiles x) then some (.prot, Config.freeInfo s.wall s.cur)
  else if (accFmtOf w x.mlat = .f64 ∧ acc % 2 = 1)
    ∨ nestCount n 0 = 0 ∨ nestCount n 1 = 0 ∨ nestCount n 2 = 0 ∨ 64 < nestCount n 1 ∨ 64 < nestCount n 2
    ∨ 4194303 < rows ∨ cfgFmtsValid x = false ∨ cfgAsrc w ≠ 0 ∨ cfgBlay w ≠ 2 ∨ rows < step.getD 0 then
    some (.illegal, 0)
  else match checkRanges (mmvRanges n (x.ra a) (elemBytes (cfgA w)) (rowElems (cfgB w)) (step.getD 0)) with
    | some f => some f
    | none => match firstFault (checkMmvRow s) ((mmvRows n (x.ra b) (mmvPer w n)).drop (step.getD 0)) with
      | some f => some f
      | none => checkFormat s acc (fl || step.isSome)

/-- A skip byte of a sparse descriptor is poisoned: it is a source of every element of the result (R392). -/
def skipPoison (c : Core) (d k : Nat) : Bool := decide (8 ≤ k) && c.anyPoison (d + 16) ((k / 8 + 3) / 4)

/-- The skip bytes of a sparse descriptor (R175). -/
def skipBytes (c : Core) (d k : Nat) : List (BitVec 8) := (List.range (k / 8)).map (fun g => c.rByte (d + 16 + g))

/-- The present blocks of an MMAS. -/
def presentBlocks (sk : List (BitVec 8)) : Nat :=
  (sk.map (fun b => ((List.range 8).filter (fun m => b.getLsbD m)).length)).sum

/-- A barrier object's offset: 16-aligned and below the end of A-space (R175, R182). -/
def checkBarrier (a : DWord) : Option (Cause × DWord) :=
  if a.toNat % 16 ≠ 0 then some (.align, a) else if Config.aSize < a.toNat + 16 then some (.abound, a) else none

/-- The issue checks of MMAS (R168, R175), of what the walk reads: A in the k-groups that have a block, B if there is one. Of the
ALIGN and ABOUND that it may have, the descriptor's comes first, then the barrier's, then the operands' (DESIGN CHOICE, Log 64). -/
def checkMmas (s : State) (acc : Nat) (n : Nest) (a b : BitVec 4) (sel : BitVec 3) (fl : Bool) : Option (Cause × DWord) :=
  let x := s.ctx
  let w := x.mcfg
  let k := nestCount n 0
  let d := x.ra (8 + sel.setWidth 4)
  if !tilesAllocated x acc (resultTiles x) then some (.prot, Config.freeInfo s.wall s.cur)
  else if (accFmtOf w x.mlat = .f64 ∧ acc % 2 = 1) ∨ k = 0 ∨ k % 8 ≠ 0 ∨ cfgBsrc w = 2 ∨ cfgB w = 11
    ∨ cfgFmtsValid x = false then some (.illegal, 0)
  else match checkS d 16 (16 + k / 8) with
    | some f => some f
    | none =>
      let bar := (s.me.rWord d.toNat).setWidth 64
      match (if bar = 0 then none else checkBarrier bar) with
      | some f => some f
      | none =>
        let sk := skipBytes s.me d.toNat k
        match checkRanges ((if cfgAsrc w = 0 then
              mmaRanges n 1 (x.ra a) false false (elemBytes (cfgA w)) (fun _ kk => decide (sk.getD (kk / 8) 0 ≠ 0)) else [])
          ++ (if cfgBsrc w = 0 ∧ presentBlocks sk ≠ 0 then [(x.ra b, elemBytes (cfgB w), 64 * presentBlocks sk)] else [])) with
        | some f => some f
        | none => checkFormat s acc fl

/-! ### Holds (R169) -/

/-- Engine cycles until the array is free of a command. -/
def MCmd.remaining (m : MCmd) : Nat := 12 + m.arrayTime - m.age

/-- The array is held by an earlier command past this command's c+12, or sixteen commands are outstanding (R169).
When both hold at once the bubbles come first (DESIGN CHOICE, Log 61). -/
def arrayHold (counted : Bool) (s : State) : Option Hold :=
  if counted && decide (16 ≤ (s.me.cmds.filter (fun m => m.ctx = s.who ∧ m.kind ≠ .mmas ∧ m.discarded = false)).length) then some .bubble
  else if s.me.cmds.any (fun m => decide (12 < m.remaining)) then some .array else none

/-! ### Issue -/

/-- A command with what every kind reads at issue (R167). -/
def newCmd (s : State) (kind : MKind) (acc : Nat) (n : Nest) (a b : BitVec 4) (accumulate : Bool) : MCmd :=
  let x := s.ctx
  { id := s.me.seq, ctx := s.who, kind := kind, acc := acc, tile := x.phys acc, cfg := x.mcfg, scale := x.mscale,
    nest := n, levels := 1, baseA := x.ra a, baseB := x.ra b, accumulate := accumulate, mlat := x.mlat,
    mlatBase := x.mlatBase, heap := { base := x.heapBase, lim := x.heapLim, off := x.heapOff },
    fmtA := x.rfmt (cfgAfx x.mcfg), fmtB := x.rfmt (cfgBfx x.mcfg), issued := x.clock, due := 0, age := 0, period := 1,
    total := 0, skip := 0, next := 0, arrayTime := 0, skips := [], barrier := 0, event := false, tileFmt := .f32,
    sums := [], partials := [], blockSums := [], blockStep := 0, flags := 0, rowsUsed := 64, colsUsed := 64,
    poison := [], portRow := 0, portPoison := false, stall := none, wWait := false,
    fetchA := 0, fetchB := 0, fetchVal := [], fetchBad := [], pages := [], scaleRows := [], scaleBad := [],
    part := x.part, priv := x.priv }

/-- A restarted command clears VALID at issue (R180). -/
def Ctx.clearRestart (x : Ctx) (step : Option Nat) : Ctx :=
  if step.isSome then { x with rowProg := x.rowProg &&& 0x7FFFFFFF } else x

/-- Issue an MMA or MMV: its commit is an exposed result (R171). -/
def State.issueCmd (s : State) (m : MCmd) : State :=
  let s1 := s.updCore (fun c => { c with cmds := c.cmds ++ [m] })
  s1.emit (24 + m.arrayTime) [.commit m.id]

/-- Issue an MMAS: it commits on the core's unfrozen cycles and has no exposed result (R171, R175). -/
def State.issueMmas (s : State) (m : MCmd) : State :=
  s.updCore (fun c => { c with seq := c.seq + 1, cmds := c.cmds ++ [{ m with due := c.ucyc + 24 + m.arrayTime }] })

/-- Abandon every command of a context that has not committed (R178): no commit, no replay entry, its rows at the port
discarded. -/
def State.stopMatrix (s : State) (who : Nat) : State :=
  let mine := (s.me.cmds.filter (fun m => m.ctx = who)).map MCmd.id
  let drop := fun (l : List Pend) => l.filter (fun e => !e.writes.any (fun w => match w with
    | .commit i => mine.contains i
    | _ => false))
  s.updCore (fun c =>
    let x := c.ctx who
    let c1 := c.setCtx who { x with pend := drop x.pend, replay := drop x.replay }
    { c1 with cmds := c1.cmds.filter (fun m => m.ctx ≠ who)
              port := c1.port.map (fun p => if p.ctx = who then { p with dropped := true } else p) })

/-- The accumulator format of MZERO's fl (R176). -/
def zeroFmt (f : BitVec 2) : AccFmt := if f = 0 then .i32 else if f = 1 then .f32 else .f64

/-- The checks of MLAT (R177). -/
def checkMlat (s : State) (u : BitVec 5) (a : BitVec 4) (l : BitVec 2) : Option (Cause × DWord) :=
  let v := s.ctx.rs u
  if v.extractLsb' 2 30 ≠ 0 ∨ v.extractLsb' 0 2 = 3 ∨ lfmtValid (s.ctx.rlfmt l.toNat) = false then some (.illegal, 0)
  else if v = 1 then
    if (s.ctx.ra a).toNat % 2 ≠ 0 then some (.align, s.ctx.ra a)
    else if Config.aSize ≤ (s.ctx.ra a).toNat then some (.abound, s.ctx.ra a) else none
  else none

/-- MCFG writes the matrix configuration; a word that names no operand pair traps ILLEGAL (R166). -/
def actMcfg (g : BitVec 4) (u : BitVec 5) : Act :=
  { guard := g
    uses := [.s u]
    check := fun s => if cfgValid (s.ctx.rs u) then none else some (.illegal, 0)
    perform := fun _ s0 s => s.updCtx (fun x => { x with mcfg := s0.ctx.rs u }) }

/-- MCFG (R166), alone in its bundle. -/
def execMcfg (g : BitVec 4) (u : BitVec 5) (s : State) : Out := runAlone (.mcfg g u) (actMcfg g u) s

/-- MCFG.r writes the readout scale, any FP32 value (R166). -/
def actMcfgR (g : BitVec 4) (u : BitVec 5) : Act :=
  { guard := g
    uses := [.s u]
    perform := fun _ s0 s => s.updCtx (fun x => { x with mscale := s0.ctx.rs u }) }

/-- MCFG_R (R166), alone in its bundle. -/
def execMcfgR (g : BitVec 4) (u : BitVec 5) (s : State) : Out := runAlone (.mcfgR g u) (actMcfgR g u) s

/-- MMA issues a command that walks its nest and commits at c+24+Q*p (R172, R180). With BSRC = 2 the field ab is reserved and
must be 0, as every reserved field, at decode (R20). -/
def actMma (g : BitVec 4) (c : BitVec 6) (n : BitVec 3) (a b : BitVec 4) (u : BitVec 3) (f : BitVec 1) : Act :=
  { guard := g
    uses := [.a a]
    usesMem := fun st => if cfgBsrc st.ctx.mcfg ≠ 2 ∧ st.ctx.poisoned (.a b) = true then some 0 else none
    banned := fun st => decide (cfgBsrc st.ctx.mcfg = 2 ∧ b ≠ 0)
    check := fun st => checkMma st c.toNat (st.ctx.rn n.toNat) a b (u.toNat + 1) (f = 1)
    hold := arrayHold true
    perform := fun _ s0 st =>
      let x := s0.ctx
      let nest := x.rn n.toNat
      let p := pairOf x.mcfg
      let step := restartStep x c.toNat 0
      let q := mmaChunks nest (u.toNat + 1) p.1
      let m := newCmd s0 .mma c.toNat nest a b (f = 1 || step.isSome)
      (st.updCtx (fun y => y.clearRestart step)).issueCmd
        { m with id := st.me.seq, levels := u.toNat + 1, period := p.2.1, total := q, skip := step.getD 0,
                 arrayTime := (q - step.getD 0) * p.2.1 } }

/-- MMA (R172), alone in its bundle. -/
def execMma (g : BitVec 4) (c : BitVec 6) (n : BitVec 3) (a b : BitVec 4) (u : BitVec 3) (f : BitVec 1) (s : State) : Out := runAlone (.mma g c n a b u f) (actMma g c n a b u f) s

/-- MMAS issues a block-sparse command (R175); the barrier's address in the descriptor is an address that it consumes (R393). Bytes 8 to 15
of the descriptor and bits [31:1] of its second word are not looked at (DESIGN CHOICE, Log 64). -/
def actMmas (g : BitVec 4) (c : BitVec 6) (n : BitVec 3) (a b : BitVec 4) (u : BitVec 3) (f : BitVec 1) : Act :=
  { guard := g
    uses := [.a a, .a b, .a (8 + u.setWidth 4)]
    usesMem := fun st =>
      let d := st.ctx.ra (8 + u.setWidth 4)
      if (checkS d 16 4).isNone && st.me.wordPoison d.toNat then some d else none
    check := fun st => checkMmas st c.toNat (st.ctx.rn n.toNat) a b u (f = 1)
    hold := arrayHold false
    perform := fun _ s0 st =>
      let x := s0.ctx
      let nest := x.rn n.toNat
      let p := pairOf x.mcfg
      let d := (x.ra (8 + u.setWidth 4)).toNat
      let sk := skipBytes s0.me d (nestCount nest 0)
      let per := (8 + p.1 - 1) / p.1
      let q := (sk.filter (fun b => b ≠ 0)).length * per
      let m := newCmd s0 .mmas c.toNat nest a b (f = 1)
      st.issueMmas { m with id := st.me.seq, period := p.2.1, total := q, arrayTime := q * p.2.1, skips := sk,
                            poison := if skipPoison s0.me d (nestCount nest 0) then (List.range 4096).map (fun e => (e, true)) else [],
                            barrier := (s0.me.rWord d).toNat, event := (s0.me.rWord (d + 4)).getLsbD 0 } }

/-- MMAS (R175), alone in its bundle. -/
def execMmas (g : BitVec 4) (c : BitVec 6) (n : BitVec 3) (a b : BitVec 4) (u : BitVec 3) (f : BitVec 1) (s : State) : Out := runAlone (.mmas g c n a b u f) (actMmas g c n a b u f) s

/-- The attributes of the pages of rows, as they stand at issue (R257). -/
def Core.attrsOf (c : Core) (rows : List DWord) : Map Word :=
  rows.foldl (fun m r => m.put (r.toNat / 2048) (c.attrOf r.toNat)) []

/-- MMV streams weight rows from W-space (R174), under the attributes that stand at issue (R257). -/
def actMmv (g : BitVec 4) (c : BitVec 6) (n : BitVec 3) (a b : BitVec 4) (f : BitVec 1) : Act :=
  { guard := g
    uses := [.a a, .a b]
    check := fun st => checkMmv st c.toNat (st.ctx.rn n.toNat) a b (f = 1)
    hold := arrayHold true
    perform := fun _ s0 st =>
      let x := s0.ctx
      let nest := x.rn n.toNat
      let p := pairOf x.mcfg
      let step := restartStep x c.toNat 1
      let rows := nestCount nest 1 * mmvPer x.mcfg nest
      let rpc := (nestCount nest 2 * rowElems (cfgB x.mcfg) + p.2.2 - 1) / p.2.2
      let m := newCmd s0 .mmv c.toNat nest a b (f = 1 || step.isSome)
      (st.updCtx (fun y => y.clearRestart step)).issueCmd
        { m with id := st.me.seq, period := rpc, total := rows, skip := step.getD 0,
                 attrs := s0.me.attrsOf (mmvRows nest (x.ra b) (mmvPer x.mcfg nest)),
                 arrayTime := (rows - step.getD 0) * rpc, rowsUsed := nestCount nest 2, colsUsed := nestCount nest 1 } }

/-- MMV (R174), alone in its bundle. -/
def execMmv (g : BitVec 4) (c : BitVec 6) (n : BitVec 3) (a b : BitVec 4) (f : BitVec 1) (s : State) : Out := runAlone (.mmv g c n a b f) (actMmv g c n a b f) s

/-- MZERO zeroes tiles and sets their format and readout scale (R176). -/
def actMzero (g : BitVec 4) (c : BitVec 6) (u : BitVec 3) (f : BitVec 2) : Act :=
  { guard := g
    check := fun st => if tilesAllocated st.ctx c.toNat (u.toNat + 1) then none
      else some (.prot, Config.freeInfo st.wall st.cur)
    perform := fun _ s0 st => st.emit 1 ((List.range (u.toNat + 1)).map (fun i =>
      .mzero (s0.ctx.phys (c.toNat + i)) (zeroFmt f) s0.ctx.mscale)) }

/-- MZERO (R176), alone in its bundle. -/
def execMzero (g : BitVec 4) (c : BitVec 6) (u : BitVec 3) (f : BitVec 2) (s : State) : Out := runAlone (.mzero g c u f) (actMzero g c u f) s

/-- MLAT sets the binding and copies the LFMT value (R177). -/
def actMlat (g : BitVec 4) (u : BitVec 5) (a : BitVec 4) (l : BitVec 2) : Act :=
  { guard := g
    uses := [.s u, .a a]
    check := fun st => checkMlat st u a l
    perform := fun _ s0 st =>
      let x := s0.ctx
      let mode := (x.rs u).extractLsb' 0 2
      st.updCtx (fun y => { y with
        mlat := (l ++ mode ++ (x.rlfmt l.toNat).extractLsb' 0 8).setWidth 32
        mlatBase := if mode = 1 then x.ra a else 0 }) }

/-- MLAT (R177), alone in its bundle. -/
def execMlat (g : BitVec 4) (u : BitVec 5) (a : BitVec 4) (l : BitVec 2) (s : State) : Out := runAlone (.mlat g u a l) (actMlat g u a l) s

/-- MSTOP abandons the context's commands and clears CX_ROWPROG (R178). -/
def actMstop (g : BitVec 4) : Act :=
  { guard := g
    perform := fun _ s0 st => (st.stopMatrix s0.who).updCtx (fun x => { x with rowProg := 0 }) }

/-- MSTOP (R178), alone in its bundle. -/
def execMstop (g : BitVec 4) (s : State) : Out := runAlone (.mstop g) (actMstop g) s


end Sys2Proof.Machine
end

