-- ==== Sys2Proof/Machine/Memory.lean ====
section
/-! DEFINITION. G-space and H-space (R288, R289, R304 to R311, R392, R395): bytes and poison, writes that are not yet
visible to other cores, staged writes, and the checks of physical addresses. -/
namespace Sys2Proof.Machine
open Sys2Proof

/-! ### Visible memory -/

/-- The end of the package's memory (R289). -/
def gEnd : Nat := 0x18000000000

/-- The bytes of a little-endian number. -/
def bytesOf (v : Nat) : Nat → List Byte
  | 0 => []
  | n + 1 => BitVec.ofNat 8 v :: bytesOf (v / 256) n

/-- The little-endian number of bytes. -/
def natOfBytes : List Byte → Nat
  | [] => 0
  | b :: rest => b.toNat + 256 * natOfBytes rest

/-- The canonical form of a memory of bytes (DESIGN CHOICE, Log 2): addresses strictly rising, and no entry equal to what an unlisted address
reads as. -/
def Memory.wf (m : Map Byte) : Bool := Map.memWf 0 m

/-- A byte of G-physical memory as its line holds it, wherever the line is: also where an atomic that is not visible yet has
written (R310). -/
def State.gStored (s : State) (pa : Nat) : Byte := s.gmem.get 0 pa

/-- Read a visible byte of G-physical memory: every agent outside a core reads the word of an atomic as it was until the instant in
which every such agent sees it (R310). -/
def State.gByte (s : State) (pa : Nat) : Byte :=
  match s.amoHeld.find? (fun h => h.addr = pa / 4 * 4) with
  | some h => h.old.extractLsb' (8 * (pa % 4)) 8
  | none => s.gStored pa

/-- Read `n` visible bytes. -/
def State.gBytes (s : State) (pa n : Nat) : List Byte := (List.range n).map (fun i => s.gByte (pa + i))

/-- Read `n` visible bytes as a little-endian number (R51). -/
def State.gNat (s : State) (pa n : Nat) : Nat := natOfBytes (s.gBytes pa n)

/-- A 128-byte line is poisoned while any of its words is (R392). -/
def linePoison (m : Map Bool) (pa : Nat) : Bool := (List.range 32).any (fun i => m.get false (pa / 128 * 32 + i))

/-- Write bytes to a memory map from an address on. -/
def putBytes (m : Map Byte) (a : Nat) : List Byte → Map Byte
  | [] => m
  | b :: rest => putBytes (m.write 0 a b) (a + 1) rest

/-- Clear the marks of the whole words that `n` bytes from an address cover, or set the marks of all they touch. -/
def markWords (m : Map Bool) (a n : Nat) (poison : Bool) : Map Bool :=
  if poison then (List.range ((a % 4 + n + 3) / 4)).foldl (fun m i => m.write false (a / 4 + i) true) m
  else (List.range ((a % 4 + n) / 4)).foldl (fun m i => if i = 0 ∧ a % 4 ≠ 0 then m else m.write false (a / 4 + i) false) m

/-- The Pavilion, the Lodge, the KV engine and the host write visible bytes in one step; lines another core held dirty
are written back first. -/
def State.gPut (s : State) (pa : Nat) (bs : List Byte) (poison : Bool := false) : State :=
  { s with gmem := putBytes s.gmem pa bs, gpoison := markWords s.gpoison pa bs.length poison,
           amoHeld := s.amoHeld.filter (fun h => ¬ (pa / 4 ≤ h.addr / 4 ∧ h.addr / 4 ≤ (pa + bs.length - 1) / 4)),
           cores := s.cores.map (fun c => (c.1, { c.2 with dirty := c.2.dirty.filter (fun d =>
             ¬ (pa / 128 ≤ d.1 / 128 ∧ d.1 / 128 ≤ (pa + bs.length - 1) / 128)) })) }

/-- Write a number of `n` bytes. -/
def State.gPutNat (s : State) (pa v n : Nat) : State := s.gPut pa (bytesOf v n)

/-! ### Work-queue headers at their home slice (R365, R366) -/

/-- The bytes an aligned word write leaves, given the word that stood. -/
def mergeWord (old : Word) (mask : BitVec 4) (v : Word) : Word :=
  let m : Word := (List.range 4).foldl (fun m i => if mask.getLsbD i then m ||| (0xFF#32 <<< (8 * i)) else m) 0
  (old &&& ~~~m) ||| (v &&& m)

/-- A page of the partition's table as the walk of R294 finds it: entry fields (R293). -/
structure PageEntry where
  v : Bool
  leaf : Bool
  w : Bool
  u : Bool
  mig : Bool
  sus : Bool
  cmp : Bool
  x : Bool
  pkg : Nat
  addr : Nat
  low : Nat
  deriving DecidableEq, Repr

/-- Decode a page-table entry (R293). -/
def pageEntry (e : DWord) : PageEntry :=
  { v := e.getLsbD 63, leaf := e.getLsbD 62, w := e.getLsbD 61, u := e.getLsbD 60, mig := e.getLsbD 59,
    sus := e.getLsbD 58, cmp := e.getLsbD 57, x := e.getLsbD 56, pkg := (e.extractLsb' 44 12).toNat,
    addr := (e.extractLsb' 8 36).toNat * 256, low := (e.extractLsb' 0 8).toNat }

/-- The log2 of what a leaf at a level maps; the log2 of the node that a pointer at a level names (R292). -/
def leafLog2 (level : Nat) : Nat := if level = 2 then 30 else if level = 1 then 21 else 16
/-- The log2 of the node size of a level (R292). -/
def nodeLog2 (level : Nat) : Nat := if 2 ≤ level then 14 else if level = 1 then 12 else 8
/-- The index of a level in a virtual address (R292). -/
def levelIndex (level va : Nat) : Nat :=
  if level = 3 then va / 2 ^ 41 % 2048 else if level = 2 then va / 2 ^ 30 % 2048
  else if level = 1 then va / 2 ^ 21 % 512 else va / 2 ^ 16 % 32

/-- A valid entry that is malformed (R293). -/
def PageEntry.malformed (e : PageEntry) (level : Nat) : Bool :=
  decide (e.low ≠ 0) || (decide (e.pkg ≠ 0) && !e.x) || (e.leaf && decide (level = 3)) || (!e.leaf && decide (level = 0))
    || decide (e.addr % 2 ^ (if e.leaf then leafLog2 level else nodeLog2 (level - 1)) ≠ 0)
    || (!e.leaf && (e.w || e.u || e.cmp))

/-- What a walk finds (R294). -/
inductive WalkFound where
  /-- A leaf: whether it is migrating, and whether it lies in a package that the partition may not reach. -/
  | page (p : PageHold) (mig barred : Bool)
  | invalid (entry level : Nat)
  | migrating (entry : Nat)
  | fault (c : Cause)
  deriving DecidableEq, Repr

/-- A partition's block. -/
def State.part (s : State) (p : Nat) : Partition := s.parts.get {} p

/-- Package k is reachable for a partition from its lock on (R409, R427); the package's own number always is. -/
def State.fabricAllows (s : State) (p k : Nat) : Bool :=
  decide (k = Config.packageNumber) || (decide ((s.part p).state ≠ 0) && ((s.part p).fabpkg.get 0 (k / 64)).getLsbD (k % 64))

/-- Eight bytes of another package's memory: its own business (free). -/
def State.remoteNat (s : State) (pa n : Nat) : Nat :=
  natOfBytes ((List.range n).map (fun i => Config.freeByteAt s.free (pa + i)))

/-- A physical address lies in a partition's 1 GiB ranges (R289, R409). -/
def State.inPart (s : State) (p pa : Nat) : Bool :=
  let m := (s.part p).mem
  let first := (m.extractLsb' 0 11).toNat
  decide (first * 2 ^ 30 ≤ pa ∧ pa < (first + (m.extractLsb' 16 11).toNat) * 2 ^ 30)

/-- The check of a physical address (R289, R291): nothing beyond memory, and the partition's ranges. Addresses in another package are
held to the same bound and ranges (DEDUCED, Log 57). -/
def State.checkPa (s : State) (p pa : Nat) : Option Cause :=
  if gEnd ≤ pa then some .xlate else if s.inPart p pa then none else some .partition

/-- The check of a range of physical addresses: its end, then its beginning; a partition's ranges have no gap. -/
def State.checkRange (s : State) (p lo hi : Nat) : Option Cause :=
  match s.checkPa p hi with
  | some c => some c
  | none => s.checkPa p lo

/-- The number by which walks and monitors know an entry: its address here, and numbers of their own for the entries of another
package. -/
def entryName (pkg : Option Nat) (a : Nat) : Nat :=
  match pkg with
  | none => a
  | some k => (k + 1) * 2 ^ 64 + a

/-- The other package that an entry names, if it names one (R294). -/
def PageEntry.away (e : PageEntry) : Option Nat := if e.x && e.pkg != Config.packageNumber then some e.pkg else none

/-- Read the entry of a node at an address, here or in another package. -/
def State.entryAt (s : State) (pkg : Option Nat) (a : Nat) : PageEntry :=
  pageEntry (BitVec.ofNat 64 (if pkg.isSome then s.remoteNat a 8 else s.gNat a 8))

/-- Walk from a node of a level down (R292 to R294): each entry's own address is checked, and the cases come in the order of R294. -/
def State.walkFrom (s : State) (part va node : Nat) (pkg : Option Nat) (level : Nat) : WalkFound :=
  let a := node + 8 * levelIndex level va
  let e := s.entryAt pkg a
  let k := leafLog2 level
  let barred := e.x && !s.fabricAllows part e.pkg
  match s.checkRange part a (a + 7) with
  | some c => .fault c
  | none =>
    if !e.v then .invalid (entryName pkg a) level
    else if e.malformed level then .fault .xlate
    else if e.leaf then
      .page { va := va / 2 ^ k * 2 ^ k, pa := e.addr, log2 := k, write := e.w, user := e.u, entry := entryName pkg a, pkg := e.away }
        e.mig barred
    else if e.mig then .migrating (entryName pkg a)
    else if barred then .fault .partition
    else match level with
      | 0 => .fault .xlate
      | below + 1 => s.walkFrom part va e.addr e.away below

/-- The walk of a virtual address in a partition's table (R294). -/
def State.walkPage (s : State) (part va : Nat) : WalkFound :=
  s.walkFrom part va (s.part part).ptroot.toNat none 3

/-- The 64 bytes of a payload; its layout is not given (R426). -/
def flitPayload (cls addr : Nat) (bytes : List Byte) : List Byte := (List.range 64).map (Config.flitCode cls addr bytes)

/-- A flit that no operation's stream orders is put to the ports (R426, Log 63). -/
def State.postFlit (s : State) (part dest cls addr : Nat) (bytes : List Byte) : State :=
  { s with flitsDue := s.flitsDue ++ [{
      header := { source := Config.packageNumber, dest := dest, part := part, cls := cls, stream := 0 }
      payload := flitPayload cls addr bytes }] }

/-- The flits of a walk's reads of nodes in other packages (R294, R426). -/
def State.postReads (s : State) (part va node : Nat) (pkg : Option Nat) (level : Nat) : State :=
  let a := node + 8 * levelIndex level va
  let e := s.entryAt pkg a
  if (s.checkRange part a (a + 7)).isSome then s
  else
    let t := match pkg with
      | some k => s.postFlit part k 0 a []
      | none => s
    if !e.v || e.malformed level || e.leaf || e.mig || (e.x && !s.fabricAllows part e.pkg) then t
    else match level with
      | 0 => t
      | below + 1 => t.postReads part va e.addr e.away below

/-- The address a virtual address has through a partition's page table only, as far as it is mapped now (R365, R368):
for the queues and for the Pavilion, which wait for no service; and the package whose memory it is, where that is another. -/
def State.pagePlace (s : State) (part va : Nat) : Option (Nat × Option Nat) :=
  match s.walkPage part va with
  | .page p _ _ =>
    let pa := p.pa + va % 2 ^ p.log2
    if p.pkg.isNone && (s.checkPa part pa).isSome then none else some (pa, p.pkg)
  | _ => none

/-- The address in this package's memory. -/
def State.pageAddr (s : State) (part va : Nat) : Option Nat :=
  match s.pagePlace part va with
  | some (pa, none) => some pa
  | _ => none

/-- Bytes of a virtual range through the page table only; `none` where a byte cannot be read. -/
def State.pageBytes (s : State) (part va : Nat) : Nat → Option (List Byte)
  | 0 => some []
  | n + 1 => match s.pageAddr part va, s.pageBytes part (va + 1) n with
    | some pa, some rest => some (s.gByte pa :: rest)
    | _, _ => none

/-- Write bytes of a virtual range through the page table; unmapped bytes are dropped. -/
def State.pagePut (s : State) (part va : Nat) : List Byte → State
  | [] => s
  | b :: rest => (match s.pageAddr part va with
      | some pa => s.gPut pa [b]
      | none => s).pagePut part (va + 1) rest

/-- The physical address of a queue's header, if it is mapped. -/
def State.queueHeader (s : State) (q : QueueReg) : Option Nat := s.pageAddr q.part q.base

/-- A live queue whose TAIL word lies at a physical address. -/
def State.tailAt (s : State) (pa : Nat) : Option QueueReg :=
  (s.queues.find? (fun q => q.2.live && decide (s.queueHeader q.2 = some (pa - 4) ∧ 4 ≤ pa))).map Prod.snd

/-- One aligned word becomes visible to all agents (R310): a store of a queue's TAIL is accepted only when it is the
current TAIL plus 1, and otherwise sets ERR (R366). `rank` is the core whose L1 holds the line from then on. -/
def State.gWord (s : State) (rank : Option Nat) (pa : Nat) (mask : BitVec 4) (v : Word) (poison : Bool) : State :=
  let old := BitVec.ofNat 32 (natOfBytes ((List.range 4).map (fun i => s.gStored (pa + i))))
  match (if mask = 15 then s.tailAt pa else none) with
  | some _ =>
    if v = old + 1 then s.gPut pa (bytesOf v.toNat 4) poison
    else s.gPut (pa + 7) [s.gByte (pa + 7) ||| 4]
  | none =>
    let s1 := s.gPut pa (bytesOf (mergeWord old mask v).toNat 4) false
    let s2 := { s1 with gpoison := if poison then s1.gpoison.write false (pa / 4) true
                                   else if mask = 15 then s1.gpoison.write false (pa / 4) false else s.gpoison }
    match rank with
    | none => s2
    | some r =>
      let was := (s.core r).dirty
      let mark := match (List.range 4).findSome? (fun i => was.find (pa / 4 * 4 + i)) with
        | some b => b.2
        | none => s.gpoison.get false (pa / 4)
      s2.setCore r { s2.core r with dirty := (List.range 4).foldl (fun d i =>
        if mask.getLsbD i && (d.find (pa + i)).isNone then d.put (pa + i) (s.gStored (pa + i), mark) else d) was }

/-! ### A core's own view (R310, R395) -/

/-- The latest write of a list to a byte. -/
def lastWrite (l : List GWrite) (pa : Nat) : Option (Byte × Bool) :=
  l.foldl (fun r w => if w.addr = pa / 4 * 4 ∧ w.mask.getLsbD (pa % 4) then
    some (w.val.extractLsb' (8 * (pa % 4)) 8, w.poison) else r) none

/-- The region that the staged writes of a region belong to now (R396). -/
def State.regionNow (s : State) (r : Nat) : Nat :=
  s.merged.foldl (fun r m => if m.1 = r then m.2 else r) r

/-- The writes that a context has staged and that stand (R395). -/
def State.stagedOf (s : State) (tag : Nat) : List GWrite :=
  s.staged.filter (fun w => w.tag = tag && !s.unwinding.contains (s.regionNow w.region))

/-- What an operation of a context reads at a G-physical byte: its own staged writes, then its core's writes, then memory;
and whether it is poisoned. -/
def State.gSeen (s : State) (rank tag pa : Nat) : Byte × Bool :=
  match lastWrite (s.stagedOf tag) pa with
  | some r => r
  | none => match lastWrite (s.core rank).gbuf pa with
    | some r => r
    | none => match s.amoHeld.find? (fun h => h.rank ≠ rank ∧ h.addr = pa / 4 * 4) with
      | some h => (h.old.extractLsb' (8 * (pa % 4)) 8, h.poison)
      | none => (s.gStored pa, linePoison s.gpoison pa)

/-- The atomics of a core on some streams are visible to every core. -/
def State.releaseAmos (s : State) (rank : Nat) (keys : List Nat) : State :=
  { s with amoHeld := s.amoHeld.filter (fun h => ¬ (h.rank = rank ∧ h.streams.any (fun k => keys.contains k) = true)) }

/-- A write may become visible next: no earlier write of its core is to the same word, or of an earlier operation of one
of its streams (R183, R308). -/
def flushable (l : List GWrite) (i : Nat) : Bool :=
  match l[i]? with
  | none => false
  | some w => (l.take i).all (fun e => decide (e.addr ≠ w.addr) &&
      (decide (e.op = w.op) || !e.streams.any (fun k => w.streams.contains k)))

/-- One write of a core becomes visible. -/
def State.flushAt (s : State) (rank i : Nat) : State :=
  let c := s.core rank
  match c.gbuf[i]? with
  | none => s
  | some w => ((s.releaseAmos rank w.streams).setCore rank { c with gbuf := c.gbuf.eraseIdx i }).gWord (some rank) w.addr w.mask w.val w.poison

/-- The writes that must be visible before those of some streams are: theirs, and every earlier one to the same word or of
a stream of one of these; each write with whether it is one. -/
def flushNeeded (keys : List Nat) : List GWrite → List (GWrite × Bool) × List Nat × List Nat
  | [] => ([], keys, [])
  | w :: rest =>
    let r := flushNeeded keys rest
    if w.streams.any (fun k => r.2.1.contains k) || r.2.2.contains w.addr then
      ((w, true) :: r.1, w.streams ++ r.2.1, w.addr :: r.2.2)
    else ((w, false) :: r.1, r.2.1, r.2.2)

/-- Every write of a core that one of some streams orders becomes visible, in the order they were made (R308). -/
def State.flushStreams (s : State) (rank : Nat) (keys : List Nat) : State :=
  let r := flushNeeded keys (s.core rank).gbuf
  let l := r.1
  ((l.filter Prod.snd).map Prod.fst).foldl (fun s w => s.gWord (some rank) w.addr w.mask w.val w.poison)
    ((s.releaseAmos rank r.2.1).setCore rank { s.core rank with gbuf := (l.filter (fun w => !w.2)).map Prod.fst })

/-- Every covered write and atomic of a core becomes visible: another core reads this core's own spaces (R308, DESIGN CHOICE, Log 7). -/
def State.flushCovered (s : State) (rank : Nat) : State :=
  s.flushStreams rank (((s.core rank).gbuf.filter GWrite.covered).flatMap GWrite.streams
    ++ (s.amoHeld.filter (fun h => decide (h.rank = rank) && h.covered)).flatMap AmoHold.streams)

/-- The streams of a core's writes and atomics that touch a range of G-physical memory and are not visible to other cores yet. -/
def State.unseenIn (s : State) (rank a n : Nat) : List Nat :=
  let hit := fun (w : Nat) => decide (w < a + n ∧ a < w + 4)
  ((s.core rank).gbuf.filter (fun w => hit w.addr)).flatMap GWrite.streams
    ++ (s.amoHeld.filter (fun h => decide (h.rank = rank) && hit h.addr)).flatMap AmoHold.streams

/-- An agent outside the cores takes a range at its home slices to change it: what any core has written there is recalled first, with what
its streams order before it (R308, R310, R311). -/
def State.recall (s : State) (a n : Nat) : State :=
  s.cores.foldl (fun t c => if t.unseenIn c.1 a n = [] then t else t.flushStreams c.1 (t.unseenIn c.1 a n)) s

/-- Every atomic becomes visible: the KV engine takes its tables to change them (R311, R347). -/
def State.recallAtomics (s : State) : State := s.amoHeld.foldl (fun t h => t.flushStreams h.rank h.streams) s

/-- What a core's own later operations find in G-space: its own writes and atomics too (R308, R310). Its page walks, and its checks of
handles at issue, look here. -/
def State.ownView (s : State) (rank : Nat) : State :=
  if s.unseenIn rank 0 (2 ^ 64) = [] then s else s.flushStreams rank (s.unseenIn rank 0 (2 ^ 64))

/-- A stream of a core has an effect in the core's own spaces, its W-space or its barrier objects: what it and the streams joined
to it wrote before is covered by it (R308). -/
def State.cover (s : State) (rank : Nat) (keys : List Nat) : State :=
  let c := s.core rank
  ({ s with amoHeld := s.amoHeld.map (fun (h : AmoHold) =>
      if h.rank = rank ∧ h.streams.any (fun k => keys.contains k) = true then { h with covered := true } else h) } : State).setCore rank
    { c with gbuf := c.gbuf.map (fun (w : GWrite) => if w.streams.any (fun k => keys.contains k) then { w with covered := true } else w) }

/-- Split bytes from an address into aligned words: (address, mask, value, poison of some byte). -/
def splitWords (a : Nat) (bs : List (Byte × Bool)) : List (Nat × BitVec 4 × Word × Bool) :=
  (List.range ((a % 4 + bs.length + 3) / 4)).map (fun i =>
    let base := a / 4 * 4 + 4 * i
    let at_ := fun (j : Nat) => if a ≤ base + j then bs[base + j - a]? else none
    (base, BitVec.ofNat 4 ((List.range 4).foldl (fun m j => if (at_ j).isSome then m + 2 ^ j else m) 0),
      BitVec.ofNat 32 ((List.range 4).foldl (fun v j => v + ((at_ j).map (fun b => b.1.toNat)).getD 0 * 256 ^ j) 0),
      (List.range 4).any (fun j => ((at_ j).map Prod.snd).getD false)))

/-! ### H-space (R423) -/

/-- A byte of H-space as a read finds it: what this package last wrote, unless the host has written it since (free). -/
def State.hSeen (s : State) (a : Nat) : Byte × Bool :=
  if Config.freeBool s.free then (s.hmem.get 0 a, linePoison s.hpoison a)
  else (Config.freeByteAt s.free a, false)

/-- A range of H-space lies in one host window of a partition in RUN (R415, R423). -/
def State.inWindow (s : State) (p a n : Nat) : Bool :=
  let q := s.part p
  decide (q.state = 2) && (List.range 4).any (fun i =>
    let base := (q.bases.getD i 0).toNat
    let size := (q.sizes.getD i 0).toNat
    decide (size ≠ 0 ∧ base ≤ a ∧ a + n ≤ base + size))

end Sys2Proof.Machine
end

