-- ==== Sys2Proof/Machine/Translate.lean ====
section
/-! DEFINITION. Translation of G-virtual addresses (R290 to R298): the heap window, page-table walks and their slots,
monitors, and the requests they send to ctxS. -/
namespace Sys2Proof.Machine
open Sys2Proof

/-- A window address and its physical address (R290, R291). -/
def Heap.lookup (h : Heap) (va : Nat) : Option Nat :=
  if h.base.toNat ≤ va ∧ va < h.base.toNat + h.lim.toNat ∧ va < 2 ^ 52 then some ((va + h.off.toNat) % 2 ^ 52) else none

/-- What a translation answers. -/
inductive Trans where
  | ok (pa : Nat) (pkg : Option Nat)
  | wait
  | fault (c : Cause)
  deriving DecidableEq, Repr

/-- Use a translated page (R294): U, W, and the physical address. -/
def State.usePage (s : State) (part : Nat) (priv : Bool) (p : PageHold) (va : Nat) (write : Bool) : Trans :=
  if !priv && !p.user then .fault .prot
  else if write && !p.write then .fault .prot
  else
    let pa := p.pa + va % 2 ^ p.log2
    match s.checkPa part pa with
    | some c => .fault c
    | none => .ok pa p.pkg

/-- The page covers an address. -/
def PageHold.covers (p : PageHold) (va : Nat) : Bool := decide (p.va ≤ va ∧ va < p.va + 2 ^ p.log2)

/-- Who asks for a translation: the core, the unit (R297), the operation, the slot, partition, privilege and window. -/
structure Asker where
  rank : Nat
  unit : Nat
  op : Nat
  ctx : Nat
  part : Nat
  priv : Bool
  heap : Heap
  deriving DecidableEq, Repr

/-- The walk is the asker's. -/
def PageWalk.isFor (w : PageWalk) (a : Asker) : Bool := decide (w.core = a.rank ∧ w.unit = a.unit ∧ w.op = a.op)

/-- Translate an address for an operation that has already translated some pages (R291, R294, R295): the answer, the state,
and the pages it now holds. A miss starts a walk; the asker asks again until the walk ends. A walk that has failed is the fault of
its own page only. A write to a page that the asker has read while a migration copied it walks anew, and waits at the entry; the asker is a
reader of the source no longer (R300; DEDUCED, Log 68). -/
def State.translate (s : State) (a : Asker) (pages : List PageHold) (va : Nat) (write : Bool) :
    Trans × State × List PageHold :=
  if 2 ^ 52 ≤ va then (.fault .xlate, s, pages)
  else match a.heap.lookup va with
    | some pa => (match s.checkPa a.part pa with
        | some c => .fault c
        | none => .ok pa none, s, pages)
    | none =>
      let pages := pages.filter (fun p => !(write && p.copying && p.covers va))
      match pages.find? (fun p => p.covers va) with
      | some p => (s.usePage a.part a.priv p va write, s, pages)
      | none => match s.walks.find? (fun w => w.isFor a) with
        | none => (.wait, { s with
            walkOrder := s.walkOrder + 1
            walks := s.walks ++ [{ core := a.rank, unit := a.unit, op := a.op, ctx := a.ctx, part := a.part, va := va,
                                   write := write, order := s.walkOrder, state := .queued }] }, pages)
        | some w =>
          let gone := { s with walks := s.walks.filter (fun v => !v.isFor a) }
          match w.state with
          | .done p =>
            if write && p.copying then (.wait, gone, pages)
            else if p.covers va then (s.usePage a.part a.priv p va write, gone, p :: pages) else (.wait, gone, p :: pages)
          | .failed c => if w.va / 65536 = va / 65536 then (.fault c, gone, pages) else (.wait, s, pages)
          | _ => (.wait, s, pages)

/-- A page whose entry a migration holds is being copied: reads proceed from the source (R300). -/
def State.migCopying (s : State) (entry : Nat) : Bool :=
  s.cores.any (fun c => c.2.ops.any (fun o => match o.kind with
    | .migr src _ _ => o.begun && decide (o.stage = 1 ∧ src.toNat % 2 ^ 52 = entry)
    | _ => false))

/-- The die of a core (R3, R361). -/
def dieOf (rank : Nat) : Nat := rank / 64

/-- Lines a die's monitors watch (R297). -/
def State.monitorLines (s : State) (die : Nat) : List Nat :=
  dedupNat (s.walks.filterMap (fun w => match w.state with
    | .monitor e _ => if dieOf w.core = die then some (e / 64) else none
    | _ => none))

/-- Watch an entry, or repeat later when the die has no monitor free (R297). -/
def State.watch (s : State) (rank entry : Nat) (mig : Bool) : WalkState :=
  let lines := s.monitorLines (dieOf rank)
  if lines.contains (entry / 64) ∨ lines.length < 256 then .monitor entry mig else .retry 1024

/-- Replace the state of a walk. -/
def State.setWalk (s : State) (order : Nat) (st : WalkState) : State :=
  { s with walks := s.walks.map (fun w => if w.order = order then { w with state := st } else w) }

/-- Put a service request in a core's queue of 16 (R234); `none` when it is full and the producer waits. -/
def State.askService (s : State) (rank : Nat) (r : SvcReq) : Option State :=
  let c := s.core rank
  if c.svcQueue.length < 16 then some (s.setCore rank { c with svcQueue := c.svcQueue ++ [r] }) else none

/-- The kind 1 request of a walk that stopped at an invalid entry (R297). -/
def PageWalk.request (w : PageWalk) (s : State) (entry level : Nat) : SvcReq :=
  let pipe := decide (w.unit = 8 ∨ w.unit = 9)
  { kind := 1, slot := w.ctx, s3 := BitVec.ofNat 32 level, s4 := if w.write then 1 else 0, s5 := BitVec.ofNat 32 w.unit,
    s6 := BitVec.ofNat 32 w.part, a2 := BitVec.ofNat 64 w.va, entry := some entry,
    holds := pipe && decide ((s.core w.core).holder = some w.ctx), tag := ((s.core w.core).ctx w.ctx).tag }

/-- A later walk joins the request of an entry: s4 is 1 when any of them is a write (R297). -/
def Core.joinRequest (c : Core) (entry : Nat) (write : Bool) : Core :=
  { c with svcQueue := c.svcQueue.map (fun r => if r.entry = some entry ∧ write then { r with s4 := 1 } else r) }

/-- A request for an entry is outstanding on some core (R297). -/
def State.asked (s : State) (entry : Nat) : Bool :=
  let is := fun (r : SvcReq) => decide (r.entry = some entry)
  s.cores.any (fun c => c.2.svcQueue.any is || c.2.svc.any is)

/-- The walks that wait at an invalid entry. -/
def State.stoppedAt (s : State) (entry : Nat) : List PageWalk := s.walks.filter (fun w => decide (w.state = .monitor entry false))

/-- A walk stopped at the entry before this one, and its request still waits for room in its core's queue: it is the one that the shared
request describes (R297). -/
def State.askedBefore (s : State) (w : PageWalk) (entry : Nat) : Bool :=
  (s.stoppedAt entry).any (fun v => v.asks.isSome && decide (v.order ≠ w.order ∧ v.armed < w.armed))

/-- What a walk's request waits for. -/
def State.setAsks (s : State) (order : Nat) (level : Option Nat) : State :=
  { s with walks := s.walks.map (fun (w : PageWalk) => if w.order = order then { w with asks := level } else w) }

/-- The request of a walk that stopped at an invalid entry: shared with one that is outstanding or is to be sent first, sent, or left to
wait for room in the queue (R234, R297). -/
def State.walkAsk (s : State) (w : PageWalk) (entry level : Nat) : State :=
  if s.asked entry then
    { s with cores := s.cores.map (fun (c : Nat × Core) => (c.1, c.2.joinRequest entry w.write)) }.setAsks w.order none
  else if s.askedBefore w entry then s.setAsks w.order (some level)
  else match s.askService w.core { w.request s entry level with s4 := if (s.stoppedAt entry).any PageWalk.write then 1 else 0 } with
    | some s1 => s1.setAsks w.order none
    | none => s.setAsks w.order (some level)

/-- A walk that stopped at an invalid entry releases its slot, arms a monitor, and sends or shares one request (R297). -/
def State.stopAt (s : State) (w : PageWalk) (entry level : Nat) : State :=
  match s.watch w.core entry false with
  | .monitor e m =>
    let v := { w with state := .monitor e m, armed := s.walkOrder }
    let t := { s with walkOrder := s.walkOrder + 1, walks := s.walks.map (fun (x : PageWalk) => if x.order = w.order then v else x) }
    t.walkAsk v entry level
  | st => s.setWalk w.order st

/-- The requests of walks that have waited for room (R234, R297). -/
def State.walksAsk (s : State) : State :=
  s.walks.foldl (fun t w => match w.asks, w.state with
    | some level, .monitor e false => t.walkAsk w e level
    | _, _ => t) s

/-- A walk whose time is over reads the table, as the operations of its own core find it (R294, R296 to R298, R308); its reads of another
package's nodes leave as flits (R426). -/
def State.endWalk (s0 : State) (w : PageWalk) : State :=
  let s := s0.postReads w.part w.va (s0.part w.part).ptroot.toNat none 3
  match (s0.ownView w.core).walkPage w.part w.va with
  | .page p mig barred =>
    if mig && (w.write || !s.migCopying p.entry) then s.setWalk w.order (s.watch w.core p.entry true)
    else s.setWalk w.order (if barred then .failed .partition else .done { p with copying := mig })
  | .migrating e => s.setWalk w.order (s.watch w.core e true)
  | .fault c => s.setWalk w.order (.failed c)
  | .invalid e level => s.stopAt w e level

/-- WALK_COMPLETE (R296): requests that have waited are sent, and every walk whose time is over ends. -/
def State.walksComplete (s : State) : State :=
  s.walks.foldl (fun t w => if w.state = .running 0 then t.endWalk w else t) s.walksAsk

/-- The walks that run on a die. -/
def State.running (s : State) (die : Nat) : Nat :=
  (s.walks.filter (fun w => dieOf w.core = die ∧ (match w.state with | .running _ => true | _ => false) = true)).length

/-- Walk slots are given in arrival order, and running walks advance; how long a walk runs is free (R296, DESIGN CHOICE, Log 6). -/
def State.walksAdvance (s : State) : State :=
  s.walks.foldl (fun t w => match w.state with
    | .queued => if t.running (dieOf w.core) < 64 then
        { t with free := t.free + 1 }.setWalk w.order (.running (Config.freeNat t.free)) else t
    | .running (n + 1) => t.setWalk w.order (.running n)
    | _ => t) s

/-- WALK_RETRY (R297): a walk without a monitor begins again after 1,024 cycles. -/
def State.walksRetry (s : State) : State :=
  s.walks.foldl (fun t w => match w.state with
    | .retry 0 => t.setWalk w.order .queued
    | .retry (n + 1) => t.setWalk w.order (.retry n)
    | _ => t) s

/-- The watched entry is ready: valid, and not migrating for a walk that waits for a migration (R297, R298). When one of another
package is ready is that package's own business (free: the `i`th value from here). -/
def State.entryReady (s : State) (i entry : Nat) (mig : Bool) : Bool :=
  let e := s.entryAt none entry
  if 2 ^ 64 ≤ entry then Config.freeBool (s.free + i) else if mig then !e.mig else e.v

/-- MONITOR_WAKE (R297): when a watched entry of a line is ready, every walk that waits on the line begins again. -/
def State.monitorsWake (s : State) : State :=
  let ready := s.walks.zipIdx.filterMap (fun w => match w.1.state with
    | .monitor e m => if s.entryReady w.2 e m then some (e / 64) else none
    | _ => none)
  { s with
    free := s.free + s.walks.length
    walks := s.walks.map (fun w => match w.state with
      | .monitor e _ => if ready.contains (e / 64) then { w with state := .queued, asks := none } else w
      | _ => w) }

/-- The request for an entry has retired (R294, R297): every walk waiting for it begins again, or ends in XLATE when ctxS refused. -/
def State.answerEntry (s : State) (entry : Nat) (granted : Bool) : State :=
  { s with walks := s.walks.map (fun w =>
      if w.state = .monitor entry false then { w with asks := none, state := if granted then .queued else .failed .xlate } else w) }

/-- Walks whose operation or command is gone end. -/
def State.dropWalks (s : State) : State :=
  { s with walks := s.walks.filter (fun w =>
      if w.unit = 8 ∨ w.unit = 9 then (s.core w.core).cmds.any (fun m => m.id = w.op)
      else (s.core w.core).ops.any (fun o => o.id = w.op)) }

end Sys2Proof.Machine
end

