-- ==== Sys2Proof/Machine/Fabric.lean ====
section
/-! DEFINITION. The scale-up fabric (R385, R426, R427): routes, flows, send windows, acknowledgements and the width of a
port. -/
namespace Sys2Proof.Machine
open Sys2Proof

/-- A port of the fabric. -/
def State.port (s : State) (p : Nat) : FabricPort := s.ports.get {} p
/-- Replace it. -/
def State.setPort (s : State) (p : Nat) (f : FabricPort) : State := { s with ports := s.ports.put p f }

/-- The flits that a port may have outstanding (R426). -/
def FabricPort.window (f : FabricPort) : Nat := if f.half then 2048 else 4096

/-- The lanes in use (R385): all four, or the pair that holds neither the lane under test nor a retired one. With both pairs concerned the
rule names none, and the pair away from the lane under test is taken (DESIGN CHOICE, Log 60). -/
def FabricPort.lanes (f : FabricPort) : List Nat :=
  let low := decide (f.testing = some 0 ∨ f.testing = some 1)
  if !f.half then [0, 1, 2, 3]
  else if low || (f.testing.isNone && f.retired.any (fun l => decide (l < 2))) then [2, 3]
  else [0, 1]

/-- The next port and the cost of a destination package: as the table lists them, else as the firmware has loaded them. -/
def State.routeTo (s : State) (dest : Nat) : Nat × Nat :=
  match s.routes.find dest with
  | some r => r
  | none => (Config.routePort dest % 24, Config.routeCost dest)

/-- A flow and its destination. -/
def Flow.is (f : Flow) (key dest : Nat) : Bool := decide (f.tag = key / 16 ∧ f.stream = key % 16 ∧ f.dest = dest)

/-- The port a flow takes: its old route while flits on it are not acknowledged (R427). -/
def State.flowPort (s : State) (key dest : Nat) : Nat :=
  match s.flows.find? (fun f => f.is key dest) with
  | some f => f.port
  | none => (s.routeTo dest).1

/-- The weight with which a port arbitrates for a partition (R409, R427). -/
def State.portWeight (s : State) (p part : Nat) : Nat :=
  let w := ((s.part part).fabwt.extractLsb' 0 8).toNat
  let v := if w = 0 then 1 else w
  if (s.port p).half then Nat.max 1 (v / 2) else v

/-- A partition may send on a port now (R427): it has flits left of its weight in the round, or no other partition that found the port
taken in this cycle or the last has. The rule gives the weights and no more (DESIGN CHOICE, Log 63). -/
def State.portTurn (s : State) (p part : Nat) : Bool :=
  let f := s.port p
  decide (f.sent.get 0 part < s.portWeight p part)
    || f.asked.all (fun q => decide (q.1 = part ∨ q.2 + 1 < s.wall ∨ s.portWeight p q.1 ≤ f.sent.get 0 q.1))

/-- A flit of a partition is counted in the port's round; one beyond its weight begins the next. -/
def State.portCount (s : State) (p part : Nat) : FabricPort :=
  let f := s.port p
  let n := f.sent.get 0 part
  { f with outstanding := f.outstanding + 1, sent := if n < s.portWeight p part then f.sent.put part (n + 1) else [(part, 1)] }

/-- Send a flit of a flow, or note that its partition found the port taken: by its window (R426) or by the other partitions (R427). -/
def State.sendOn (s : State) (key : Nat) (h : FlitHeader) (payload : List Byte) : Bool × State :=
  let p := s.flowPort key h.dest
  let f := s.port p
  if f.window ≤ f.outstanding ∨ s.portTurn p h.part = false then
    (false, s.setPort p { f with asked := f.asked.put h.part s.wall })
  else
    let n := (s.flows.find? (fun f => f.is key h.dest)).isNone
    let flows := if n then s.flows ++ [{ tag := key / 16, stream := key % 16, dest := h.dest, port := p, outstanding := 1 }]
      else s.flows.map (fun (f : Flow) => if f.is key h.dest then { f with outstanding := f.outstanding + 1 } else f)
    (true, { s.setPort p (s.portCount p h.part) with flows := flows, outbox := .flit p h payload :: s.outbox })

/-- A flit of this package's own leaves for another, or waits for its port. -/
def State.sendFlit (s : State) (key part dest cls addr : Nat) (bytes : List Byte) : Bool × State :=
  s.sendOn key { source := Config.packageNumber, dest := dest, part := part, cls := cls, stream := key % 16 } (flitPayload cls addr bytes)

/-- The flow of a flit that no context of this package has sent, by its source. -/
def FlitHeader.key (h : FlitHeader) : Nat := (2 ^ 64 + h.source) * 16 + h.stream % 16

/-- A flit that waits goes when its port takes it. -/
def State.flitGo (s : State) (d : FlitDue) : State :=
  let r := s.sendOn d.header.key d.header d.payload
  if r.1 then r.2 else { r.2 with flitsDue := r.2.flitsDue ++ [d] }

/-- The flits that wait, in their order. -/
def State.flitsCycle (s : State) : State := s.flitsDue.foldl State.flitGo { s with flitsDue := [] }

/-- The flows of a port after `n` of their flits are acknowledged, those of the oldest flow first. -/
def ackFlows (p : Nat) : List Flow → Nat → List Flow
  | [], _ => []
  | f :: rest, n =>
    if f.port ≠ p then f :: ackFlows p rest n
    else if f.outstanding ≤ n then ackFlows p rest (n - f.outstanding)
    else { f with outstanding := f.outstanding - n } :: rest

/-- FABRIC_ACK (R426). -/
def State.fabricAck (s : State) (p n : Nat) : State :=
  { s.setPort p { s.port p with outstanding := (s.port p).outstanding - n } with flows := ackFlows p s.flows n }

/-- LANE_WIDTH_CHANGE (R385, R427): the send window is halved or doubled with the width, and the routing table takes the new
cost of every path that begins at the port. -/
def State.portWidth (s : State) (p : Nat) (half : Bool) : State :=
  let f := s.port p
  if f.half = half then s
  else
    let cost := fun (c : Nat) => if half then c + 2 else c - 2
    let routes := (List.range 4096).foldl (fun m d => if (s.routeTo d).1 = p then m.put d (p, cost (s.routeTo d).2) else m) s.routes
    { s.setPort p { f with half := half } with routes := routes }

end Sys2Proof.Machine
end

