-- ==== Sys2Proof/Machine/Space.lean ====
section
/-! DEFINITION. Copy addresses (R8, R181) and the spaces they reach (R288): what an operation reads and writes there. -/
namespace Sys2Proof.Machine
open Sys2Proof

/-! ### Copy addresses -/

/-- A place in a space: its rank or package, and its offset. -/
structure Loc where
  space : Nat
  rank : Nat
  off : Nat
  deriving DecidableEq, Repr

/-- The space of a copy address (R181). -/
def copySpace (a : DWord) : Nat := (a.extractLsb' 60 4).toNat

/-- Read a copy address (R181). -/
def copyLoc (a : DWord) : Loc :=
  let sp := copySpace a
  if 2 ≤ sp ∧ sp ≤ 5 then ⟨sp, (a.extractLsb' 51 9).toNat, (a.extractLsb' 0 51).toNat⟩
  else if sp = 7 then ⟨sp, (a.extractLsb' 48 12).toNat, (a.extractLsb' 0 48).toNat⟩
  else ⟨sp, 0, (a.extractLsb' 0 52).toNat⟩

/-- The place an integer offset away. -/
def Loc.shift (l : Loc) (i : Int) : Loc := { l with off := ((l.off : Int) + i).toNat }

/-! ### Operations of a core -/

/-- An operation of a core by its number. -/
def State.findOp (s : State) (rank id : Nat) : Option COp := (s.core rank).ops.find? (fun o => o.id = id)

/-- Replace an operation. -/
def State.setOp (s : State) (rank : Nat) (o : COp) : State :=
  let c := s.core rank
  s.setCore rank { c with ops := c.ops.map (fun p => if p.id = o.id then o else p) }

/-- The stream of a context, as one number. -/
def COp.key (o : COp) : Nat := o.tag * 16 + o.stream

/-- A KV operation: the KV engine carries it. -/
def COp.isKv (o : COp) : Bool :=
  match o.kind with
  | .kvld .. | .kvapp .. | .kvfork .. | .kvrel .. => true
  | _ => false

/-- Who asks for an operation's translations. -/
def COp.asker (o : COp) (rank : Nat) : Asker :=
  { rank := rank, unit := if o.isKv then 10 else 4 + o.engine, op := o.id, ctx := o.ctx, part := o.part, priv := o.priv,
    heap := o.heap }

/-- The engine trap of an operation (R186). -/
def COp.trap (o : COp) (c : Cause) (info : Nat) : Trap :=
  { cause := c, slot := 4 + o.engine, info := BitVec.ofNat 64 info, stream := o.stream }

/-! ### Launches -/

/-- The model's own name of a launch: its pool sequence number plus one; 0 is no launch. -/
def Launch.key (l : Launch) : Nat := l.seq + 1

/-- The launch of a key. -/
def State.launchOf (s : State) (key : Nat) : Option Launch := s.launches.find? (fun l => l.key = key)

/-- The cores of a launch. A context that no launch has placed counts its own core (DESIGN CHOICE, Log 3). -/
def State.ranksOf (s : State) (key own : Nat) : List Nat :=
  match s.launchOf key with
  | some l => l.cores
  | none => [own]

/-- The core that holds what a launch had at a rank: operations follow contexts that have moved to a spare core (R237). -/
def State.rankNow (s : State) (key r : Nat) : Nat :=
  match s.launchOf key with
  | some l => if l.cores.contains r then r else l.moves.get r r
  | none => r

/-- The tiles of each context of a launch. -/
def State.accnOf (s : State) (key : Nat) (x : Ctx) : Nat :=
  match s.launchOf key with
  | some l => l.record.accn
  | none => x.tileCount

/-- A launch's ranges on a core are saved, or being saved or restored (R321). -/
def State.rangeAway (s : State) (key rank : Nat) : Bool := s.ranges.any (fun r => r.launch = key ∧ r.rank = rank)

/-- The image of a slot is being written. -/
def State.writing (s : State) (rank slot : Nat) : Bool := s.imageWrites.any (fun w => w.rank = rank ∧ w.slot = slot)

/-- Tiles that a context holds (R249): one that has halted or left gives them up once its commands are gone. -/
def Core.holdsTiles (c : Core) (i : Nat) : Bool :=
  let x := c.ctx i
  decide (x.life ≠ .free) && (decide (x.life ≠ .halted ∧ x.life ≠ .left) || c.cmds.any (fun m => decide (m.ctx = i) && !m.discarded) || !x.pend.isEmpty)

/-- The slot of a core in which the context of a launch stands that the launch's tile `t` belongs to (R249). -/
def State.kSlot (s : State) (key rank accn t : Nat) : Option Nat :=
  (List.range 4).find? (fun i => decide (((s.core rank).ctx i).launch = key ∧ ((s.core rank).ctx i).launchCtx = t / accn
    ∧ ((s.core rank).ctx i).life ≠ .free ∧ s.writing rank i = false ∧ accn ≠ 0))

/-- A launch's partition is being scrubbed: its contexts have stopped (R416). -/
def State.launchDead (s : State) (key : Nat) : Bool := (s.launchOf key).any (fun l => (s.part l.part).scrub)

/-- The context that a launch's tile belonged to has given its tiles up: the tile is allocated to the launch no longer (R182, R249). -/
def State.kGone (s : State) (key rank accn t : Nat) : Bool :=
  match s.kSlot key rank accn t with
  | some i => !(s.core rank).holdsTiles i
  | none => s.launchDead key

/-- The physical tile of a launch's tile `t` on a core (R249): tile k of launch context i is tile i * accn + k. The tiles of a context
that has been saved are in its image. -/
def State.kTile (s : State) (key rank accn t : Nat) : Option Nat :=
  let c := s.core rank
  match (s.kSlot key rank accn t).filter c.holdsTiles with
  | none => none
  | some i => if t % accn < (c.ctx i).tileCount then some ((c.ctx i).tileBase + t % accn) else none

/-- A half of a core's I-space is idle (R404): the live half of no context placed on the core, nor of one pre-empted from
it. -/
def State.halfIdle (s : State) (rank half : Nat) : Bool :=
  let c := s.core rank
  (List.range 4).all (fun i => decide ((c.ctx i).life = .free ∨ (c.ctx i).liveHalf ≠ half))
    && s.images.all (fun m => decide (m.rank ≠ rank ∨ m.ctx.liveHalf ≠ half))

/-! ### Reading -/

/-- What an access answers. -/
inductive Got where
  | bytes (bs : List (Byte × Bool))
  | wait
  | fault (t : Trap)
  deriving DecidableEq, Repr

/-- Bytes of a core's A-space with their poison. -/
def Core.aBytes (c : Core) (a n : Nat) : List (Byte × Bool) :=
  (List.range n).map (fun i => (c.rByte (a + i), c.wordPoison ((a + i) / 4 * 4)))

/-- Bytes of an accumulator tile of a core, in row order (R249). -/
def Core.kBytes (c : Core) (t a n : Nat) : List (Byte × Bool) :=
  (List.range n).map (fun i =>
    let e := (a + i) / 4 % 4096
    (((c.tile t).elems.get 0 e).extractLsb' (8 * ((a + i) % 4)) 8, (c.tile t).poison.get false e))

/-- Bytes of a core's I-space with their poison. -/
def Core.iBytes (c : Core) (a n : Nat) : List (Byte × Bool) :=
  (List.range n).map (fun i => (c.ispace.get 0 (a + i), c.ipoison.get false ((a + i) / 4)))

/-- Bytes of a row from an index in it. -/
def rowSlice (r : Row) (bad : Bool) (i n : Nat) : List (Byte × Bool) :=
  (List.range n).map (fun j => (r.extractLsb' (8 * (i + j)) 8, bad))

/-- Bytes of G-physical memory as an operation of a core sees them. -/
def State.gSeenBytes (s : State) (rank : Nat) (o : COp) (pa n : Nat) : List (Byte × Bool) :=
  (List.range n).map (fun i => s.gSeen rank o.tag (pa + i))

/-- Bytes of another package's memory (free). -/
def State.remoteBytes (s : State) (a n : Nat) : List (Byte × Bool) :=
  (List.range n).map (fun i => (Config.freeByteAt s.free (a + i), false))

/-- Read another package's memory: a flit asks for it (R426). -/
def State.remoteRead (s : State) (o : COp) (dest a n : Nat) : Got × State :=
  let r := s.sendFlit o.key o.part dest 0 a []
  if r.1 then (.bytes (r.2.remoteBytes a n), { r.2 with free := r.2.free + 1 }) else (.wait, r.2)

/-- Record that an operation waits for a bank (R260). -/
def State.askBank (s : State) (rank bank : Nat) : State :=
  let c := s.core rank
  s.setCore rank { c with bankWait := c.bankWait.put bank (s.wall + 1) }

/-- Read bytes that lie in one aligned piece of a space for an operation of a core: a word, or a row of W-space. -/
def State.fetchLoc (s : State) (rank : Nat) (o : COp) (l : Loc) (n : Nat) : Got × State × COp :=
  match l.space with
  | 0 =>
    let t := s.translate (o.asker rank) o.pages l.off false
    let p := { o with pages := t.2.2 }
    match t.1 with
    | .wait => (.wait, t.2.1, p)
    | .fault c => (.fault (o.trap c l.off), t.2.1, p)
    | .ok pa none => (.bytes (t.2.1.gSeenBytes rank o pa n), t.2.1, p)
    | .ok pa (some k) =>
      let r := t.2.1.remoteRead p k pa n
      (r.1, r.2, p)
  | 1 =>
    match s.checkPa o.part l.off with
    | some c => (.fault (o.trap c l.off), s, o)
    | none => (.bytes (s.gSeenBytes rank o l.off n), s, o)
  | 2 =>
    let r := s.rankNow o.launch l.rank
    if r ≠ rank ∧ s.rangeAway o.launch r then (.wait, s, o)
    else
      let s1 := if r = rank then s else s.flushCovered r
      (.bytes ((s1.core r).aBytes l.off n), s1, o)
  | 3 =>
    let r := s.rankNow o.launch l.rank
    let per := s.accnOf o.launch ((s.core rank).ctx o.ctx)
    match s.kTile o.launch r per (l.off / 16384) with
    | none => if s.kGone o.launch r per (l.off / 16384) then (.fault (o.trap .prot l.off), s, o) else (.wait, s, o)
    | some t =>
      if r ≠ rank ∧ s.rangeAway o.launch r then (.wait, s, o)
      else
        let s1 := if r = rank then s else s.flushCovered r
        (.bytes ((s1.core r).kBytes t l.off n), s1, o)
  | 4 =>
    let row := l.off / 512
    let s := if l.rank = rank then s else s.flushCovered l.rank
    if s.bankReady l.rank (bankOf row) then
      (.bytes (rowSlice (s.rowSeen l.rank row) ((s.core l.rank).rowPoisoned row) (l.off % 512) n), s.grantRead l.rank row,
        if (s.core l.rank).wErr.contains row then { o with delay := o.delay + 2 } else o)
    else (.wait, s.askBank l.rank (bankOf row), o)
  | 5 =>
    let s1 := if l.rank = rank then s else s.flushCovered l.rank
    (.bytes ((s1.core l.rank).iBytes l.off n), s1, o)
  | 6 =>
    if s.inWindow o.part l.off n then
      (.bytes ((List.range n).map (fun i => s.hSeen (l.off + i))), { s with free := s.free + 1 }, o)
    else (.fault (o.trap .abound l.off), s, o)
  | _ =>
    if l.rank = Config.packageNumber then
      match s.checkPa o.part l.off with
      | some c => (.fault (o.trap c l.off), s, o)
      | none => (.bytes (s.gSeenBytes rank o l.off n), s, o)
    else match s.checkPa o.part l.off with
      | some c => (.fault (o.trap c l.off), s, o)
      | none =>
        let r := s.remoteRead o l.rank l.off n
        (r.1, r.2, o)

/-! ### Writing -/

/-- A virtual address lies in the output list of an open region (R395). -/
def regionsList (rs : List Region) (va : Nat) : Bool :=
  rs.any (fun r => r.outputs.any (fun q => decide (q.base.toNat ≤ va ∧ va < q.base.toNat + q.len.toNat)))

/-- A write of an operation to G-physical memory: staged where an open region lists it, else buffered until it is visible
(R310, R395). -/
def State.gStore (s : State) (rank : Nat) (o : COp) (va : Option Nat) (pa : Nat) (bs : List (Byte × Bool)) : State :=
  let stage := match va with
    | some v => regionsList o.region v
    | none => false
  let ws := (splitWords pa bs).map (fun w =>
    { addr := w.1, mask := w.2.1, val := w.2.2.1, poison := w.2.2.2, op := o.id, streams := [o.key], tag := o.tag,
      region := if stage then (o.region.headD ⟨0, 0, []⟩).id else 0 : GWrite })
  if stage then { s with staged := s.staged ++ ws } else s.setCore rank { s.core rank with gbuf := (s.core rank).gbuf ++ ws }

/-- Bytes as a number. -/
def numOf (bs : List (Byte × Bool)) : Nat := natOfBytes (bs.map Prod.fst)

/-- Write bytes that lie in one word of a core's A-space: a word written whole is set full (R185). -/
def Core.aStore (c : Core) (a : Nat) (bs : List (Byte × Bool)) : Core :=
  let c1 := (c.store a (numOf bs) bs.length (bs.any Prod.snd)).unhide a bs.length
  if a % 4 = 0 ∧ bs.length = 4 then c1.setFull a true else c1

/-- Write a word of a tile, unless a command's commit of this cycle holds the element (R188). -/
def Core.kStore (c : Core) (t a : Nat) (bs : List (Byte × Bool)) : Core :=
  let e := a / 4 % 4096
  let rc := c.committed.get (0, 0) t
  if e / 64 < rc.1 ∧ e % 64 < rc.2 then c
  else c.setTile t ((c.tile t).putWord e (BitVec.ofNat 32 (numOf bs)) (bs.any Prod.snd))

/-- Write bytes of I-space, with the poison of their words (R408). -/
def Core.iStore (c : Core) (a : Nat) (bs : List (Byte × Bool)) : Core :=
  { c with ispace := putBytes c.ispace a (bs.map Prod.fst), ipoison := markWords c.ipoison a bs.length (bs.any Prod.snd) }

/-- Before an effect in another core, in H-space or in another package, the writes its stream orders before it are visible
to every agent (R308). -/
def State.before (s : State) (rank : Nat) (o : COp) : State := s.flushStreams rank [o.key]

/-- Write another package's memory: a flit carries the bytes (R426). -/
def State.remoteWrite (s : State) (rank : Nat) (o : COp) (dest a : Nat) (bs : List (Byte × Bool)) : Got × State :=
  let r := (s.before rank o).sendFlit o.key o.part dest 1 a (bs.map Prod.fst)
  (if r.1 then .bytes [] else .wait, r.2)

/-- Write bytes that lie in one aligned word of a space, for an operation of a core; `ownI` is the I-space of CPY.i, whose
half was checked at issue. -/
def State.storeLoc (s : State) (rank : Nat) (o : COp) (ownI : Bool) (l : Loc) (bs : List (Byte × Bool)) : Got × State × COp :=
  match l.space with
  | 0 =>
    let t := s.translate (o.asker rank) o.pages l.off true
    let p := { o with pages := t.2.2 }
    match t.1 with
    | .wait => (.wait, t.2.1, p)
    | .fault c => (.fault (o.trap c l.off), t.2.1, p)
    | .ok pa none => (.bytes [], t.2.1.gStore rank o (some l.off) pa bs, p)
    | .ok pa (some k) =>
      let r := t.2.1.remoteWrite rank p k pa bs
      (r.1, r.2, p)
  | 1 =>
    match s.checkPa o.part l.off with
    | some c => (.fault (o.trap c l.off), s, o)
    | none => (.bytes [], s.gStore rank o none l.off bs, o)
  | 2 =>
    let r := s.rankNow o.launch l.rank
    if r ≠ rank ∧ s.rangeAway o.launch r then (.wait, s, o)
    else
      let s1 := if r = rank then s.cover rank [o.key] else s.before rank o
      (.bytes [], s1.setCore r ((s1.core r).aStore l.off bs), o)
  | 3 =>
    let r := s.rankNow o.launch l.rank
    let per := s.accnOf o.launch ((s.core rank).ctx o.ctx)
    match s.kTile o.launch r per (l.off / 16384) with
    | none => if s.kGone o.launch r per (l.off / 16384) then (.fault (o.trap .prot l.off), s, o) else (.wait, s, o)
    | some t =>
      if r ≠ rank ∧ s.rangeAway o.launch r then (.wait, s, o)
      else
        let s1 := if r = rank then s.cover rank [o.key] else s.before rank o
        (.bytes [], s1.setCore r ((s1.core r).kStore t l.off bs), o)
  | 5 =>
    if !ownI && !s.halfIdle l.rank (l.off / 0x20000) then (.fault (o.trap .ifetch l.off), s, o)
    else
      let s1 := if l.rank = rank then s.cover rank [o.key] else s.before rank o
      (.bytes [], s1.setCore l.rank ((s1.core l.rank).iStore l.off bs), o)
  | 6 =>
    if s.inWindow o.part l.off bs.length then
      let s1 := s.before rank o
      (.bytes [], { s1 with hmem := putBytes s1.hmem l.off (bs.map Prod.fst),
                            hpoison := markWords s1.hpoison l.off bs.length (bs.any Prod.snd) }, o)
    else (.fault (o.trap .abound l.off), s, o)
  | 4 => (.fault (o.trap .wstore l.off), s, o)
  | _ =>
    if l.rank = Config.packageNumber then
      match s.checkPa o.part l.off with
      | some c => (.fault (o.trap c l.off), s, o)
      | none => (.bytes [], s.gStore rank o none l.off bs, o)
    else match s.checkPa o.part l.off with
      | some c => (.fault (o.trap c l.off), s, o)
      | none =>
        let r := s.remoteWrite rank o l.rank l.off bs
        (r.1, r.2, o)

end Sys2Proof.Machine
end

