-- ==== Sys2Proof/Machine/CopyEngine.lean ====
section
/-! DEFINITION. The copy engines (R181 to R202): walks and runs, the pieces an operation reads and writes, atomics,
fences and publishes, barrier objects, event records, and how an operation ends. -/
namespace Sys2Proof.Machine
open Sys2Proof

/-! ### Walks (R188) -/

/-- The highest level whose count is not zero. -/
def walkTop (n : Nest) : Nat := ((List.range 6).filter (fun l => nestCount n l ≠ 0)).getLastD 0

/-- The counts of levels 1 to top. -/
def walkCounts (n : Nest) : List Nat := (List.range (walkTop n)).map (fun l => nestCount n (l + 1))

/-- The runs of a walk. -/
def walkRuns (n : Nest) : Nat := (walkCounts n).foldl (· * ·) 1

/-- The source strides of levels 1 to top. -/
def strideSrc (n : Nest) : List Int := (List.range (walkTop n)).map (fun l => (nestLevel n (l + 1)).sa.toInt)
/-- The destination strides of levels 1 to top. -/
def strideDst (n : Nest) : List Int := (List.range (walkTop n)).map (fun l => (nestLevel n (l + 1)).sd.toInt)

/-- The offsets of run `r`: of its source and of its destination. -/
def runOffsets (n : Nest) (r : Nat) : Int × Int :=
  let ctr := walkCounters (walkCounts n) r
  (walkOffset ctr (strideSrc n), walkOffset ctr (strideDst n))

/-- Cut `n` bytes from an offset at the multiples of an alignment: starts relative to the offset, and lengths. -/
def piecesOf (alignment off n : Nat) : List (Nat × Nat) :=
  (List.range ((off % alignment + n + alignment - 1) / alignment)).map (fun i =>
    let base := off / alignment * alignment + i * alignment
    (max off base - off, min (off + n) (base + alignment) - max off base))

/-- The pieces in which a space is read: rows of W-space, and words elsewhere (R310). -/
def pieceAlign (space : Nat) : Nat := if space = 4 then 512 else 4

/-! ### CRC-32C (R189) -/

/-- One bit of the reflected CRC with polynomial 0x1EDC6F41. -/
def crcBit (c : Word) : Word := if c.getLsbD 0 then (c >>> 1) ^^^ 0x82F63B78#32 else c >>> 1

/-- One byte. -/
def crcByte (c : Word) (b : Byte) : Word := (List.range 8).foldl (fun c _ => crcBit c) (c ^^^ b.setWidth 32)

/-- The CRC state as bytes come: the last four seen are kept back, for they may be the check word. -/
def COp.crcFeed (o : COp) (b : Byte × Bool) : COp :=
  let bad := o.crcBad || b.2
  match o.tail with
  | [w, x, y, z] => { o with crc := crcByte o.crc w, tail := [x, y, z, b.1], crcBad := bad }
  | l => { o with tail := l ++ [b.1], crcBad := bad }

/-- The check fails: the word differs, or a byte was poisoned (R189, R408). -/
def COp.crcFails (o : COp) : Bool := o.crcBad || decide (natOfBytes o.tail ≠ (~~~o.crc).toNat)

/-! ### One run, element or row -/

/-- What an operation moves at a time. -/
structure Leg where
  src : Loc
  dst : Loc
  len : Nat
  deriving DecidableEq, Repr

/-- The bytes of the run that has been read. -/
def COp.got (o : COp) (i n : Nat) : List (Byte × Bool) :=
  (List.range n).map (fun j => (o.buf.get 0 (i + j), o.bufBad.get false (i + j)))

/-- Keep bytes that were read. -/
def COp.keep (o : COp) (i : Nat) (bs : List (Byte × Bool)) : COp :=
  (List.range bs.length).foldl (fun o j =>
    let b := bs.getD j (0, false)
    { o with buf := o.buf.put (i + j) b.1, bufBad := o.bufBad.write false (i + j) b.2 }) o

/-- Begin to move the next run. -/
def COp.load (o : COp) (l : Leg) : COp :=
  { o with stage := 1, buf := [], bufBad := [], todoR := piecesOf (pieceAlign l.src.space) l.src.off l.len,
           todoW := piecesOf 4 l.dst.off l.len }

/-- A run has been written; after the last of `total` runs the writes are all performed, in the cycle of the last (R185). -/
def COp.legDone (o : COp) (l : Leg) (total : Nat) : COp :=
  { o with stage := 0, unit := o.unit + 1, bytes := o.bytes + l.len, performed := decide (total ≤ o.unit + 1) }

/-- One piece more of a run (R188): the whole run is read, then written; in which order its pieces are is open. -/
def State.moveStep (s : State) (rank : Nat) (o : COp) (l : Leg) (total : Nat) (ownI crc : Bool) : State :=
  let k := Config.freeNat s.free
  let s0 := { s with free := s.free + 1 }
  if o.stage = 0 then s.setOp rank (o.load l)
  else match o.todoR[k % o.todoR.length]? with
    | some p =>
      let r := s0.fetchLoc rank o { l.src with off := l.src.off + p.1 } p.2
      (match r.1 with
        | .wait => r.2.1.setOp rank r.2.2
        | .fault t => r.2.1.setOp rank { r.2.2 with fault := some t }
        | .bytes bs =>
          let o1 := { r.2.2.keep p.1 bs with todoR := o.todoR.eraseIdx (k % o.todoR.length) }
          r.2.1.setOp rank (if crc ∧ o1.todoR = [] then (o1.got 0 l.len).foldl COp.crcFeed o1 else o1))
    | none => match o.todoW[k % o.todoW.length]? with
      | some p =>
        let r := s0.storeLoc rank o ownI { l.dst with off := l.dst.off + p.1 } (o.got p.1 p.2)
        (match r.1 with
          | .wait => r.2.1.setOp rank r.2.2
          | .fault t => r.2.1.setOp rank { r.2.2 with fault := some t }
          | .bytes _ =>
            let o1 := { r.2.2 with todoW := o.todoW.eraseIdx (k % o.todoW.length) }
            r.2.1.setOp rank (if o1.todoW = [] then o1.legDone l total else o1))
      | none => s.setOp rank (o.legDone l total)

/-! ### Checks of copy addresses (R182) -/

/-- A copy address as a check sees it: the lowest and highest byte of the whole walk from it, whether it is written, and the
values that must be aligned with it. -/
structure Item where
  addr : DWord
  lo : Int := 0
  hi : Int := 0
  write : Bool := false
  aligned : List Int := []
  /-- An alignment the entry gives; 0: that of the space. -/
  al : Nat := 0
  deriving DecidableEq, Repr

/-- A plain A-space operand: its value, its bytes and its alignment. -/
structure Plain where
  addr : DWord
  len : Nat
  al : Nat
  deriving DecidableEq, Repr

/-- Who checks: the core, partition, privilege, launch and its tiles on a core. -/
structure Checker where
  rank : Nat
  part : Nat
  priv : Bool
  launch : Nat
  tiles : Nat
  deriving DecidableEq, Repr

/-- The acting context as a checker. -/
def State.checker (s : State) : Checker :=
  let x := s.ctx
  { rank := s.cur, part := x.part, priv := x.priv, launch := x.launch,
    tiles := match s.launchOf x.launch with
      | some l => l.record.ctxs * l.record.accn
      | none => x.tileCount }

/-- A user context may not name the space (R181). -/
def Item.denied (i : Item) : Bool :=
  let sp := copySpace i.addr
  decide (sp = 1 ∨ sp = 5 ∨ sp = 6 ∨ sp = 7) || (decide (sp = 4) && !i.write)

/-- The rank or package lies outside the partition (R182). -/
def Item.outPart (i : Item) (s : State) (k : Checker) : Bool :=
  let l := copyLoc i.addr
  (decide (2 ≤ l.space ∧ l.space ≤ 5) && !(s.part k.part).cores.getLsbD (l.rank / 8) && decide (s.launchOf k.launch ≠ none))
    || (decide (l.space = 7) && !s.fabricAllows k.part l.rank)

/-- The rank lies outside the launch, or a tile is not the launch's, or no longer (R182, R249). -/
def Item.outLaunch (i : Item) (s : State) (k : Checker) : Bool :=
  let l := copyLoc i.addr
  let r := s.rankNow k.launch l.rank
  let n := match s.launchOf k.launch with
    | some l => l.record.accn
    | none => k.tiles
  let first := ((l.off : Int) + i.lo).toNat / 16384
  let last := ((l.off : Int) + i.hi).toNat / 16384
  (decide (2 ≤ l.space ∧ l.space ≤ 5) && !(s.ranksOf k.launch k.rank).contains l.rank)
    || (decide (l.space = 3) && (decide ((k.tiles : Int) * 16384 ≤ (l.off : Int) + i.hi)
      || (List.range (last + 1 - first)).any (fun d => s.kGone k.launch r n (first + d))))

/-- An address, length or stride is misaligned (R182). -/
def Item.misaligned (i : Item) : Bool :=
  let l := copyLoc i.addr
  let al := if i.al ≠ 0 then i.al else if l.space = 2 ∨ l.space = 3 ∨ l.space = 5 then 4 else 1
  ((l.off : Int) :: i.aligned).any (fun v => decide (v % (al : Int) ≠ 0))

/-- The end of the offsets of a space (R181, R288). -/
def spaceEnd (space : Nat) : Nat :=
  match space with
  | 2 => 0x600000
  | 3 => 0x100000
  | 4 => 0x30000000
  | 5 => 0x40000
  | 7 => 0x1000000000000
  | _ => 0x10000000000000

/-- The walk leaves its space: XLATE for G-space, else ABOUND; then what R288 and R289 add for the space: the host window and the
partition's ranges. These come with check 8 (DEDUCED, Log 57). Whether a half of I-space is idle a copy through space 5 checks as each
write arrives (R405). -/
def Item.outSpace (i : Item) (s : State) (k : Checker) : Option Cause :=
  let l := copyLoc i.addr
  if (l.off : Int) + i.lo < 0 ∨ (spaceEnd l.space : Int) ≤ (l.off : Int) + i.hi then
    some (if l.space ≤ 1 then .xlate else .abound)
  else
    let lo := ((l.off : Int) + i.lo).toNat
    let hi := ((l.off : Int) + i.hi).toNat
    if l.space = 6 ∧ s.inWindow k.part lo (hi - lo + 1) = false then some .abound
    else if l.space = 1 ∨ l.space = 7 then s.checkRange k.part lo hi
    else none

/-- The first item that fails a test. -/
def firstItem (l : List Item) (c : Cause) (bad : Item → Bool) : Option (Cause × DWord) :=
  match l.find? bad with
  | some i => some (c, i.addr)
  | none => none

/-- The first failure of a list of checks. -/
def firstFail : List (Option (Cause × DWord)) → Option (Cause × DWord)
  | [] => none
  | some f :: _ => some f
  | none :: rest => firstFail rest

/-- Checks 2 to 6 of R182, each over every address before the next. -/
def checkPlaces (s : State) (k : Checker) (l : List Item) : List (Option (Cause × DWord)) :=
  [ firstItem l .xlate (fun i => decide (8 ≤ copySpace i.addr)
      || (decide (copySpace i.addr = 0 ∨ copySpace i.addr = 1 ∨ copySpace i.addr = 6) && decide (i.addr.extractLsb' 52 8 ≠ 0))),
    firstItem l .priv (fun i => !k.priv && i.denied),
    firstItem l .wstore (fun i => decide (copySpace i.addr = 4) && i.write),
    firstItem l .partition (fun i => i.outPart s k),
    firstItem l .prot (fun i => i.outLaunch s k) ]

/-- Check 7 of R182. -/
def checkAligned (l : List Item) (ps : List Plain) : List (Option (Cause × DWord)) :=
  [ firstItem l .align Item.misaligned,
    (ps.find? (fun p => decide (p.addr.toNat % p.al ≠ 0))).map (fun p => (.align, p.addr)) ]

/-- Check 8 of R182. CX_TRAPINFO holds the operand's own address, also where it is another byte of the walk that leaves the space (DESIGN
CHOICE, Log 70). -/
def checkBounds (s : State) (k : Checker) (l : List Item) (ps : List Plain) : List (Option (Cause × DWord)) :=
  [ (l.find? (fun i => (i.outSpace s k).isSome)).map (fun i => ((i.outSpace s k).getD .abound, i.addr)),
    (ps.find? (fun p => decide (p.len ≠ 0 ∧ Config.aSize < p.addr.toNat + p.len))).map (fun p => (.abound, p.addr)) ]

/-- Checks 2 to 8 of R182. -/
def checkItems (s : State) (k : Checker) (l : List Item) (ps : List Plain) : Option (Cause × DWord) :=
  firstFail (checkPlaces s k l ++ checkAligned l ps ++ checkBounds s k l ps)

/-! ### Gathers and scatters (R193) -/

/-- The check of the far side of an element (R193). -/
def COp.farCheck (s : State) (rank : Nat) (o : COp) (a : DWord) (size : Nat) (write : Bool) : Option (Cause × DWord) :=
  checkItems s { rank := rank, part := o.part, priv := o.priv, launch := o.launch,
                 tiles := match s.launchOf o.launch with
                   | some l => l.record.ctxs * l.record.accn
                   | none => ((s.core rank).ctx o.ctx).tileCount }
    [{ addr := a, hi := (size : Int) - 1, write := write }] []

/-- One step of a GATH or a SCAT: an element's index is read when the element starts; its far side is then checked. -/
def State.indexStep (s : State) (rank : Nat) (o : COp) (near far list : DWord) (size count : Nat) (gather : Bool) : State :=
  let elem : DWord := far + BitVec.ofNat 64 o.result
  let here : Loc := ⟨2, rank, near.toNat + o.unit * size⟩
  let leg : Leg := if gather then ⟨copyLoc elem, here, size⟩ else ⟨here, copyLoc elem, size⟩
  if o.stage = 0 then
    let c := s.core rank
    let a := list.toNat + 4 * o.unit
    let e : DWord := far + (c.rWord a).setWidth 64
    match o.farCheck s rank e size (!gather) with
    | some f => s.setOp rank { o with fault := some (o.trap f.1 f.2.toNat) }
    | none =>
      let o1 := { o with result := (c.rWord a).toNat, hashBad := c.wordPoison a }
      s.setOp rank (o1.load (if gather then ⟨copyLoc e, here, size⟩ else ⟨here, copyLoc e, size⟩))
  else
    let o1 := if o.hashBad ∧ o.todoR = [] then { o with bufBad := (List.range size).map (fun i => (i, true)) } else o
    s.moveStep rank o1 leg count false false

/-! ### Atomics (R196, R311) -/

/-- What an atomic writes, if it writes. -/
def amoResult (op : Nat) (old v v2 : Word) : Option Word :=
  match op with
  | 0 => some (old + v)
  | 1 => some (if old.toInt ≤ v.toInt then old else v)
  | 2 => some (if old.toInt ≤ v.toInt then v else old)
  | 3 => some (old &&& v)
  | 4 => some (old ||| v)
  | 5 => some (old ^^^ v)
  | 6 => some v
  | _ => if old = v then some v2 else none

/-- The word that an atomic takes from another core's L1 is visible to every agent from then on, with what its streams ordered before it
(R308, R310, R311). -/
def State.takeWord (s : State) (rank pa : Nat) : State :=
  (s.amoHeld.filter (fun h => decide (h.addr = pa ∧ h.rank ≠ rank))).foldl (fun t h => t.flushStreams h.rank h.streams) s

/-- The copy of a word that a context has staged follows its own atomic on the word, which is not staged itself (R395, R397; DEDUCED,
Log 53). -/
def State.restage (s : State) (o : COp) (pa : Nat) (v : Word) (bad : Bool) : State :=
  match ((s.stagedOf o.tag).filter (fun w => w.addr = pa)).getLast? with
  | none => s
  | some w => { s with staged := s.staged ++ [{ w with mask := 15, val := v, poison := bad, op := o.id, streams := [o.key] }] }

/-- An atomic at a physical word: its stream's and its core's earlier writes to the word come first, and it sees what its context has
staged there; the old value goes to A-space with its full bit. Other cores may go on reading the word as it was until the write is
visible to them. The word it writes is poisoned where a source is (R392). -/
def State.amoAt (s : State) (rank : Nat) (o : COp) (pa op out : Nat) (v v2 : Word) (poison : Bool) : State :=
  let same := ((s.core rank).gbuf.filter (fun w => w.addr = pa)).flatMap GWrite.streams
  let s1 := ((s.takeWord rank pa).flushStreams rank (o.key :: same)).cover rank [o.key]
  let got := (List.range 4).map (fun i => s1.gSeen rank o.tag (pa + i))
  let old := BitVec.ofNat 32 (natOfBytes (got.map Prod.fst))
  let bad := got.any Prod.snd
  let seen := match s1.amoHeld.find? (fun h => h.addr = pa ∧ h.rank = rank) with
    | some h => { h with streams := o.key :: h.streams }
    | none => { rank := rank, addr := pa, old := BitVec.ofNat 32 (s1.gNat pa 4), poison := linePoison s1.gpoison pa, streams := [o.key] }
  let s2 := match amoResult op old v v2 with
    | none => s1
    | some w =>
      let t := s1.gWord (some rank) pa 15 w (bad || poison)
      { t with amoHeld := t.amoHeld ++ [seen] }.restage o pa w (bad || poison)
  let s3 := s2.setCore rank ((s2.core rank).aStore out ((bytesOf old.toNat 4).map (fun b => (b, bad))))
  s3.setOp rank { o with performed := true, bytes := 4 }

/-- One step of an AMO: it translates its word for writing, and performs. -/
def State.amoStep (s : State) (rank : Nat) (o : COp) (op : Nat) (addr : DWord) (out : Nat) (v v2 : Word) (poison : Bool) : State :=
  let l := copyLoc addr
  if l.space = 1 then
    match s.checkPa o.part l.off with
    | some c => s.setOp rank { o with fault := some (o.trap c l.off) }
    | none => s.amoAt rank o l.off op out v v2 poison
  else
    let t := s.translate (o.asker rank) o.pages l.off true
    let p := { o with pages := t.2.2 }
    match t.1 with
    | .wait => t.2.1.setOp rank p
    | .fault c => t.2.1.setOp rank { p with fault := some (o.trap c l.off) }
    | .ok pa none => t.2.1.amoAt rank p pa op out v v2 poison
    | .ok pa (some k) =>
      let r := (t.2.1.before rank o).sendFlit o.key o.part k 3 pa (BitVec.ofNat 8 op :: bytesOf v.toNat 4 ++ bytesOf v2.toNat 4)
      if r.1 then
        let s1 := { r.2 with free := r.2.free + 1 }
        (s1.setCore rank ((s1.core rank).aStore out (r.2.remoteBytes pa 4))).setOp rank { p with performed := true, bytes := 4 }
      else r.2.setOp rank p

/-! ### Lines of L1 (R199) -/

/-- CWB on one line of a core: write back, write back and invalidate, or discard. Written back, the line's writes are visible, with what
their streams order before them (R308). -/
def State.cwbLine (s : State) (rank op pa : Nat) : State :=
  let s := if op = 2 then s else s.flushStreams rank (s.unseenIn rank (pa / 128 * 128) 128)
  let c := s.core rank
  let here := fun (a : Nat) => decide (a / 128 = pa / 128)
  if op = 2 then
    let old := c.dirty.filter (fun (d : Nat × Byte × Bool) => here d.1)
    let s1 := { s with
      gmem := old.foldl (fun (m : Map Byte) (d : Nat × Byte × Bool) => m.write 0 d.1 d.2.1) s.gmem
      gpoison := old.foldl (fun (m : Map Bool) (d : Nat × Byte × Bool) => m.write false (d.1 / 4) d.2.2) s.gpoison
      amoHeld := s.amoHeld.filter (fun h => ¬ (h.rank = rank ∧ h.addr / 128 = pa / 128)) }
    s1.setCore rank { c with dirty := c.dirty.filter (fun (d : Nat × Byte × Bool) => !here d.1), gbuf := c.gbuf.filter (fun w => !here w.addr) }
  else s.setCore rank { c with dirty := c.dirty.filter (fun (d : Nat × Byte × Bool) => !here d.1) }

/-- One step of a CWB: the next line of its range. -/
def State.cwbStep (s : State) (rank : Nat) (o : COp) (op : Nat) (addr : DWord) (size : Nat) : State :=
  let l := copyLoc addr
  let va := max l.off ((l.off / 128 + o.unit) * 128)
  if l.off + size ≤ va then s.setOp rank { o with performed := true }
  else if l.space = 1 then
    match s.checkPa o.part va with
    | some c => s.setOp rank { o with fault := some (o.trap c va) }
    | none => (s.cwbLine rank op va).setOp rank { o with unit := o.unit + 1 }
  else
    let t := s.translate (o.asker rank) o.pages va false
    let p := { o with pages := t.2.2 }
    match t.1 with
    | .wait => t.2.1.setOp rank p
    | .fault c => t.2.1.setOp rank { p with fault := some (o.trap c va) }
    | .ok pa none => (t.2.1.cwbLine rank op pa).setOp rank { p with unit := o.unit + 1 }
    | .ok _ (some _) => t.2.1.setOp rank { p with unit := o.unit + 1 }

/-! ### DRAIN and XFENCE (R194, R195) -/

/-- A DRAIN may complete: no write of its stream waits to be visible, and no publication of a region closed before it is
due (R194, R396). -/
def State.drained (s : State) (rank : Nat) (o : COp) : Bool :=
  let c := s.core rank
  c.gbuf.all (fun w => !w.streams.contains o.key)
    && s.amoHeld.all (fun h => decide (h.rank ≠ rank) || !h.streams.contains o.key)
    && s.staged.all (fun w => decide (w.tag ≠ o.tag) || !s.publishing.contains (s.regionNow w.region)
        || o.region.any (fun r => s.regionNow r.id = s.regionNow w.region))
    && c.ops.all (fun p => decide (p.tag ≠ o.tag ∨ o.id ≤ p.id) || p.region.all (fun q =>
        !s.publishing.contains (s.regionNow q.id) || o.region.any (fun r => s.regionNow r.id = s.regionNow q.id)))

/-- An XFENCE may complete: every operation issued before it on a stream of its mask has completed (R195). -/
def Core.fenceOpen (c : Core) (o : COp) (mask : BitVec 16) : Bool :=
  c.ops.all (fun p => decide (p.tag ≠ o.tag ∨ o.id ≤ p.id) || !mask.getLsbD p.stream)

/-- After an XFENCE, what its stream writes comes after the writes of the streams it joined (R308). -/
def Core.joinStreams (c : Core) (o : COp) (mask : BitVec 16) : Core :=
  let joined := ((List.range 16).filter (fun i => mask.getLsbD i)).map (fun i => o.tag * 16 + i)
  { c with gbuf := c.gbuf.map (fun w =>
      if w.streams.any (fun k => joined.contains k) then { w with streams := o.key :: w.streams } else w) }

/-! ### Barrier objects (R200 to R202) -/

/-- Apply one update to the fields of an object. -/
def barrierApply (c : Core) (u : BarrierUpd) : Core :=
  let a := u.addr
  let expb := c.rWord a
  let arrb := c.rWord (a + 4)
  let w2 := c.rWord (a + 8)
  let w3 := c.rWord (a + 12)
  let arrive := fun (c : Core) =>
    let c1 := c.wBytes (a + 4) (min 0xFFFFFFFF (arrb.toNat + u.bytes.toNat)) 4
    c1.wBytes (a + 8) (w2 + 0x10000).toNat 4
  let c1 := match u.op with
    | 0 => (((c.wBytes a u.bytes.toNat 4).wBytes (a + 4) 0 4).wBytes (a + 8) u.expn.toNat 4).wBytes (a + 12) 0 4
    | 1 => c.wBytes a (expb + u.bytes).toNat 4
    | 2 => arrive c
    | _ => (arrive c).wBytes (a + 12) (w3 + 0x10000).toNat 4
  if u.crc then c1.wBytes (a + 12) ((c1.rWord (a + 12)) ||| 2).toNat 4 else c1

/-- Test an object for completion after the updates of a cycle (R201). -/
def barrierTest (c : Core) (a : Nat) : Core :=
  let w2 := c.rWord (a + 8)
  let w3 := c.rWord (a + 12)
  let arrn := w2.toNat / 65536
  let expn := w2.toNat % 65536
  if (c.rWord a).toNat ≤ (c.rWord (a + 4)).toNat ∧ expn ≤ arrn then
    let c1 := (c.wBytes (a + 4) 0 4).wBytes (a + 8) (expn - w3.toNat / 65536) 4
    c1.wBytes (a + 12) ((w3 ^^^ 1) &&& 0xFFFF#32).toNat 4
  else c

/-- The updates that are due apply together, and then each phase is tested (R200). -/
def Core.barriersDue (c : Core) : Core :=
  let due := c.barriers.filter (fun u => u.wait = 0)
  let c1 := due.foldl barrierApply { c with barriers := c.barriers.filter (fun u => u.wait ≠ 0) }
  (dedupNat (due.map BarrierUpd.addr)).foldl (fun c a => (barrierTest c a).unhide a 16) c1

/-- The updates of a cycle apply together, and each object that received one is tested (R201, R313). -/
def Core.barrierCycle (c : Core) : Core :=
  let d := c.barriersDue
  { d with barriers := d.barriers.map (fun u => { u with wait := u.wait - 1 }) }

/-! ### Event records (R98, R99, R195, R205, R431) -/

/-- Word 0 of a record: info, context and type (R98). -/
def recordWord (info : Nat) (ctx type : Nat) : Nat := info % 2 ^ 21 * 2 ^ 11 + ctx % 8 * 2 ^ 8 + type % 256

/-- A record from its four words. -/
def recordOf (w0 w1 w2 w3 : Nat) : Record :=
  BitVec.ofNat 128 (w0 % 2 ^ 32 + w1 % 2 ^ 32 * 2 ^ 32 + w2 % 2 ^ 32 * 2 ^ 64 + w3 % 2 ^ 32 * 2 ^ 96)

/-- The record an operation writes at its completion. -/
def COp.record (o : COp) (wall : Nat) : Record :=
  let kv := fun (i : Nat) (h : DWord) => recordOf (recordWord (o.stream + i * 16) o.ctx 0x06) wall h.toNat (h.toNat / 2 ^ 32)
  match o.kind with
  | .kvld h .. => kv 0 h
  | .kvapp h .. => kv 1 h
  | .kvfork h .. => kv 2 h
  | .kvrel h => kv 3 h
  | .wprog _ row _ count => recordOf (recordWord (if o.failed then 1 else 0) o.ctx 0x02) row count o.result
  | .wattr _ row _ => recordOf (recordWord 0 o.ctx 0x02) row 0 0
  | .migr src _ _ =>
    let e := (copyLoc src).off
    recordOf (recordWord (o.result + o.stream * 8) o.ctx 0x04) e (e / 2 ^ 32) wall
  | _ => recordOf (recordWord o.stream o.ctx 0x01) wall 0 0

/-- A context that has ended takes no record (R99). -/
def Ctx.ended (x : Ctx) : Bool :=
  decide (x.life = .free ∨ x.life = .halted ∨ x.life = .left ∨ x.life = .leaving ∨ x.life = .stopped)

/-- The barrier update of a completing operation (R185). -/
def COp.update (o : COp) : Option BarrierUpd :=
  o.barrier.map (fun a => { addr := a, op := 2, bytes := BitVec.ofNat 32 o.bytes,
                            crc := match o.kind with
                              | .cpy _ _ true _ => o.crcFails
                              | _ => false })

/-- An operation is complete: it leaves, and its barrier object is updated in this cycle. -/
def Core.retire (c : Core) (id : Nat) (u : Option BarrierUpd) : Core :=
  { c with ops := c.ops.filter (fun o => o.id ≠ id), barriers := c.barriers ++ u.toList }

/-- Put a record in the event queue, or hold it, with what waits for it, until the queue has room (R99). -/
def Core.enqueue (c : Core) (h : HeldRecord) : Core :=
  if c.events.length < 256 ∧ c.held = [] then
    let c1 := { c with events := c.events ++ [h.record] }
    match h.op with
    | some id => c1.retire id h.upd
    | none => { c1 with barriers := c1.barriers ++ h.upd.toList }
  else { c with held := c.held ++ [h] }

/-- The record is stamped as it enters: an operation completes only then. -/
def Core.stamp (c : Core) (wall : Nat) (h : HeldRecord) : HeldRecord :=
  match h.op with
  | none => h
  | some id => match c.ops.find? (fun o => o.id = id) with
    | some o => { h with record := o.record wall }
    | none => h

/-- Held records leave the queue's door: what waited for them goes on. -/
def Core.letGo (c : Core) (gone : HeldRecord → Bool) : Core :=
  (c.held.filter gone).foldl (fun c h => match h.op with
    | some id => c.retire id h.upd
    | none => { c with barriers := c.barriers ++ h.upd.toList }) { c with held := c.held.filter (fun h => !gone h) }

/-- Held records of contexts that have ended are not written (R99). -/
def Core.dropHeld (c : Core) : Core := c.letGo (fun h => [0, 1, 2, 3].any (fun i => decide (h.record.owner = i) && (c.ctx i).ended))

/-- EVENT_RECORD_ENQUEUE (R99): held records enter in the order they were produced while there is room. -/
def Core.enqueueHeld (c : Core) (wall : Nat) : Nat → Core
  | 0 => c
  | n + 1 =>
    match c.held with
    | [] => c
    | h :: rest =>
      if c.events.length < 256 then
        let c1 := { c with held := [] }.enqueue (c.stamp wall h)
        { c1 with held := rest }.enqueueHeld wall n
      else c

/-- A migration that was abandoned writes its record whether or not it was asked for (R301). -/
def COp.wantsRecord (o : COp) : Bool :=
  o.event || (match o.kind with
    | .migr .. => decide (1 ≤ o.result ∧ o.result ≤ 3)
    | _ => false)

/-! ### The end of an operation -/

/-- OPERATION_COMPLETE (R185, R99): an operation that has performed all its writes writes its record, and completes. -/
def State.finishOp (s : State) (rank id : Nat) : State :=
  match (s.core rank).ops.find? (fun o => o.id = id) with
  | none => s
  | some o =>
    let s := if o.performed ∧ o.barrier ≠ none then s.cover rank [o.key] else s
    let c := s.core rank
    if !o.performed || o.fault.isSome || c.held.any (fun h => h.op = some id) then s
    else if o.wantsRecord && !(c.ctx o.ctx).ended then
      s.setCore rank (c.enqueue { record := o.record s.wall, upd := o.update, op := some id })
    else s.setCore rank (c.retire id o.update)

/-- The later operations of a stream, with the one that has failed. -/
def Core.cancelled (c : Core) (o : COp) : List COp :=
  c.ops.filter (fun p => p.tag = o.tag ∧ p.stream = o.stream ∧ o.id ≤ p.id)

/-- A context takes an engine trap before its next bundle (R231); one that has ended takes none. -/
def Core.engineTrap (c : Core) (slot tag : Nat) (t : Trap) : Core :=
  let x := c.ctx slot
  if x.tag = tag ∧ !x.ended then c.setCtx slot { x with engineTraps := x.engineTraps ++ [t] } else c

/-- OPERATION_FAULT (R186): the operation stops where it is; it and the later operations of its stream are cancelled, with
no arrival and no record. -/
def State.failOp (s : State) (rank id : Nat) : State :=
  let c := s.core rank
  match c.ops.find? (fun o => o.id = id) with
  | none => s
  | some o => match o.fault with
    | none => s
    | some t =>
      let gone := (c.cancelled o).map COp.id
      s.setCore rank ({ c with ops := c.ops.filter (fun p => !gone.contains p.id) }.engineTrap o.ctx o.tag t)

/-! ### Publishes (R190, R191, R315) -/

/-- An operation may begin (R183): no earlier operation of its stream is left, its issue cycle is past, and its
context is not being saved (R187). -/
def State.mayBegin (s : State) (rank : Nat) (o : COp) : Bool :=
  decide (o.issued < s.wall) && decide (((s.core rank).ctx o.ctx).life ≠ .saving ∨ ((s.core rank).ctx o.ctx).tag ≠ o.tag) && (s.core rank).ops.all (fun p => decide (o.id ≤ p.id ∨ p.tag ≠ o.tag ∨ p.stream ≠ o.stream))

/-- The frames of a window change places. A queued PUB whose window has ended does nothing, and one whose number has been defined anew
exchanges the new window (R191; DESIGN CHOICE, Log 65). -/
def Ctx.publish (x : Ctx) (w : Nat) : Ctx :=
  match x.windows.find w with
  | none => x
  | some v => { x with windows := x.windows.put w { v with exchanged := !v.exchanged } }

/-- PUB_PERFORM (R191): a publish exchanges the frames in the first cycle after the earlier operations of its stream have
completed, before the accesses of that cycle; it completes with the cycle. -/
def State.publishes (s : State) (rank : Nat) : State :=
  (s.core rank).ops.foldl (fun t o => match o.kind with
    | .pub w =>
      if !o.performed && s.mayBegin rank o then
        let u := t.cover rank [o.key]
        (u.setCore rank ((u.core rank).setCtx o.ctx (((u.core rank).ctx o.ctx).publish w))).setOp rank { o with performed := true }
      else t
    | _ => t) s

/-- BARRIER_ORDERED_ACTION (R202): a .o barrier instruction acts in the first cycle after the earlier operations of its
stream have completed. -/
def State.orderedActions (s : State) (rank : Nat) : State :=
  (s.core rank).ops.foldl (fun t o => match o.kind with
    | .barrierOp op a b =>
      if s.mayBegin rank o then
        let u := t.cover rank [o.key]
        u.setCore rank ((u.core rank).retire o.id (some { addr := a, op := op, bytes := b }))
      else t
    | _ => t) s

/-- Fences and drains whose condition holds complete (R194, R195). -/
def State.fences (s : State) (rank : Nat) : State :=
  (s.core rank).ops.foldl (fun t o => match o.kind with
    | .xfence mask =>
      if s.mayBegin rank o && (s.core rank).fenceOpen o mask then
        let keys := ((List.range 16).filter (fun i => mask.getLsbD i)).map (fun i => o.tag * 16 + i)
        ({ t with amoHeld := t.amoHeld.map (fun (h : AmoHold) =>
            if h.rank = rank ∧ h.streams.any (fun k => keys.contains k) then { h with streams := o.key :: h.streams } else h)
          }).setCore rank (((t.core rank).joinStreams o mask).retire o.id none)
      else t
    | .drain =>
      if s.mayBegin rank o && t.drained rank o then
        (t.setOp rank { o with performed := true }).finishOp rank o.id
      else t
    | _ => t) s

/-! ### Visibility (R310, DESIGN CHOICE, Log 7) and containment (R395, R396) -/

/-- Some writes of a core become visible; which and when is open (R310, DESIGN CHOICE, Log 7). -/
def State.flushSome (s : State) (rank : Nat) : Nat → State
  | 0 => s
  | n + 1 =>
    let l := (s.core rank).gbuf
    let i := Config.freeNat s.free % l.length
    let s1 := { s with free := s.free + 1 }
    (if flushable l i then s1.flushAt rank i else s1).flushSome rank n

/-- An atomic's value reaches the other cores, or a dirty line goes to L2, at a free time. -/
def State.settleSome (s : State) (rank : Nat) : State :=
  let s1 := { s with free := s.free + 2 }
  let s2 := if Config.freeBool s.free then
      match (s1.amoHeld.filter (fun h => h.rank = rank))[Config.freeNat s.free]? with
      | some h => s1.flushStreams rank h.streams
      | none => s1
    else s1
  if Config.freeBool (s.free + 1) then
    match ((s2.core rank).dirty)[Config.freeNat (s.free + 1)]? with
    | some d => s2.cwbLine rank 0 d.1
    | none => s2
  else s2

/-- The visibility of a core's writes moves on. -/
def State.visibility (s : State) (rank : Nat) : State :=
  if (s.core rank).gbuf = [] ∧ (s.core rank).dirty = [] ∧ s.amoHeld = [] then s
  else ({ s with free := s.free + 1 }.flushSome rank (Config.freeNat s.free)).settleSome rank

/-- An operation was issued in a region, as the regions stand now; operations saved in an image count (R396). -/
def State.regionBusy (s : State) (id : Nat) : Bool :=
  let inside := fun (o : COp) => o.region.any (fun (r : Region) => decide (s.regionNow r.id = id))
  s.cores.any (fun c => c.2.ops.any inside) || s.images.any (fun m => m.ops.any inside)

/-- Every write of any core that one of some streams orders becomes visible. -/
def State.flushKeys (s : State) (keys : List Nat) : State :=
  if keys = [] then s else s.cores.foldl (fun t c => t.flushStreams c.1 keys) s

/-- CONTAINMENT_PUBLISH (R396): the staged writes of a closed outermost region become visible to all agents in one step,
once every copy operation issued within it has completed. They stand at their home slices wherever the context is. -/
def State.containmentPublish (s : State) : State :=
  s.publishing.foldl (fun t id =>
    if t.regionBusy id then t
    else
      let ws := t.staged.filter (fun w => t.regionNow w.region = id)
      let s1 := t.flushKeys (ws.flatMap GWrite.streams)
      let s2 := { s1 with
        staged := s1.staged.filter (fun w => s1.regionNow w.region ≠ id)
        publishing := s1.publishing.filter (fun i => i ≠ id) }
      ws.foldl (fun u w => u.gWord none w.addr w.mask w.val w.poison) s2) s

/-- The staged writes of a region unwound are discarded once its operations that had begun have run out (R395). -/
def State.containmentDiscard (s : State) : State :=
  s.unwinding.foldl (fun t id =>
    if t.regionBusy id then t
    else { t with
      staged := t.staged.filter (fun w => t.regionNow w.region ≠ id)
      unwinding := t.unwinding.filter (fun v => v ≠ id) }) s

/-- A context that has stopped gives up its open regions: their staged writes are discarded (R396). -/
def State.dropRegions (s : State) (rank : Nat) : State :=
  (List.range 4).foldl (fun t i =>
    let x := (t.core rank).ctx i
    if x.life = .stopped ∧ x.contain ≠ [] then
      { t with unwinding := t.unwinding ++ x.contain.map Region.id }.setCore rank
        ((t.core rank).setCtx i { x with contain := [] })
    else t) s

end Sys2Proof.Machine
end

