-- ==== Sys2Proof/Machine/Reductions.lean ====
section
/-! DEFINITION. Reductions at the home slices (R197, R316 to R318): contributions, cursors, withdrawn slots. -/
namespace Sys2Proof.Machine
open Sys2Proof

/-- The bytes of an element of a RED: 0 add.f32, 1 add.f64, 2 add.s32, 3 max.f32, 4 min.f32. -/
def redBytes (op : Nat) : Nat := if op = 1 then 8 else 4

/-- One element's result: one rounding, no flag (R197). -/
def redElem (op old v : Nat) : Nat :=
  match op with
  | 0 => (fAdd fp32 old v).1
  | 1 => (fAdd fp64 old v).1
  | 2 => (old + v) % 2 ^ 32
  | 3 => (fMinMax fp32 true old v).1
  | _ => (fMinMax fp32 false old v).1

/-- The slot of a launch context in its launch's schedule (R316). -/
def State.redSlot (s : State) (key originRank launchCtx : Nat) : Option Nat :=
  match s.launchOf key with
  | none => none
  | some l => match l.schedule with
    | none => none
    | some slots => slots.findIdx? (fun p => p = (originRank, launchCtx))

/-- An earlier RED of the context has not staged all its contributions. -/
def Core.redBehind (c : Core) (o : COp) : Bool :=
  c.ops.any (fun p => decide (p.tag = o.tag ∧ p.id < o.id) && (match p.kind with
    | .red .. => decide (p.stage < 3)
    | _ => false))

/-- The elements of a RED that lie in its line `i`: index and byte place within the line. -/
def redLine (op first count i : Nat) : List Nat :=
  (List.range count).filter (fun j => (first + j * redBytes op) / 128 = first / 128 + i)

/-- One step of a RED: its elements are read, then each line's contribution is sent to its home slice, in another package as a flit
(R426, Log 63); the operation has performed when all that are applied here have been. -/
def State.redStep (s : State) (rank : Nat) (o : COp) (op : Nat) (addr : DWord) (src count : Nat) : State :=
  let n := redBytes op
  let l := copyLoc addr
  let leg : Leg := ⟨⟨2, rank, src⟩, l, count * n⟩
  if o.stage = 0 then s.setOp rank (o.load leg)
  else if o.stage = 1 then
    if o.todoR = [] then s.setOp rank { o with stage := 2, unit := 0 }
    else s.moveStep rank o leg 1 false false
  else if o.stage = 2 then
    let js := redLine op l.off count o.unit
    match js.head? with
    | none => s.setOp rank { o with stage := 3 }
    | some j =>
      let va := l.off + j * n
      let stage := fun (s : State) (p : COp) (pa : Nat) =>
        let s1 := s.before rank p
        match s1.redSlot o.launch o.originRank o.launchCtx with
        | none => s1.setOp rank { p with unit := o.unit + 1 }
        | some k =>
          let e : Contribution := {
              launch := o.launch, line := pa / 128, slot := k, core := rank, op := o.id, kind := op,
              elems := js.map (fun i => (pa + (i - j) * n, numOf (o.got (i * n) n)))
              poison := js.any (fun i => (o.got (i * n) n).any Prod.snd) }
          State.setOp { s1 with staging := s1.staging ++ [e] } rank { p with unit := o.unit + 1 }
      if l.space = 1 then
        match s.checkPa o.part va with
        | some c => s.setOp rank { o with fault := some (o.trap c va) }
        | none => stage s o va
      else
        let t := s.translate (o.asker rank) o.pages va true
        let p := { o with pages := t.2.2 }
        match t.1 with
        | .wait => t.2.1.setOp rank p
        | .fault c => t.2.1.setOp rank { p with fault := some (o.trap c va) }
        | .ok pa none => stage t.2.1 p pa
        | .ok pa (some k) =>
          let s1 := t.2.1.before rank p
          match s1.redSlot o.launch o.originRank o.launchCtx with
          | none => s1.setOp rank { p with unit := o.unit + 1 }
          | some _ =>
            let r := s1.sendFlit o.key o.part k 4 pa (BitVec.ofNat 8 op :: js.flatMap (fun i => (o.got (i * n) n).map Prod.fst))
            r.2.setOp rank (if r.1 then { p with unit := o.unit + 1 } else p)
  else if s.staging.any (fun e => e.core = rank ∧ e.op = o.id) then s
  else s.setOp rank { o with performed := true }

/-- A slot is withdrawn: its context has executed LEAVE, halted or stopped, and no contribution that it had issued is still
to be staged (R318). -/
def State.redWithdrawn (s : State) (key : Nat) (slot : Nat × Nat) : Bool :=
  let is := fun (x : Ctx) => decide (x.launch = key ∧ x.originRank = slot.1 ∧ x.launchCtx = slot.2)
  let gone := s.cores.any (fun c => c.2.ctxs.any (fun x => is x.2 && x.2.ended && decide (x.2.life ≠ .free)))
    || (s.launchOf key).isNone || s.launchDead key
  gone && !s.cores.any (fun c => c.2.ops.any (fun o =>
    decide (o.launch = key ∧ o.originRank = slot.1 ∧ o.launchCtx = slot.2) && (match o.kind with
      | .red .. => decide (o.stage < 3)
      | _ => false)))

/-- Apply one contribution: elements ascending, in the line's coherence order, after any core's exclusive ownership of the
line is recalled (R311, R317). -/
def State.redApply (s : State) (e : Contribution) : State :=
  let n := redBytes e.kind
  e.elems.foldl (fun t x =>
    let bad := e.poison || linePoison t.gpoison x.1
    t.gPut x.1 (bytesOf (redElem e.kind (t.gNat x.1 n) x.2) n) bad) (s.recall (e.line * 128) 128)

/-- Advance the cursor of a line by the loop of R317. -/
def State.redAdvance (s : State) (key line : Nat) (slots : List (Nat × Nat)) : Nat → Nat → State × Nat
  | 0, k => (s, k)
  | fuel + 1, k =>
    match slots[k]? with
    | none => (s, k)
    | some slot =>
      match s.staging.find? (fun e => e.launch = key ∧ e.line = line ∧ e.slot = k) with
      | some e => ({ s.redApply e with staging := s.staging.erase e }).redAdvance key line slots fuel (k + 1)
      | none => if s.redWithdrawn key slot then s.redAdvance key line slots fuel (k + 1) else (s, k)

/-- The lines that have staged contributions, each with its launch. -/
def redLines : List Contribution → List (Nat × Nat)
  | [] => []
  | e :: rest => if (redLines rest).contains (e.launch, e.line) then redLines rest else (e.launch, e.line) :: redLines rest

/-- REDUCTION_APPLY (R317): one cycle of every home slice. -/
def State.reductionApply (s : State) : State :=
  (redLines s.staging).foldl (fun t p =>
    match (match t.launchOf p.1 with | some l => l.schedule | none => none) with
    | none => t
    | some slots =>
      let k := match t.cursors.find? (fun c => c.launch = p.1 ∧ c.line = p.2) with
        | some c => c.k
        | none => 0
      let r := t.redAdvance p.1 p.2 slots slots.length k
      let rest := r.1.cursors.filter (fun c => ¬ (c.launch = p.1 ∧ c.line = p.2))
      { r.1 with cursors := if r.2 = slots.length ∨ r.2 = 0 then rest else rest ++ [⟨p.1, p.2, r.2⟩] }) s

end Sys2Proof.Machine
end

