-- ==== Sys2Proof/Machine/Kv.lean ====
section
/-! DEFINITION. The KV engine (R203, R204, R335, R339 to R347): handles, handle-table entries, the KV page table, the page
service of a KVAPP, and the four instructions' performance. -/
namespace Sys2Proof.Machine
open Sys2Proof

/-! ### Handles and entries (R339 to R343) -/

/-- The generation a handle names. -/
def kvGen (h : DWord) : Nat := (h.extractLsb' 48 16).toNat
/-- The KV tenant a handle names. -/
def kvTenant (h : DWord) : Nat := (h.extractLsb' 40 8).toNat
/-- The handle-table index. -/
def kvIndex (h : DWord) : Nat := (h.extractLsb' 20 20).toNat
/-- The bound on the token count. -/
def kvBound (h : DWord) : Nat := (h.extractLsb' 0 20).toNat

/-- A handle-table entry (R341), with its address; `spare` is its reserved bits. -/
structure KvEntry where
  at_ : Nat
  gen : Nat
  tenant : Nat
  psz : Nat
  length : Nat
  heads : Nat
  rowb : Nat
  hstride : Nat
  voff : Nat
  npages : Nat
  cap : Nat
  list : Nat
  spare : Nat
  deriving DecidableEq, Repr

/-- Read the entry of an index of a partition's table. -/
def State.kvEntry (s : State) (part index : Nat) : KvEntry :=
  let a := (s.part part).htbase.toNat + 64 * index
  { at_ := a, gen := s.gNat a 2, tenant := s.gNat (a + 2) 1, psz := s.gNat (a + 3) 1, length := s.gNat (a + 4) 4,
    heads := s.gNat (a + 8) 2, rowb := s.gNat (a + 10) 2, hstride := s.gNat (a + 12) 4, voff := s.gNat (a + 16) 4,
    npages := s.gNat (a + 20) 4, cap := s.gNat (a + 24) 4, list := s.gNat (a + 32) 8,
    spare := s.gNat (a + 28) 4 + s.gNat (a + 40) 24 }

/-- The layout of an entry breaks R342. -/
def KvEntry.malformed (e : KvEntry) : Bool :=
  let last := (e.heads - 1) * e.hstride + 16 * e.rowb
  decide (e.spare ≠ 0 ∨ 4 < e.psz ∨ e.heads < 1 ∨ 128 < e.heads ∨ e.rowb % 64 ≠ 0 ∨ e.rowb < 64 ∨ 4096 < e.rowb
    ∨ 0xFFFFF < e.length ∨ e.cap < e.npages ∨ e.list % 4 ≠ 0 ∨ e.hstride < 16 * e.rowb ∨ e.voff < last
    ∨ 65536 * 2 ^ e.psz < e.voff + last ∨ e.hstride % 64 ≠ 0 ∨ e.voff % 64 ≠ 0)

/-- Checks 1 to 4 of a handle (R340): the entry it names. -/
def State.kvLookup (s : State) (part : Nat) (h : DWord) : Option KvEntry :=
  let p := s.part part
  let first := (p.kvten.extractLsb' 0 8).toNat
  let count := (p.kvten.extractLsb' 8 8).toNat
  if p.htcount.toNat ≤ kvIndex h then none
  else
    let e := s.kvEntry part (kvIndex h)
    if kvTenant h < first ∨ first + count ≤ kvTenant h ∨ kvTenant h ≠ e.tenant then none
    else if kvGen h ≠ e.gen then none
    else if e.malformed then none
    else some e

/-! ### The KV page table (R344, R345) -/

/-- The low and the high half of a page's entry. -/
def State.kvLow (s : State) (part n : Nat) : DWord := BitVec.ofNat 64 (s.gNat ((s.part part).kvptbase.toNat + 16 * n) 8)
/-- The high half. -/
def State.kvHigh (s : State) (part n : Nat) : DWord := BitVec.ofNat 64 (s.gNat ((s.part part).kvptbase.toNat + 16 * n + 8) 8)

/-- Write a page's entry in one step. -/
def State.kvPut (s : State) (part n : Nat) (hi lo : DWord) : State :=
  s.gPut ((s.part part).kvptbase.toNat + 16 * n) (bytesOf (lo.toNat + 2 ^ 64 * hi.toNat) 16)

/-- V of a page. -/
def kvValid (lo : DWord) : Bool := lo.getLsbD 63
/-- COUNT of a page. -/
def kvCount (lo : DWord) : Nat := (lo.extractLsb' 0 8).toNat
/-- READERS of a page. -/
def kvReaders (hi : DWord) : Nat := (hi.extractLsb' 16 16).toNat
/-- ADDR of a page. -/
def kvAddr (lo : DWord) : Nat := (lo.extractLsb' 16 36).toNat * 65536

/-- The low half from its fields: V, COW, PEND, ADDR, COUNT. -/
def kvLowOf (v pend : Bool) (addr count : Nat) : DWord :=
  BitVec.ofNat 64 ((if v then 2 ^ 63 else 0) + (if 1 < count then 2 ^ 62 else 0) + (if pend then 2 ^ 61 else 0)
    + addr + count % 256)

/-- The free-list head and the free count. -/
def State.kvHead (s : State) (part : Nat) : Nat := s.gNat (s.part part).kvptbase.toNat 4
/-- The free count. -/
def State.kvFreeCount (s : State) (part : Nat) : Nat := s.gNat ((s.part part).kvptbase.toNat + 4) 4

/-- Free a page: V := 0, and it is pushed at the head of the free list. -/
def State.kvFree (s : State) (part n : Nat) : State :=
  let head := s.kvHead part
  let s1 := s.kvPut part n (BitVec.ofNat 64 (head * 2 ^ 32)) (kvLowOf false false (kvAddr (s.kvLow part n)) 0)
  (s1.gPutNat (s.part part).kvptbase.toNat n 4).gPutNat ((s.part part).kvptbase.toNat + 4) (s.kvFreeCount part + 1) 4

/-- One more holder of a page. -/
def State.kvRaise (s : State) (part n : Nat) : State :=
  let lo := s.kvLow part n
  s.kvPut part n (s.kvHigh part n) (kvLowOf (kvValid lo) (lo.getLsbD 61) (kvAddr lo) (kvCount lo + 1))

/-- One holder fewer: at 0 the page is freed, or awaits its last reader. -/
def State.kvLower (s : State) (part n : Nat) : State :=
  let lo := s.kvLow part n
  let hi := s.kvHigh part n
  if kvCount lo ≤ 1 then
    if kvReaders hi = 0 then s.kvFree part n else s.kvPut part n hi (kvLowOf (kvValid lo) true (kvAddr lo) 0)
  else s.kvPut part n hi (kvLowOf (kvValid lo) (lo.getLsbD 61) (kvAddr lo) (kvCount lo - 1))

/-- A KVLD begins to read a page. -/
def State.kvReaderIn (s : State) (part n : Nat) : State :=
  s.kvPut part n (s.kvHigh part n + 0x10000#64) (s.kvLow part n)

/-- A KVLD has done with a page: the last reader of a page that awaits it frees it. -/
def State.kvReaderOut (s : State) (part n : Nat) : State :=
  let lo := s.kvLow part n
  let hi := s.kvHigh part n - 0x10000#64
  let s1 := s.kvPut part n hi lo
  if kvReaders hi = 0 ∧ lo.getLsbD 61 = true then s1.kvFree part n else s1

/-- Pop the head of the free list for a service (R345): V := 1 and COUNT := 1. -/
def State.kvPop (s : State) (part : Nat) : Option (Nat × State) :=
  let n := s.kvHead part
  if n = 0 then none
  else
    let next := ((s.kvHigh part n).extractLsb' 32 32).toNat
    let s1 := s.kvPut part n (s.kvHigh part n) (kvLowOf true ((s.kvLow part n).getLsbD 61) (kvAddr (s.kvLow part n)) 1)
    some (n, (s1.gPutNat (s.part part).kvptbase.toNat next 4).gPutNat ((s.part part).kvptbase.toNat + 4)
      (s.kvFreeCount part - 1) 4)

/-- The page number at a position of an entry's list (R343). -/
def State.kvPage (s : State) (e : KvEntry) (pos : Nat) : Nat := s.gNat (e.list + 4 * pos) 4

/-- The offset in a page of the rows of a head of K or V. -/
def KvEntry.rowsAt (e : KvEntry) (tensor head : Nat) : Nat := (if tensor = 1 then e.voff else 0) + head * e.hstride

/-- The G-physical address of a row (R343). -/
def State.kvRow (s : State) (part : Nat) (e : KvEntry) (tensor head t : Nat) : Nat :=
  kvAddr (s.kvLow part (s.kvPage e (t / 16))) + e.rowsAt tensor head + t % 16 * e.rowb

/-! ### Checks -/

/-- The range check of a KVLD (R340, 5). -/
def kvldRange (h : DWord) (e : KvEntry) (first count head : Nat) : Bool :=
  decide (first + count ≤ kvBound h ∧ first + count ≤ e.length ∧ head < e.heads)

/-- The range check of a KVAPP of `count` tokens from length L (R340, 5). -/
def kvappRange (h : DWord) (e : KvEntry) (l count : Nat) : Bool :=
  decide (l + count ≤ kvBound h ∧ (l + count + 15) / 16 ≤ e.cap)

/-- The range check of a KVFORK, and the counts it would raise (R204, R340, 5). -/
def State.kvforkRange (s : State) (part : Nat) (hd : DWord) (src dst : KvEntry) : Bool :=
  decide (dst.npages = 0 ∧ src.length ≤ kvBound hd ∧ src.npages ≤ dst.cap)
    && (List.range src.npages).all (fun p => decide (kvCount (s.kvLow part (s.kvPage src p)) < 255))

/-- What a target page of a KVAPP needs: nothing, a page, or a copy of a shared one (R204, R335). -/
def State.kvNeed (s : State) (part : Nat) (e : KvEntry) (pos : Nat) : Option Nat :=
  if e.npages ≤ pos then some 0
  else
    let lo := s.kvLow part (s.kvPage e pos)
    if !kvValid lo then some 0 else if 1 < kvCount lo then some 1 else none

/-- The first target page of a KVAPP that needs service: its position and need. -/
def State.kvTarget (s : State) (part : Nat) (e : KvEntry) (l count : Nat) : Option (Nat × Nat) :=
  if count = 0 then none
  else ((List.range ((l + count - 1) / 16 + 1 - l / 16)).map (fun i => l / 16 + i)).findSome? (fun pos =>
    (s.kvNeed part e pos).map (fun n => (pos, n)))

/-- The tokens of the acting context's earlier KVAPPs to an entry that have not completed (R335); the length counts those that have
performed. -/
def State.kvAhead (s : State) (index : Nat) : Nat :=
  s.me.ops.foldl (fun n o => match o.kind with
    | .kvapp h _ count => if o.tag = s.ctx.tag ∧ kvIndex h = index ∧ o.performed = false then n + count else n
    | _ => n) 0

/-! ### The page service (R336, R346) -/

/-- Copy bytes of G-physical memory, each word with the mark of the line it is read from (R392). -/
def State.gCopy (s : State) (to_ from_ n : Nat) : State :=
  let t := s.gPut to_ (s.gBytes from_ n)
  { t with gpoison := (List.range (n / 4)).foldl (fun m i => m.write false (to_ / 4 + i) (linePoison s.gpoison (from_ + 4 * i))) t.gpoison }

/-- KV_PAGE_SERVICE: pop a page, copy the covered rows of a page that the request found shared, install it, and lower the shared
page's count. It answers nothing when no page is free. -/
def State.kvService (s : State) (part index pos : Nat) (shared : Bool) : Option State :=
  let s := s.recallAtomics
  let e := s.kvEntry part index
  match s.kvPop part with
  | none => none
  | some (n, s1) =>
    let old := s.kvPage e pos
    let from_ := kvAddr (s.kvLow part old)
    let to_ := kvAddr (s.kvLow part n)
    let slots := min 16 (e.length - 16 * pos)
    let places := (List.range e.heads).flatMap (fun h => [e.rowsAt 0 h, e.rowsAt 1 h])
    let s2 := if shared then places.foldl (fun t a => t.gCopy (to_ + a) (from_ + a) (slots * e.rowb)) s1 else s1
    let s3 := s2.gPutNat (e.list + 4 * pos) n 4
    let s4 := if pos = e.npages then s3.gPutNat (e.at_ + 20) (pos + 1) 4 else s3
    some (if shared then s4.kvLower part old else s4)

/-! ### Performance (R345, R347) -/

/-- The KVHANDLE trap of an operation. -/
def COp.kvTrap (o : COp) (c : Cause) (h : DWord) : COp := { o with fault := some (o.trap c h.toNat) }

/-- The tables as a KV instruction that performs takes them: what its stream orders before it is visible (R308), and every atomic
(R311). -/
def State.kvOpen (s : State) (rank : Nat) (o : COp) : State := (s.before rank o).recallAtomics

/-- One step of a KVLD: its check and its pages' readers when it starts, then its rows (R343, R345); the readers leave when it has
completed. -/
def State.kvldStep (s : State) (rank : Nat) (o : COp) (h : DWord) (dst first count head tensor : Nat) : State :=
  if o.kvPages = [] then
    let s := s.kvOpen rank o
    match s.kvLookup o.part h with
    | none => s.setOp rank (o.kvTrap .kvhandle h)
    | some e =>
      if !kvldRange h e first count head then s.setOp rank (o.kvTrap .kvhandle h)
      else
        let pages := ((List.range ((first + count - 1) / 16 + 1 - first / 16)).map (fun i => s.kvPage e (first / 16 + i)))
        if pages.any (fun n => decide (65535 ≤ kvReaders (s.kvHigh o.part n))) then s
        else
          let s1 := pages.foldl (fun t n => t.kvReaderIn o.part n) s
          State.setOp { s1 with kvReads := s1.kvReads ++ pages.map (fun n => ⟨rank, o.id, o.part, n, o.key⟩) } rank
          { o with kvPages := pages.map (fun n => (n, kvAddr (s.kvLow o.part n))), kvOff := e.rowsAt tensor head, kvRow := e.rowb }
  else
    let t := first + o.unit
    let page := o.kvPages.getD (t / 16 - first / 16) (0, 0)
    s.moveStep rank o ⟨⟨1, 0, page.2 + o.kvOff + t % 16 * o.kvRow⟩, ⟨2, rank, dst + o.unit * o.kvRow⟩, o.kvRow⟩
      count false false

/-- A KVAPP performs (R335, R347): its checks again, every row to its place, then the length, as one step. -/
def State.kvappPerform (s : State) (rank : Nat) (o : COp) (h : DWord) (count : Nat) : State :=
  let s := s.kvOpen rank o
  match s.kvLookup o.part h with
  | none => s.setOp rank (o.kvTrap .kvhandle h)
  | some e =>
    if !kvappRange h e e.length count then s.setOp rank (o.kvTrap .kvhandle h)
    else if (s.kvTarget o.part e e.length count).isSome then s.setOp rank (o.kvTrap .kvcow h)
    else
      let rows := 2 * e.heads
      let s1 := (List.range (count * rows)).foldl (fun t u =>
        let a := s.kvRow o.part e (u % rows / e.heads) (u % rows % e.heads) (e.length + u / rows)
        t.gPut a ((o.got (u * e.rowb) e.rowb).map Prod.fst) ((o.got (u * e.rowb) e.rowb).any Prod.snd)) s
      (s1.gPutNat (e.at_ + 4) (e.length + count) 4).setOp rank
        { o with performed := true, bytes := count * rows * e.rowb }

/-- A KV instruction that changes the tables may perform: it asks for no record, or its record can be written, so that it completes in
the cycle in which the tables change (R99, R335). -/
def Core.recordRoom (c : Core) (o : COp) : Bool :=
  !o.event || decide (c.events.length + c.held.length
    + (c.ops.filter (fun p => p.wantsRecord && p.performed && !c.held.any (fun h => h.op = some p.id))).length < 256)

/-- One step of a KVAPP: its rows are read from A-space, then it performs. -/
def State.kvappStep (s : State) (rank : Nat) (o : COp) (h : DWord) (src count : Nat) : State :=
  let e := (s.ownView rank).kvEntry o.part (kvIndex h)
  let leg : Leg := ⟨⟨2, rank, src⟩, ⟨1, 0, 0⟩, count * 2 * e.heads * e.rowb⟩
  if o.stage = 0 then s.setOp rank (o.load leg)
  else if o.todoR ≠ [] then s.moveStep rank o leg 1 false false
  else if (s.core rank).recordRoom o then s.kvappPerform rank o h count else s

/-- KVFORK performs, in one step (R347). -/
def State.kvforkStep (s : State) (rank : Nat) (o : COp) (h hd : DWord) : State :=
  let s := s.kvOpen rank o
  match s.kvLookup o.part h, s.kvLookup o.part hd with
  | some src, some dst =>
    if !s.kvforkRange o.part hd src dst then s.setOp rank (o.kvTrap .kvhandle hd)
    else
      let pages := (List.range src.npages).map (fun p => s.kvPage src p)
      let s1 := (List.range src.npages).foldl (fun t p => t.gPutNat (dst.list + 4 * p) (pages.getD p 0) 4) s
      let s2 := pages.foldl (fun t n => t.kvRaise o.part n) s1
      ((s2.gPutNat (dst.at_ + 4) src.length 4).gPutNat (dst.at_ + 20) src.npages 4).setOp rank { o with performed := true }
  | none, _ => s.setOp rank (o.kvTrap .kvhandle h)
  | _, none => s.setOp rank (o.kvTrap .kvhandle hd)

/-- KVREL performs (R203, R345). -/
def State.kvrelStep (s : State) (rank : Nat) (o : COp) (h : DWord) : State :=
  let s := s.kvOpen rank o
  match s.kvLookup o.part h with
  | none => s.setOp rank (o.kvTrap .kvhandle h)
  | some e =>
    let pages := (List.range e.npages).map (fun p => s.kvPage e p)
    let s1 := pages.foldl (fun t n => t.kvLower o.part n) s
    (((s1.gPutNat e.at_ ((e.gen + 1) % 65536) 2).gPutNat (e.at_ + 4) 0 4).gPutNat (e.at_ + 20) 0 4).setOp rank
      { o with performed := true }

/-- An earlier KVAPP to the same entry is performing: the KVAPPs of one entry perform one whole instruction at a time (R347). -/
def State.kvappBusy (s : State) (part : Nat) (h : DWord) : Bool :=
  s.cores.any (fun c => c.2.ops.any (fun o => match o.kind with
    | .kvapp g _ _ => o.begun && decide (o.part = part ∧ kvIndex g = kvIndex h)
    | _ => false))

/-- A KVLD is no longer under way: it has completed, its record written (R99), or was cancelled. -/
def State.kvOver (s : State) (r : KvRead) : Bool := (s.core r.rank).ops.all (fun o => decide (o.id ≠ r.op))

/-- The readers of the KVLDs that are over leave their pages (R345, R350). -/
def State.kvLeave (s : State) : State :=
  (s.kvReads.filter s.kvOver).foldl (fun t r => (t.flushStreams r.rank [r.key]).recallAtomics.kvReaderOut r.part r.page) { s with kvReads := s.kvReads.filter (fun r => !s.kvOver r) }

/-- HANDLE_ENTRY_ARRIVAL (R203): the entry that a held KV instruction waits for comes nearer, frozen or not. -/
def Core.handleAdvance (c : Core) : Core := { c with handleWait := c.handleWait.map (fun n => n - 1) }

end Sys2Proof.Machine
end

