-- ==== Sys2Proof/Machine/MatrixEngine.lean ====
section
/-! DEFINITION. The matrix engine (R71, R72, R164 to R180, R245 to R252): chunks and their operands, the load pipes, the
B port, exact sums with one rounding, commits, and commands that are abandoned. -/
namespace Sys2Proof.Machine
open Sys2Proof

/-! ### Chunks (R71, R172, R174, R175) -/

/-- The k values of one chunk. -/
def MCmd.k (m : MCmd) : Nat := (pairOf m.cfg).1
/-- The chunks of one block of an MMA. -/
def MCmd.perBlock (m : MCmd) : Nat := (nestCount m.nest 0 + m.k - 1) / m.k
/-- B is lattice data. -/
def MCmd.lat (m : MCmd) : Bool := decide (cfgB m.cfg = 11)
/-- A scale array is bound to a lat8 B operand (R72, R177). -/
def MCmd.scaled (m : MCmd) : Bool := m.lat && decide (mlatMode m.mlat ≠ 0)
/-- The words of a scale group. -/
def MCmd.group (m : MCmd) : Nat := lfmtGroup (mlatCopy m.mlat)
/-- The present k-groups of an MMAS, in order. -/
def MCmd.present (m : MCmd) : List Nat := (List.range m.skips.length).filter (fun g => m.skips.getD g 0 ≠ 0)
/-- The chunks of a present k-group of an MMAS. -/
def MCmd.perGroup (m : MCmd) : Nat := (8 + m.k - 1) / m.k
/-- The bytes of a B element or lat8 word. -/
def MCmd.eb (m : MCmd) : Nat := elemBytes (cfgB m.cfg)
/-- The bytes of an A element. -/
def MCmd.ea (m : MCmd) : Nat := elemBytes (cfgA m.cfg)

/-- The block and the k values of chunk `q` of an MMA; for an MMAS the block is 0 and k counts from the start. R71 and R72 let the
positions k at and beyond the count contribute zero products, whose signs they do not give: the model adds none (DESIGN CHOICE, Log 72). -/
def MCmd.chunkKs (m : MCmd) (q : Nat) : Nat × List Nat :=
  match m.kind with
  | .mmas =>
    let g := m.present.getD (q / m.perGroup) 0
    (0, ((List.range m.k).map (fun i => q % m.perGroup * m.k + i)).filter (fun i => i < 8) |>.map (fun i => 8 * g + i))
  | _ =>
    (q / m.perBlock, ((List.range m.k).map (fun i => q % m.perBlock * m.k + i)).filter (fun i => i < nestCount m.nest 0))

/-- The number of present blocks of an MMAS before column block `c` of k-group `g` (R175). -/
def MCmd.blocksBefore (m : MCmd) (g c : Nat) : Nat :=
  presentBlocks (m.skips.take g) + ((List.range c).filter (fun i => (m.skips.getD g 0).getLsbD i)).length

/-- Column `j` has a product at this k: always for a dense command, and in its present blocks for an MMAS. -/
def MCmd.has (m : MCmd) (kk j : Nat) : Bool :=
  match m.kind with
  | .mmas => (m.skips.getD (kk / 8) 0).getLsbD (j / 8)
  | _ => true

/-- The address of element (i, kk) of A. -/
def MCmd.addrOfA (m : MCmd) (b kk i : Nat) : DWord :=
  addrA m.nest m.levels m.baseA b kk + BitVec.ofNat 64 (i * m.ea)

/-- The address of element (kk, j) of B, or of the lat8 word that holds it (R172, R175). -/
def MCmd.addrOfB (m : MCmd) (b kk j : Nat) : DWord :=
  match m.kind with
  | .mmas => m.baseB + BitVec.ofNat 64 ((64 * m.blocksBefore (kk / 8) (j / 8) + 8 * (kk % 8) + j % 8) * m.eb)
  | _ => addrB m.nest m.levels m.baseB m.lat b kk + BitVec.ofNat 64 (j * m.eb)

/-- The chunk that reads the lat8 words of chunk `q`: the one that consumes their element 0, or the first that a restart consumes
(R180, R246). -/
def MCmd.wordChunk (m : MCmd) (q : Nat) : Nat := if m.lat then max m.skip (q - (q % m.perBlock * m.k % 8) / m.k) else q

/-- The B reads of chunk `q`: place, block, k and column. A lat8 word is read once (R246). -/
def MCmd.readsB (m : MCmd) (q : Nat) : List (Nat × Nat × Nat × Nat) :=
  let c := m.chunkKs q
  (c.2.zip (List.range c.2.length)).flatMap (fun p =>
    if m.lat && (decide (m.wordChunk q ≠ q) || decide (p.2 ≠ 0)) then []
    else ((List.range 64).filter (m.has p.1)).map (fun j => (q * 8192 + 4096 + p.2 * 64 + j, c.1, p.1, j)))

/-- The A reads of chunk `q`: place, block, k and row. -/
def MCmd.readsA (m : MCmd) (q : Nat) : List (Nat × Nat × Nat × Nat) :=
  let c := m.chunkKs q
  (c.2.zip (List.range c.2.length)).flatMap (fun p => (List.range 64).map (fun i => (q * 8192 + p.2 * 64 + i, c.1, p.1, i)))

/-! ### The load pipes (R247) -/

/-- The agent that asks for a command's translations. -/
def MCmd.asker (m : MCmd) (rank : Nat) (pipeB : Bool) : Asker :=
  { rank := rank, unit := if pipeB then 9 else 8, op := m.id, ctx := m.ctx, part := m.part, priv := m.priv, heap := m.heap }

/-- Replace a command. -/
def State.setCmd (s : State) (rank : Nat) (m : MCmd) : State :=
  let c := s.core rank
  s.setCore rank { c with cmds := c.cmds.map (fun k => if k.id = m.id then m else k) }

/-- Where a pipe finds an address: in memory, here or in another package (R247). -/
abbrev PipePlace := Nat × Option Nat

/-- Translate an address for a pipe: its place, or none where it must wait or has met a fault, which the chunk takes (R179). -/
def State.pipeAddr (s : State) (rank q : Nat) (m : MCmd) (pipeB : Bool) (va : Nat) : Option PipePlace × State × MCmd :=
  let t := s.translate (m.asker rank pipeB) m.pages va false
  match t.1 with
  | .wait => (none, t.2.1, m)
  | .fault c => (none, t.2.1, { m with
      faults := m.faults.put (if pipeB then 1 else 0) (q, { cause := c, slot := 3, info := BitVec.ofNat 64 va }) })
  | .ok pa pkg => (some (pa, pkg), t.2.1, { m with pages := t.2.2 })

/-- The name of a line in a command's pipes. -/
def lineKey (pipeB : Bool) (p : PipePlace) : Nat :=
  ((match p.2 with
    | none => 0
    | some k => k + 1) * 2 ^ 64 + p.1 / 128) * 2 + (if pipeB then 1 else 0)

/-- Fetch the line of a place, all of it at once: its words keep what they hold now (R247). -/
def State.fetchLine (s : State) (rank : Nat) (m : MCmd) (pipeB : Bool) (p : PipePlace) : State :=
  let tag := ((s.core rank).ctx m.ctx).tag
  let base := p.1 / 128 * 128
  let keep := fun (u : State) (bs : List (Byte × Bool)) =>
    ({ u with free := u.free + 1 } : State).setCmd rank { m with lines := m.lines.put (lineKey pipeB p) bs }
  match p.2 with
  | none => keep s ((List.range 128).map (fun i => s.gSeen rank tag (base + i)))
  | some k =>
    let r := s.sendFlit (tag * 16) m.part k 0 base []
    if r.1 then keep r.2 ((List.range 128).map (fun i => (Config.freeByteAt r.2.free (base + i), false))) else r.2.setCmd rank m

/-- A byte of a line that a pipe holds. -/
def MCmd.lineByte (m : MCmd) (pipeB : Bool) (p : PipePlace) : Byte × Bool :=
  (m.lines.get [] (lineKey pipeB p)).getD (p.1 % 128) (0, false)

/-- The bytes a pipe fetches for the chunks between the one to be consumed next and chunk `q` (R247). -/
def MCmd.ahead (m : MCmd) (pipeB : Bool) (q : Nat) : Nat :=
  let at_ := m.skip + m.next
  ((List.range (q - at_)).map (fun i =>
    if pipeB then (m.readsB (at_ + i)).length * m.eb else (m.readsA (at_ + i)).length * m.ea)).sum

/-- One step of a load pipe: a line is fetched, or an element of the lines it holds goes to its place, or the chunk is done and the
next begins. Whether the lines stay in L1 between chunks is open (R247; DESIGN CHOICE, Log 6). -/
def State.fetchOne (s : State) (rank id : Nat) (pipeB : Bool) : State :=
  match (s.core rank).cmds.find? (fun m => m.id = id) with
  | none => s
  | some m =>
    if (m.faults.find (if pipeB then 1 else 0)).isSome then s
    else
      let f := max (if pipeB then m.fetchB else m.fetchA) (m.skip * 8192)
      let q := f / 8192
      let reads := if pipeB then m.readsB q else m.readsA q
      let move := fun (m : MCmd) (f : Nat) => if pipeB then { m with fetchB := f } else { m with fetchA := f }
      let n := if pipeB then m.eb else m.ea
      if m.total ≤ q ∨ 32768 < m.ahead pipeB q then s
      else match reads[f % 8192]? with
        | none =>
          let r := s.freshBool
          r.2.setCmd rank (move { m with lines := if r.1 then m.lines.filter (fun l => l.1 % 2 ≠ (if pipeB then 1 else 0)) else m.lines }
            ((q + 1) * 8192))
        | some r =>
          let va := (if pipeB then m.addrOfB r.2.1 r.2.2.1 r.2.2.2 else m.addrOfA r.2.1 r.2.2.1 r.2.2.2).toNat
          let last := max va ((va + n - 1) / 65536 * 65536)
          match s.pipeAddr rank q m pipeB va with
          | (none, t, k) => t.setCmd rank k
          | (some p, t, k) => match t.pipeAddr rank q k pipeB last with
            | (none, u, d) => u.setCmd rank d
            | (some l, u, d) =>
              let places := (List.range n).map (fun i =>
                if va + i < last then (p.1 + i, p.2) else (l.1 + (va + i - last), l.2))
              match places.find? (fun a => (d.lines.find (lineKey pipeB a)).isNone) with
              | some a => u.fetchLine rank d pipeB a
              | none =>
                let bs := places.map (d.lineByte pipeB)
                u.setCmd rank (move { d with
                  fetchVal := d.fetchVal.put r.1 (natOfBytes (bs.map Prod.fst)), fetchBad := d.fetchBad.write false r.1 (bs.any Prod.snd) } (f + 1))

/-- A number of fetches of one pipe. -/
def State.fetchMany (s : State) (rank id : Nat) (pipeB : Bool) : Nat → State
  | 0 => s
  | n + 1 => (s.fetchOne rank id pipeB).fetchMany rank id pipeB n

/-- The load pipes of the acting core fetch for every command, frozen or not; how far they get is free (R247, DESIGN CHOICE, Log 6). A
discarded command whose context has left its slot is no slot's: nothing is fetched for it (R234). -/
def State.loadPipes (s : State) : State :=
  s.me.cmds.foldl (fun t m =>
    if m.kind = .mmv ∨ 3 < m.ctx then t
    else
      let t1 := if cfgAsrc m.cfg = 1 then { t with free := t.free + 1 }.fetchMany t.cur m.id false (Config.freeNat t.free) else t
      if cfgBsrc m.cfg = 1 then { t1 with free := t1.free + 1 }.fetchMany t1.cur m.id true (Config.freeNat t1.free) else t1) s

/-- A pipe has what chunk `q` needs. -/
def MCmd.fetchedFor (m : MCmd) (q : Nat) (pipeB : Bool) : Bool :=
  let f := if pipeB then m.fetchB else m.fetchA
  decide (q * 8192 + (if pipeB then m.readsB q else m.readsA q).length ≤ f)

/-! ### The rows of an MMV (R174, R258) -/

/-- The output and the row within it of weight row `r`. -/
def MCmd.mmvAt (m : MCmd) (r : Nat) : Nat × Nat := (r / mmvPer m.cfg m.nest, r % mmvPer m.cfg m.nest)

/-- The W row of weight row `r`. -/
def MCmd.mmvRow (m : MCmd) (r : Nat) : Nat :=
  (addInt m.baseB (((m.mmvAt r).1 : Int) * levelStride m.nest 1 1 + ((m.mmvAt r).2 : Int))).toNat

/-- The k values a weight row holds. -/
def MCmd.mmvKs (m : MCmd) (r : Nat) : List Nat :=
  ((List.range (rowElems (cfgB m.cfg))).map (fun e => (m.mmvAt r).2 * rowElems (cfgB m.cfg) + e)).filter
    (fun kk => kk < nestCount m.nest 0)

/-- The address of an activation. -/
def MCmd.actAddr (m : MCmd) (bt kk : Nat) : DWord :=
  addInt m.baseA ((bt : Int) * levelStride m.nest 2 0) + BitVec.ofNat 64 (kk * m.ea)

/-- The attributes of a weight row's page, as the command was checked against them (R257). -/
def MCmd.attrOf (m : MCmd) (row : Nat) : Word := m.attrs.get 0 (row / 2048)

/-- The scale row of the weight row `r` under mode 2 (R258). -/
def MCmd.scaleRowFor (m : MCmd) (r : Nat) : Option Nat :=
  if m.lat && decide (mlatMode m.mlat = 2) && decide (r < m.total) then
    some (scaleRow (m.attrOf (m.mmvRow r)) (scaleEntry (m.mmvRow r) 0 m.group)) else none

/-- The scale row of the weight row `r`, while it has not been read. -/
def MCmd.scaleUnread (m : MCmd) (r : Nat) : Option Nat := (m.scaleRowFor r).filter (fun k => (m.scaleRows.find k).isNone)

/-! ### What a chunk waits for -/

/-- The A-space words that a chunk reads (R246). -/
def MCmd.chunkWords (m : MCmd) (q : Nat) : List Nat :=
  let words := fun (a : DWord) (n : Nat) => (List.range ((n + 3) / 4)).map (fun i => a.toNat / 4 + i)
  match m.kind with
  | .mmv => (m.mmvKs q).flatMap (fun kk => (List.range (nestCount m.nest 2)).flatMap (fun bt => words (m.actAddr bt kk) m.ea))
  | _ => (if cfgAsrc m.cfg = 0 then (m.readsA q).flatMap (fun r => words (m.addrOfA r.2.1 r.2.2.1 r.2.2.2) m.ea) else [])
      ++ (if cfgBsrc m.cfg = 0 then (m.readsB q).flatMap (fun r => words (m.addrOfB r.2.1 r.2.2.1 r.2.2.2) m.eb) else [])

/-- Chunk `q` of an MMA through the W port takes a row: it begins a new one, or a restart begins within it (R172, R180; DEDUCED,
Log 55). -/
def MCmd.needsRow (m : MCmd) (q : Nat) : Bool :=
  decide (cfgBsrc m.cfg = 2) && (m.kind == .mma) &&
    decide (q = m.skip ∨ q % m.perBlock * m.k % (if m.lat then 16 else 512 / (64 * m.eb)) = 0)

/-- The next chunk of a command at an age, when it is due there (R245). -/
def MCmd.dueAt (m : MCmd) (age : Nat) : Option Nat :=
  if m.next + m.skip < m.total ∧ age = 12 + m.next * m.period then some (m.skip + m.next) else none

/-- What a chunk that is due finds. -/
inductive ChunkWait where
  | go
  /-- It waits: bank conflicts, late data, a row in flight, a W-bank. -/
  | wait
  | starved
  deriving DecidableEq, Repr

/-- The row that is due in the engine cycle after `e` (R174). -/
def MCmd.nextDue (m : MCmd) (e : Nat) : Option Nat :=
  match m.dueAt e with
  | some q => if m.period = 1 ∧ q + 1 < m.total then some (q + 1) else none
  | none => m.dueAt (e + 1)

/-- The extra cycles that bank conflicts of A-space cost a chunk or row (R246). -/
def MCmd.conflicts (m : MCmd) (q : Nat) : Nat := bankLoad (m.chunkWords q) - 1

/-- The fault that a chunk has met in its load pipes (R179): that of A before that of B (DESIGN CHOICE, Log 64). -/
def MCmd.pipeFault (m : MCmd) (q : Nat) : Option Trap :=
  [0, 1].findSome? (fun i => (m.faults.find i).bind (fun f => if f.1 = q then some f.2 else none))

/-- A chunk has met a fault of its load pipes (R179). -/
def MCmd.faultAt (m : MCmd) (q : Nat) : Bool := (m.pipeFault q).isSome

/-- A chunk takes its row from the port, and none is there or on its way (R173). -/
def MCmd.starvedAt (m : MCmd) (c : Core) (q : Nat) : Bool :=
  m.needsRow q && (c.port.find? (fun p => !p.dropped)).isNone

/-- Something that a chunk or row needs has not come: its W-bank, its scale row, its G-space operands, a row in flight. -/
def MCmd.lacks (m : MCmd) (s : State) (q : Nat) : Bool :=
  if m.kind = .mmv then (!m.taken && !s.bankReady s.cur (bankOf (m.mmvRow q))) || (m.scaleUnread q).isSome
  else decide (cfgAsrc m.cfg = 1 ∧ m.ctx < 4 ∧ m.fetchedFor q false = false)
    || decide (cfgBsrc m.cfg = 1 ∧ m.ctx < 4 ∧ m.fetchedFor q true = false)
    || (m.needsRow q && (match s.me.port.find? (fun p => !p.dropped) with
      | some p => decide (1 < p.wait)
      | none => false))

/-- The scale rows that an engine cycle reads: that of the row that is due, where it has not been read before, and that of the next
row (R258). -/
def MCmd.scaleNeeds (m : MCmd) (e : Nat) : List Nat := ((m.dueAt e).toList ++ (m.nextDue e).toList).filterMap m.scaleUnread

/-- The bank of a scale row that an engine cycle reads takes the read now: not the bank that the cycle's own row is read from
(R258, R260). -/
def MCmd.scaleReady (m : MCmd) (s : State) (e : Nat) : Bool :=
  (m.scaleNeeds e).all (fun r => s.bankReady s.cur (bankOf r) && (match m.dueAt e with
    | some q => m.taken || decide (bankOf (m.mmvRow q) ≠ bankOf r)
    | none => true))

/-- What an engine cycle of a command waits for: what its chunk or row needs, the bank conflicts, which begin in the cycle in which it
is due and pass beside any other wait (R246, R251), and the scale row of the next row. -/
def MCmd.waits (m : MCmd) (s : State) (e : Nat) : ChunkWait :=
  if m.pause ≠ 0 then .wait
  else match m.dueAt e with
  | none => if m.scaleReady s e then .go else .wait
  | some q =>
    if m.faultAt q then .go
    else if m.lacks s q then .wait
    else if m.starvedAt s.me q then .starved
    else if m.conflicts q ≠ 0 ∧ m.stall ≠ some 0 then .wait
    else if m.scaleReady s e then .go else .wait

/-! ### Consuming a chunk (R71, R72) -/

/-- A product in the engine: a NaN operand is invalid (R71). -/
def matMul (x y : XNum) : XNum × FpFlags :=
  if x.isNaN || y.isNaN then (.nan false, flagNV) else x.mul y

/-- The exact sum of products, in ascending k; `none` for no product. -/
def sumProducts : List (XNum × XNum) → Option (XNum × FpFlags)
  | [] => none
  | p :: rest =>
    let m := matMul p.1 p.2
    match sumProducts rest with
    | none => some m
    | some r =>
      let a := m.1.add r.1
      some (a.1, m.2 ||| r.2 ||| a.2)

/-- Add an exact value to an accumulator with one rounding; INT32 wraps and sets IOV (R71). -/
def accumulate (fmt : AccFmt) (acc : Nat) (x : XNum) : Nat × FpFlags :=
  match fmt with
  | .i32 =>
    let v := signedOf 32 acc + x.at 0
    ((BitVec.ofInt 32 v).toNat, flagIf (decide (v < -2147483648 ∨ 2147483647 < v)) flagIOV)
  | .f32 =>
    let a := (fp32.unpack acc).add x
    let r := fp32.round a.1
    (r.1, snanFlag (fp32.unpack acc) ||| a.2 ||| r.2)
  | .f64 =>
    let a := (fp64.unpack acc).add x
    let r := fp64.round a.1
    (r.1, snanFlag (fp64.unpack acc) ||| a.2 ||| r.2)

/-- An operand's value and poison. -/
abbrev Operand := XNum × Bool

/-- The value of an element of a type. -/
def operandValue (t : Nat) (fmt : Word) (v : Nat) : XNum := unpackElem t (nf8Fmt fmt) v

/-- The value of a B element; of a lat8 word, its doubled coordinate (R65, R248). -/
def MCmd.bValue (m : MCmd) (kk v : Nat) : XNum :=
  if m.lat then .ofInt ((latDoubled v).getD (kk % 8) 0) else operandValue (cfgB m.cfg) m.fmtB v

/-- An element in A-space as the core stood. -/
def Core.elem (c : Core) (a : DWord) (n : Nat) : Nat × Bool := (c.rBytes a.toNat n, c.anyPoison (a.toNat / 4 * 4) ((n + 3) / 4))

/-- A operand (i, kk) of chunk `q`. -/
def MCmd.opA (m : MCmd) (c : Core) (q b kk pos i : Nat) : Operand :=
  let v := if cfgAsrc m.cfg = 0 then c.elem (m.addrOfA b kk i) m.ea
    else (m.fetchVal.get 0 (q * 8192 + pos * 64 + i), m.fetchBad.get false (q * 8192 + pos * 64 + i))
  (operandValue (cfgA m.cfg) m.fmtA v.1, v.2)

/-- The lat8 words of A-space that chunk `q` reads are kept for the chunks that consume their other elements (R246). -/
def MCmd.readLat (m : MCmd) (c : Core) (q : Nat) : MCmd :=
  if !m.lat || decide (cfgBsrc m.cfg ≠ 0) || (m.kind == .mmv) then m
  else (m.readsB q).foldl (fun m r =>
    let v := c.elem (m.addrOfB r.2.1 r.2.2.1 r.2.2.2) m.eb
    { m with latVal := m.latVal.put r.2.2.2 v.1, latBad := m.latBad.write false r.2.2.2 v.2 }) m

/-- B operand (kk, j) of chunk `q`: A-space, G-space, or the row at the port. -/
def MCmd.opB (m : MCmd) (c : Core) (q b kk pos j : Nat) : Operand :=
  let v :=
    if m.kind ≠ .mmas ∧ cfgBsrc m.cfg = 2 then
      let kr := q % m.perBlock * m.k + pos
      let at_ := if m.lat then (kr % 16 / 8 * 64 + j) * 4 else (kr % (512 / (64 * m.eb)) * 64 + j) * m.eb
      (m.portRow.toNat / 2 ^ (8 * at_) % 2 ^ (8 * m.eb), m.portPoison)
    else if cfgBsrc m.cfg = 0 then
      if m.lat then (m.latVal.get 0 j, m.latBad.get false j) else c.elem (m.addrOfB b kk j) m.eb
    else
      let w := m.wordChunk q
      let p := if m.lat then 0 else pos
      (m.fetchVal.get 0 (w * 8192 + 4096 + p * 64 + j), m.fetchBad.get false (w * 8192 + 4096 + p * 64 + j))
  (m.bValue kk v.1, v.2)

/-- The scale of word `w` of column `j`, under mode 1 (R177): its A-space offset. Wk is the words that hold K elements, for an MMV as for an
MMA (DESIGN CHOICE, Log 64). -/
def MCmd.scaleAddr (m : MCmd) (kTotal j w : Nat) : Nat :=
  let wk := (kTotal + 7) / 8
  m.mlatBase.toNat + 2 * (j * ((wk + m.group - 1) / m.group) + w / m.group)

/-- A scale of FP16 from A-space. -/
def Core.scaleA (c : Core) (a : Nat) : Operand := (fp16.unpack (c.rBytes a 2), c.wordPoison a)

/-- The K of a command. -/
def MCmd.kTotal (m : MCmd) : Nat :=
  match m.kind with
  | .mma => blockCount m.nest m.levels * nestCount m.nest 0
  | _ => nestCount m.nest 0

/-- The place of k in its column, over all blocks of an MMA. -/
def MCmd.kGlobal (m : MCmd) (b kk : Nat) : Nat := b * nestCount m.nest 0 + kk

/-- A scale block ends with this k (R72). -/
def MCmd.blockEnds (m : MCmd) (kg : Nat) : Bool :=
  decide ((kg + 1) % (8 * m.group) = 0 ∨ kg + 1 = m.kTotal)

/-- Apply a scale to a partial: partial × s × ½, exact (R72). -/
def scalePartial (p s : XNum) : XNum × FpFlags :=
  let m := matMul p s
  ((m.1.mul (.ofScaled 1 (-1))).1, m.2)

/-- One element's step: the exact sum of its products in the chunk, and the scale to apply at the end of its block. -/
def stepElem (fmt : AccFmt) (scaled : Bool) (acc : Nat) (part : XNum) (sum : Option (XNum × FpFlags)) (scale : Option XNum) :
    Nat × XNum × FpFlags :=
  match sum with
  | none => (acc, part, 0)
  | some x =>
    if scaled then
      let p := part.add x.1
      match scale with
      | none => (acc, p.1, x.2 ||| p.2)
      | some sc =>
        let y := scalePartial p.1 sc
        let r := accumulate fmt acc y.1
        (r.1, .fin false 0 0, x.2 ||| p.2 ||| y.2 ||| r.2)
    else
      let r := accumulate fmt acc x.1
      (r.1, part, x.2 ||| r.2)

/-- Add one term to the sums, with its flags and poison. -/
def MCmd.addTerm (m : MCmd) (t : Term) : MCmd :=
  let r := stepElem (accFmtOf m.cfg m.mlat) m.scaled (m.sums.getD t.elem 0) (m.partials.getD t.elem (.fin false 0 0)) t.sum t.scale
  { m with
    sums := m.sums.set t.elem r.1, partials := m.partials.set t.elem r.2.1, flags := m.flags ||| r.2.2,
    poison := if t.bad then m.poison.write false t.elem true else m.poison }

/-- Add a chunk to the sums; at a block boundary they are what an abandoned command commits (R252). -/
def MCmd.addChunk (m : MCmd) (c : ChunkTerms) : MCmd :=
  let r := c.terms.foldl MCmd.addTerm m
  if c.ends then { r with blockSums := r.sums, blockStep := c.chunk + 1, blockFlags := r.flags, blockPoison := r.poison } else r

/-- A chunk has been consumed: it adds to the sums once the tile's starting values have been read (R170); a discarded command keeps
none. -/
def MCmd.took (m : MCmd) (c : ChunkTerms) : MCmd :=
  if m.discarded then m else if m.sums = [] then { m with early := m.early ++ [c] } else m.addChunk c

/-- The terms of chunk `q` of an MMA or an MMAS (R71, R72, R172, R175). -/
def MCmd.chunkTerms (m : MCmd) (c : Core) (q : Nat) : ChunkTerms :=
  let ks := m.chunkKs q
  let kps := ks.2.zip (List.range ks.2.length)
  let as := kps.map (fun kp => (List.range 64).map (fun i => m.opA c q ks.1 kp.1 kp.2 i))
  let bs := kps.map (fun kp => (List.range 64).map (fun j =>
    if m.has kp.1 j then some (m.opB c q ks.1 kp.1 kp.2 j) else none))
  let kg := m.kGlobal ks.1 (ks.2.getLastD 0)
  let ends := m.scaled && m.blockEnds kg
  let scales := (List.range 64).map (fun j => c.scaleA (m.scaleAddr m.kTotal j (kg / 8)))
  { chunk := q, ends := !m.scaled || ends
    terms := (List.range 4096).map (fun e =>
      let ps := (as.zip bs).filterMap (fun ab => match (ab.2.getD (e % 64) none) with
        | none => none
        | some b => some ((ab.1.getD (e / 64) (.fin false 0 0, false)), b))
      let sc := scales.getD (e % 64) (.fin false 0 0, false)
      { elem := e, sum := sumProducts (ps.map (fun p => (p.1.1, p.2.1))), scale := if ends then some sc.1 else none
        bad := ps.any (fun p => p.1.2 || p.2.2) || (ends && sc.2) }) }

/-- Consume chunk `q` of an MMA or an MMAS. -/
def MCmd.consume (m : MCmd) (c : Core) (q : Nat) : MCmd :=
  let m1 := m.readLat c q
  m1.took (m1.chunkTerms c q)

/-- The words of a weight row as elements: element `e` of the row (R174). -/
def MCmd.rowElem (m : MCmd) (row : Row) (kk e : Nat) : XNum :=
  if m.lat then m.bValue kk (row.toNat / 2 ^ (32 * (e / 8)) % 2 ^ 32)
  else m.bValue kk (row.toNat / 2 ^ (8 * m.eb * e) % 2 ^ (8 * m.eb))

/-- Split a list into runs of a length. -/
def runsOf {α : Type} (n : Nat) : Nat → List α → List (List α)
  | 0, _ => []
  | _, [] => []
  | fuel + 1, l => l.take n :: runsOf n fuel (l.drop n)

/-- The terms of weight row `r` of an MMV (R174): every chunk of the row, for each batch vector. A row ends a block (R177). -/
def MCmd.rowTerms (m : MCmd) (c : Core) (row : Row) (bad : Bool) (r : Nat) : ChunkTerms :=
  let j := (m.mmvAt r).1
  let ks := m.mmvKs r
  let first := (m.mmvAt r).2 * rowElems (cfgB m.cfg)
  let scaleOf := fun (kk : Nat) =>
    if mlatMode m.mlat = 2 then
      let e := scaleEntry (m.mmvRow r) ((kk - first) / 8) m.group
      let sr := scaleRow (m.attrOf (m.mmvRow r)) e
      (fp16.unpack ((m.scaleRows.get 0 sr).toNat / 2 ^ (16 * (e % 256)) % 2 ^ 16), m.scaleBad.get false sr)
    else c.scaleA (m.scaleAddr (nestCount m.nest 0) j (kk / 8))
  let ends := fun (kk : Nat) => m.scaled && decide ((kk + 1) % (8 * m.group) = 0 ∨ kk + 1 = nestCount m.nest 0)
  let x := fun (bt kk : Nat) => c.elem (m.actAddr bt kk) m.ea
  { chunk := r, ends := true
    terms := (List.range (nestCount m.nest 2)).flatMap (fun bt => (runsOf m.k ks.length ks).map (fun ch =>
      let kl := ch.getLastD 0
      { elem := bt * 64 + j
        sum := sumProducts (ch.map (fun kk => (operandValue (cfgA m.cfg) m.fmtA (x bt kk).1, m.rowElem row kk (kk - first))))
        scale := if ends kl then some (scaleOf kl).1 else none
        bad := bad || ch.any (fun kk => (x bt kk).2) || (ends kl && (scaleOf kl).2) })) }

/-- Consume weight row `r` of an MMV, from A-space as the row's own cycle found it (R174, R245). -/
def MCmd.consumeRow (m : MCmd) (c : Core) (row : Row) (bad : Bool) (r : Nat) : MCmd :=
  let c1 := match m.seen with
    | some v => { c with aspace := v.1, apoison := v.2 }
    | none => c
  { m.took (m.rowTerms c1 row bad r) with seen := none }

/-! ### Advancing and waiting (R174, R223, R245 to R247) -/

/-- The commands in the order of issue that advance in this cycle: all before the first one that waits. -/
def goingCmds (s : State) : List MCmd → List Nat
  | [] => []
  | m :: rest => if m.wWait || m.waits s (m.age + 1) = .wait then [] else m.id :: goingCmds s rest

/-- A commit of the acting context is due and its command has not done its work (R247). -/
def State.commitLate (s : State) (who : Nat) : Bool :=
  ((s.me.ctx who).duePend (s.me.ctx who).clock).any (fun e => e.writes.any (fun w => match w with
    | .commit id => s.me.cmds.any (fun m => m.id = id ∧ m.next + m.skip < m.total)
    | _ => false))

/-- The matrix engine freezes the core in this cycle: work of the context that holds the width waits (R223, R246, R247,
R173, R156), or an MMV row yields the port. -/
def State.matrixFreezes (s : State) : Bool :=
  s.me.cmds.any (fun m => decide (s.me.holder = some m.ctx) && decide (m.waits s (m.age + 1) = .wait))
    || s.me.cmds.any (fun m => m.wWait && decide (s.me.holder = some m.ctx))
    || (match s.me.holder with
        | some h => s.commitLate h
        | none => false)

/-- Rows at the port come nearer; rows dropped leave on arrival (R173, R178). The frozen cycles of a hold for an occupied array count too,
as they do for the engine's other parts (R37, R158, R169; DESIGN CHOICE, Log 64). -/
def Core.portAdvance (c : Core) : Core :=
  { c with port := (c.port.map (fun p => { p with wait := p.wait - 1 })).filter (fun p => !(p.dropped && decide (p.wait = 0))) }

/-- The row that a waiting chunk needs comes nearer, and no other (R173). -/
def Core.supplyAdvance (c : Core) : Core :=
  match c.port.findIdx? (fun p => !p.dropped) with
  | none => c
  | some i => { c with port := c.port.modify i (fun p => { p with wait := p.wait - 1 }) }

/-- A read of the engine is granted. A row that needs correction freezes the core for 2 cycles, or, where the command's context does not
hold the width, stalls the array alone (R156, R223, R270). -/
def State.engineRead (s : State) (m : MCmd) (row : Nat) : State × MCmd :=
  let t := s.grantRead s.cur row
  if s.me.holder = some m.ctx then (t.eccFreeze row, m)
  else (t, if s.me.wErr.contains row then { m with pause := max m.pause 2 } else m)

/-- Read the scale rows of an engine cycle as far as their banks take them (R258). -/
def State.readScales (pre : Core) (r : State × MCmd) (rows : List Nat) : State × MCmd :=
  rows.foldl (fun r row =>
    if r.1.bankReady r.1.cur (bankOf row) then
      let k := r.1.engineRead r.2 row
      (k.1, { k.2 with
        scaleRows := k.2.scaleRows.put row (r.1.rowSeen r.1.cur row), scaleBad := k.2.scaleBad.write false row (pre.rowPoisoned row) })
    else r) r

/-- The reads of W-space of a command in its engine cycle `e`, as far as the banks take them (R156, R174, R258): the row that
is due, and the scale rows. -/
def State.takeReads (s : State) (pre : Core) (m : MCmd) (e : Nat) : State × MCmd :=
  let r1 := match m.dueAt e with
    | some q =>
      if m.kind = .mmv ∧ ¬ m.taken = true ∧ s.bankReady s.cur (bankOf (m.mmvRow q)) = true then
        let r := s.engineRead m (m.mmvRow q)
        (r.1, { r.2 with taken := true, portRow := s.rowSeen s.cur (m.mmvRow q), portPoison := pre.rowPoisoned (m.mmvRow q) })
      else (s, m)
    | none => (s, m)
  State.readScales pre r1 (m.scaleNeeds e)

/-- Count a cycle of the bank conflicts of a chunk or row that is due: from the cycle in which it is due, whatever else it waits for
(R246, R251). -/
def MCmd.serveStall (m : MCmd) : MCmd :=
  match m.stall, m.dueAt (m.age + 1) with
  | some (n + 1), some _ => { m with stall := some n }
  | none, some q => if m.faultAt q || decide (m.conflicts q = 0) then m else { m with stall := some (m.conflicts q - 1) }
  | _, _ => m

/-- The banks that a command asks for in vain in its engine cycle `e`. -/
def MCmd.asks (m : MCmd) (e : Nat) : List Nat :=
  (match m.dueAt e with
    | some q => if m.kind = .mmv ∧ ¬ m.taken = true then [bankOf (m.mmvRow q)] else []
    | none => []) ++ (m.scaleNeeds e).map bankOf

/-- A wall cycle of a command that waits: the banks take its reads or note that it waits (R260), and conflicts are served. -/
def State.waitCycle (s : State) (id : Nat) : State :=
  match s.me.cmds.find? (fun m => m.id = id) with
  | none => s
  | some m =>
    let e := if m.wWait then m.age else m.age + 1
    let r := s.takeReads s.me { m with pause := m.pause - 1 } e
    let s1 := r.1.updCore (fun c => { c with
      bankWait := (r.2.asks e).foldl (fun w b => w.put b (s.wall + 1)) c.bankWait })
    s1.setCmd s1.cur r.2.serveStall

/-- Every command that waits. -/
def State.waitCycles (s : State) : State :=
  s.me.cmds.foldl (fun t m => if m.wWait || m.waits t (m.age + 1) = .wait then t.waitCycle m.id else t) s

/-- A row that yielded the port and has been read now is consumed (R174). -/
def State.lateRows (s : State) (pre : Core) : State :=
  s.me.cmds.foldl (fun t m => match m.dueAt m.age with
    | some q => if m.wWait && m.taken then t.setCmd t.cur { m.consumeRow pre m.portRow m.portPoison q with
        next := m.next + 1, stall := none, wWait := false, taken := false } else t
    | none => t) s

/-- A cycle in which the engine does not advance for its own wait: conflicts are served, banks are asked for, and the row
that is waited for comes nearer. -/
def State.matrixWaiting (s : State) : State :=
  let forRow := s.me.cmds.any (fun m => match m.dueAt (m.age + 1) with
    | some q => m.needsRow q
    | none => false)
  (s.waitCycles.lateRows s.me).updCore (fun c => if forRow then c.supplyAdvance else c)

/-- The engine advances by one cycle: every command before the first that waits is one cycle older (R245), and every row at the port is
nearer (DESIGN CHOICE, Log 64: also in a hold for an occupied array). -/
def State.matrixAdvance (s : State) : State :=
  let going := goingCmds s s.me.cmds
  let s1 := if going.length < s.me.cmds.length then s.waitCycles.lateRows s.me else s
  s1.updCore (fun c => { c.portAdvance with cmds := c.cmds.map (fun m =>
    if going.contains m.id then { m with age := m.age + 1 } else m) })

/-! ### Faults, starts and the cycle's chunks -/

/-- The scale addresses of A-space a chunk or row reads under mode 1 (R177). -/
def MCmd.scaleReads (m : MCmd) (q : Nat) : List Nat :=
  if !m.scaled || decide (mlatMode m.mlat ≠ 1) then []
  else if m.kind = .mmv then
    ((m.mmvKs q).filter (fun kk => (kk + 1) % (8 * m.group) = 0 ∨ kk + 1 = nestCount m.nest 0)).map (fun kk =>
      m.scaleAddr (nestCount m.nest 0) (m.mmvAt q).1 (kk / 8))
  else
    let ks := m.chunkKs q
    let kg := m.kGlobal ks.1 (ks.2.getLastD 0)
    if m.blockEnds kg then (List.range 64).map (fun j => m.scaleAddr m.kTotal j (kg / 8)) else []

/-- The fault that a chunk meets in its cycle (R179): its G-space operand, its A-space scale read, a starved port. -/
def MCmd.chunkFault (m : MCmd) (c : Core) (q : Nat) : Option Trap :=
  match m.pipeFault q with
  | some t => some t
  | none =>
    match (m.scaleReads q).find? (fun a => decide (Config.aSize < a + 2)) with
    | some a => some { cause := .abound, slot := 3, info := BitVec.ofNat 64 a }
    | none =>
      if m.needsRow q && (c.port.find? (fun p => !p.dropped)).isNone then some { cause := .illegal, slot := 3, info := 1 }
      else none

/-- The tile's starting values as a core holds them (R170); the chunks that have been consumed add to them. A partial of R72, and a
tile that is not accumulated, starts as +0 (DESIGN CHOICE, Log 72). -/
def MCmd.startSums (m : MCmd) (c : Core) : MCmd :=
  let sums := if m.accumulate then (List.range 4096).map (fun e => c.tileElem m.tile (e / 64) (e % 64))
    else (List.range 4096).map (fun _ => 0)
  let bad := m.poison.foldl (fun b e => b.write false e.1 e.2) (if m.accumulate then (c.tile m.tile).poison else [])
  m.early.foldl MCmd.addChunk { m with
    early := [], tileFmt := (c.tile m.tile).fmt, sums := sums, partials := (List.range 4096).map (fun _ => .fin false 0 0)
    poison := bad, blockSums := sums, blockStep := m.skip, blockFlags := 0, blockPoison := bad }

/-- The command's c+12 has come (R170): on its context's clock, on which its commit lands too, and for an MMAS, which its context's
absence does not hold up, on the core's unfrozen cycles (R171, R224). -/
def MCmd.mayStart (m : MCmd) (c : Core) : Bool :=
  let x := c.ctx m.ctx
  (m.sums == []) && !m.discarded &&
    (if m.kind = .mmas then decide (m.due ≤ c.ucyc + 12 + m.arrayTime)
     else decide (m.issued + 12 ≤ x.clock) && !((x.inTrap || x.replayArmed) && decide (m.id < x.trapSeq)))

/-- The progress word of an abandoned command (R180). -/
def rowProgWord (acc kind step : Nat) : Word :=
  (1#1 ++ BitVec.ofNat 6 acc ++ BitVec.ofNat 2 kind ++ BitVec.ofNat 23 step)

/-- A command that ends at once with the sums of its last block boundary (R179, R252): nothing is left to consume, and the array is
free. -/
def MCmd.cut (m : MCmd) : MCmd :=
  { m with sums := m.blockSums, flags := m.blockFlags, poison := m.blockPoison, total := m.skip + m.next, arrayTime := 0, faults := [] }

/-- COMMAND_ABANDON (R179, R252): the sums of the last block boundary commit with the results of the cycle, in their place in issue
order (R15), CX_ROWPROG is set, every later command of the context is abandoned, and the context is to take the trap. -/
def State.abandon (s : State) (rank : Nat) (m : MCmd) (t : Trap) : State :=
  let c := s.core rank
  let gone := (c.cmds.filter (fun k => k.ctx = m.ctx ∧ (m.id < k.id ∨ (m.kind = .mmas ∧ m.id = k.id)))).map MCmd.id
  let m := if m.sums = [] then m.startSums (c.landAhead m.ctx (m.issued + 12)) else m
  let drop := fun (l : List Pend) => l.filter (fun e => !e.writes.any (fun w => match w with
    | .commit i => gone.contains i || decide (i = m.id)
    | _ => false))
  let x := c.ctx m.ctx
  let y : Ctx := { x with
    pend := if m.kind = MKind.mmas then drop x.pend else insertPend ⟨x.clock, m.id, [.commit m.id], 0, false⟩ (drop x.pend)
    replay := drop x.replay
    rowProg := if m.kind = MKind.mmas then 0 else rowProgWord m.acc (if m.kind = MKind.mmv then 1 else 0) m.blockStep
    engineTraps := x.engineTraps ++ [t] }
  let c2 : Core := { c with
    cmds := (c.cmds.filter (fun k => !gone.contains k.id)).map (fun k => if k.id = m.id then m.cut else k)
    port := c.port.map (fun p => if p.ctx = m.ctx then { p with dropped := true } else p) }
  s.setCore rank (c2.setCtx m.ctx y)

/-- The commands that have come to c+12 read their tiles, as the results of the cycle leave them (R170). -/
def State.matrixStart (s : State) : State :=
  s.me.cmds.foldl (fun t m => if m.mayStart t.me then t.setCmd t.cur (m.startSums t.me) else t) s

/-- Commands whose chunk of this cycle meets a fault are abandoned, before the bundle due issues (R179); one whose commit was
discarded ends without a trap (DEDUCED, Log 55). -/
def State.matrixFaults (s : State) : State :=
  s.me.cmds.foldl (fun t m0 => match t.me.cmds.find? (fun k => k.id = m0.id) with
    | none => t
    | some m => match m.dueAt m.age with
      | none => t
      | some q => match m.chunkFault t.me q with
        | some f =>
          if m.discarded then t.updCore (fun c => { c with cmds := c.cmds.filter (fun k => k.id ≠ m.id) }) else t.abandon t.cur m f
        | none => t) s

/-- A command in the engine cycle it has come to: the chunk or row that is due, read from the core as it stood before the
A slot (R147, R245), and the scale row of the next row. A due MMV row yields the W port to a W-slot read (R174). -/
def State.chunkOf (s : State) (pre : Core) (id : Nat) : State :=
  match s.me.cmds.find? (fun m => m.id = id) with
  | none => s
  | some m =>
    if m.wWait then s
    else match m.dueAt m.age with
    | none =>
      let r := s.takeReads pre m m.age
      r.1.setCmd s.cur r.2
    | some q =>
      if m.kind = .mmv then
        let late := fun (m : MCmd) => { m with wWait := true, seen := some (pre.aspace, pre.apoison) }
        if s.me.wPortUsed && !m.taken then s.setCmd s.cur (late m)
        else
          let r := s.takeReads pre m m.age
          r.1.setCmd s.cur (if r.2.taken then { r.2.consumeRow pre r.2.portRow r.2.portPoison q with
            next := m.next + 1, stall := none, taken := false } else late r.2)
      else
        let p := if m.needsRow q then pre.port.find? (fun p => !p.dropped) else none
        let m1 := match p with
          | some p => { m with portRow := p.data, portPoison := p.poison }
          | none => m
        let s1 := match p with
          | some p => s.updCore (fun c => { c with port := c.port.erase p })
          | none => s
        s1.setCmd s.cur { m1.consume pre q with next := m.next + 1, stall := none }

/-- Every command's part of the cycle. -/
def State.matrixChunks (s : State) (pre : Core) : State := s.me.cmds.foldl (fun t m => t.chunkOf pre m.id) s

/-- An MMAS that has done its work and whose cycle has come commits and signals (R175). R247 lengthens its array time where its own
operands keep the array waiting, and R175 gives the commit by the array time of its groups: the model keeps the cycle that the latter
gives, and commits in the cycle after the last chunk where that is later; its record holds the array time of its groups (DESIGN CHOICE,
Log 72). -/
def MCmd.mmasDue (m : MCmd) (c : Core) : Bool :=
  (m.kind == .mmas) && decide (m.due ≤ c.ucyc ∧ m.total ≤ m.next ∧ 12 ≤ m.age)

/-- The MMAS event record (R175): type 0x07, info[19:0] the array time. -/
def mmasRecord (m : MCmd) : Record :=
  (BitVec.ofNat 21 (m.arrayTime % 2 ^ 20) ++ BitVec.ofNat 3 m.ctx ++ 0x07#8).setWidth 128

end Sys2Proof.Machine
end

