-- ==== Sys2Proof/Machine/Sha384.lean ====
section
/-! DEFINITION. SHA-384, which the hash engine and the firmware compute (R207, R280, R281). -/
namespace Sys2Proof.Machine
open Sys2Proof

/-- The initial hash value of SHA-384. -/
def shaInit : List (BitVec 64) :=
  [0xcbbb9d5dc1059ed8#64, 0x629a292a367cd507#64, 0x9159015a3070dd17#64, 0x152fecd8f70e5939#64, 0x67332667ffc00b31#64, 0x8eb44a8768581511#64, 0xdb0c2e0d64f98fa7#64, 0x47b5481dbefa4fa4#64]

/-- Round constants 0 to 9. -/
def shaK0 : List (BitVec 64) :=
  [0x428a2f98d728ae22#64, 0x7137449123ef65cd#64, 0xb5c0fbcfec4d3b2f#64, 0xe9b5dba58189dbbc#64, 0x3956c25bf348b538#64, 0x59f111f1b605d019#64, 0x923f82a4af194f9b#64, 0xab1c5ed5da6d8118#64, 0xd807aa98a3030242#64, 0x12835b0145706fbe#64]

/-- Round constants 10 to 19. -/
def shaK1 : List (BitVec 64) :=
  [0x243185be4ee4b28c#64, 0x550c7dc3d5ffb4e2#64, 0x72be5d74f27b896f#64, 0x80deb1fe3b1696b1#64, 0x9bdc06a725c71235#64, 0xc19bf174cf692694#64, 0xe49b69c19ef14ad2#64, 0xefbe4786384f25e3#64, 0x0fc19dc68b8cd5b5#64, 0x240ca1cc77ac9c65#64]

/-- Round constants 20 to 29. -/
def shaK2 : List (BitVec 64) :=
  [0x2de92c6f592b0275#64, 0x4a7484aa6ea6e483#64, 0x5cb0a9dcbd41fbd4#64, 0x76f988da831153b5#64, 0x983e5152ee66dfab#64, 0xa831c66d2db43210#64, 0xb00327c898fb213f#64, 0xbf597fc7beef0ee4#64, 0xc6e00bf33da88fc2#64, 0xd5a79147930aa725#64]

/-- Round constants 30 to 39. -/
def shaK3 : List (BitVec 64) :=
  [0x06ca6351e003826f#64, 0x142929670a0e6e70#64, 0x27b70a8546d22ffc#64, 0x2e1b21385c26c926#64, 0x4d2c6dfc5ac42aed#64, 0x53380d139d95b3df#64, 0x650a73548baf63de#64, 0x766a0abb3c77b2a8#64, 0x81c2c92e47edaee6#64, 0x92722c851482353b#64]

/-- Round constants 40 to 49. -/
def shaK4 : List (BitVec 64) :=
  [0xa2bfe8a14cf10364#64, 0xa81a664bbc423001#64, 0xc24b8b70d0f89791#64, 0xc76c51a30654be30#64, 0xd192e819d6ef5218#64, 0xd69906245565a910#64, 0xf40e35855771202a#64, 0x106aa07032bbd1b8#64, 0x19a4c116b8d2d0c8#64, 0x1e376c085141ab53#64]

/-- Round constants 50 to 59. -/
def shaK5 : List (BitVec 64) :=
  [0x2748774cdf8eeb99#64, 0x34b0bcb5e19b48a8#64, 0x391c0cb3c5c95a63#64, 0x4ed8aa4ae3418acb#64, 0x5b9cca4f7763e373#64, 0x682e6ff3d6b2b8a3#64, 0x748f82ee5defb2fc#64, 0x78a5636f43172f60#64, 0x84c87814a1f0ab72#64, 0x8cc702081a6439ec#64]

/-- Round constants 60 to 69. -/
def shaK6 : List (BitVec 64) :=
  [0x90befffa23631e28#64, 0xa4506cebde82bde9#64, 0xbef9a3f7b2c67915#64, 0xc67178f2e372532b#64, 0xca273eceea26619c#64, 0xd186b8c721c0c207#64, 0xeada7dd6cde0eb1e#64, 0xf57d4f7fee6ed178#64, 0x06f067aa72176fba#64, 0x0a637dc5a2c898a6#64]

/-- Round constants 70 to 79. -/
def shaK7 : List (BitVec 64) :=
  [0x113f9804bef90dae#64, 0x1b710b35131c471b#64, 0x28db77f523047d84#64, 0x32caab7b40c72493#64, 0x3c9ebe0a15c9bebc#64, 0x431d67c49c100d4c#64, 0x4cc5d4becb3e42b6#64, 0x597f299cfc657e2a#64, 0x5fcb6fab3ad6faec#64, 0x6c44198c4a475817#64]

/-- The 80 round constants. -/
def shaK : List (BitVec 64) := shaK0 ++ shaK1 ++ shaK2 ++ shaK3 ++ shaK4 ++ shaK5 ++ shaK6 ++ shaK7

/-- Rotate right. -/
def rotr (x : BitVec 64) (n : Nat) : BitVec 64 := x.rotateRight n

/-- The small sigma functions of the message schedule. -/
def shaS0 (x : BitVec 64) : BitVec 64 := rotr x 1 ^^^ rotr x 8 ^^^ (x >>> 7)
/-- The second one. -/
def shaS1 (x : BitVec 64) : BitVec 64 := rotr x 19 ^^^ rotr x 61 ^^^ (x >>> 6)

/-- Extend a message schedule, given newest word first, by `n` words. -/
def shaExtend (w : List (BitVec 64)) : Nat → List (BitVec 64)
  | 0 => w
  | n + 1 => shaExtend ((shaS1 (w.getD 1 0) + w.getD 6 0 + shaS0 (w.getD 14 0) + w.getD 15 0) :: w) n

/-- One round. -/
def shaRound (h : List (BitVec 64)) (kw : BitVec 64) : List (BitVec 64) :=
  match h with
  | [a, b, c, d, e, f, g, i] =>
    let t1 := i + (rotr e 14 ^^^ rotr e 18 ^^^ rotr e 41) + ((e &&& f) ^^^ (~~~e &&& g)) + kw
    let t2 := (rotr a 28 ^^^ rotr a 34 ^^^ rotr a 39) + ((a &&& b) ^^^ (a &&& c) ^^^ (b &&& c))
    [t1 + t2, a, b, c, d + t1, e, f, g]
  | l => l

/-- Compress a block of sixteen words into the hash value. -/
def shaBlock (h block : List (BitVec 64)) : List (BitVec 64) :=
  let w := (shaExtend block.reverse 64).reverse
  let r := (List.zipWith (· + ·) shaK w).foldl shaRound h
  List.zipWith (· + ·) h r

/-- The big-endian word of the first eight bytes of a list. -/
def shaWord (bs : List Byte) : BitVec 64 := BitVec.ofNat 64 ((bs.take 8).foldl (fun n b => n * 256 + b.toNat) 0)

/-- The sixteen words of a block of 128 bytes. -/
def shaWords (bs : List Byte) : List (BitVec 64) := (List.range 16).map (fun i => shaWord (bs.drop (8 * i)))

/-- Compress whole blocks. -/
def shaBlocks (h : List (BitVec 64)) (bs : List Byte) : Nat → List (BitVec 64)
  | 0 => h
  | n + 1 => shaBlocks (shaBlock h (shaWords bs)) (bs.drop 128) n

/-- The big-endian bytes of a word. -/
def beBytes (v : Nat) : Nat → List Byte
  | 0 => []
  | n + 1 => BitVec.ofNat 8 (v / 256 ^ n) :: beBytes v n

/-- The padding after a message of `n` bytes. -/
def shaPad (n : Nat) : List Byte :=
  0x80#8 :: (List.replicate ((239 - n % 128) % 128) 0#8 ++ beBytes (8 * n) 16)

/-- The digest of a hash value: 48 bytes, big-endian. -/
def shaDigest (h : List (BitVec 64)) : List Byte := (h.take 6).flatMap (fun w => beBytes w.toNat 8)

/-- Finish a hash whose whole blocks before are in `h`: the message has `n` bytes in all, `rest` is its last `n % 128`. -/
def shaFinish (h : List (BitVec 64)) (rest : List Byte) (n : Nat) : List Byte :=
  let t := rest ++ shaPad n
  shaDigest (shaBlocks h t (t.length / 128))

/-- SHA-384 of a list of bytes. -/
def sha384 (bs : List Byte) : List Byte :=
  shaFinish (shaBlocks shaInit bs (bs.length / 128)) (bs.drop (bs.length / 128 * 128)) bs.length

end Sys2Proof.Machine
end

