-- ==== Sys2Proof/Machine/WTier.lean ====
section
/-! DEFINITION. The Potting Sheds and the hash engine (R205 to R207, R256, R260 to R266, R420): rows under programming and
their phases, wear and remapping, attribute commits, digests, and W-page moves. -/
namespace Sys2Proof.Machine
open Sys2Proof

/-! ### What programming waits for (R262) -/

/-- The rows of W-space that a command has still to read: its weight rows but one that it has taken, and its scale rows. -/
def MCmd.rowsLeft (m : MCmd) : List Nat :=
  if m.kind ≠ .mmv then []
  else ((List.range (m.total - (m.skip + m.next))).map (fun i => m.skip + m.next + i)).flatMap (fun r =>
    (if m.taken ∧ r = m.skip + m.next then [] else [m.mmvRow r]) ++ (m.scaleUnread r).toList)

/-- A command has still to read a row, as a weight row or as a scale row. -/
def MCmd.stillReads (m : MCmd) (row : Nat) : Bool := m.rowsLeft.contains row

/-- A command has still to read weight rows or scale rows of a page. -/
def MCmd.readsPage (m : MCmd) (page : Nat) : Bool := m.rowsLeft.any (fun r => decide (r / 2048 = page))

/-- The outstanding MMVs of a core that pass a test: those that a change which falls due now waits for (R262). -/
def Core.readersNow (c : Core) (reads : MCmd → Bool) : List Nat := (c.cmds.filter reads).map MCmd.id

/-- Of the MMVs that a change waits for, one has still to read (R262). -/
def Core.awaits (c : Core) (waits : Option (List Nat)) (reads : MCmd → Bool) : Bool :=
  c.cmds.any (fun m => reads m && (match waits with
    | none => true
    | some l => l.contains m.id))

/-! ### Spare rows (R254, R264) -/

/-- Spare `k` of a bank, as a number of the core. -/
def spareId (bank k : Nat) : Nat := bank * 1966 + k

/-- The first free spare of a bank. -/
def Core.freeSpare (c : Core) (bank : Nat) : Option Nat :=
  ((List.range 1966).map (spareId bank)).find? (fun i =>
    !c.deadSpares.contains i && !c.remaps.any (fun r => r.spare = i))

/-- The physical row that serves a logical row: its own, or a spare numbered from the end of the logical rows. The number of a physical
row that serves none is its place in its bank times 16, with the bank; the spares are the first 1,966 places after the logical rows. -/
def Core.physRow (c : Core) (row : Nat) : Nat :=
  match c.remaps.find? (fun r => r.row = row) with
  | some r => Config.wRows + r.spare
  | none => if Config.wRows ≤ row ∧ row < Config.wRows + 16 * 1966 then Config.wRows + spareId (row % 16) ((row - Config.wRows) / 16) else row

/-- The new contents of a row stand: its poison and its errors go (R261, R271). A row that its bank has logged stays logged (R270). -/
def Core.rowCommit (c : Core) (row : Nat) (v : Row) : Core :=
  { c.setRow row v with
    wpoison := c.wpoison.clearRange (row * 4) (row * 4 + 4)
    failedRows := c.failedRows.filter (fun r => r ≠ row)
    unfinished := c.unfinished.filter (fun r => r ≠ row)
    wErr := c.wErr.filter (fun r => r ≠ row) }

/-- One wear count more, of 24 bits, saturating (R263). -/
def Core.addWear (c : Core) (row : Nat) : Core :=
  let p := c.physRow row
  { c with wear := c.wear.put p (Nat.min 0xFFFFFF (c.wear.get 0 p + 1)) }

/-! ### The remap tables (R264) -/

/-- The copies of a bank's table. -/
def Core.copiesOf (c : Core) (bank : Nat) : RemapCopy × RemapCopy := c.remapCopies.get ({}, {}) bank

/-- The first of a bank's copies is the older one, or unreadable: the one an update writes. -/
def olderFirst (a b : RemapCopy) : Bool := a.bad || (!b.bad && decide (a.seq ≤ b.seq))

/-- The newer valid copy, from which a start takes the mapping. -/
def newerCopy (a b : RemapCopy) : Option RemapCopy :=
  if a.bad && b.bad then none else some (if olderFirst a b then b else a)

/-- A spare belongs to a bank. -/
def spareIn (bank i : Nat) : Bool := decide (i / 1966 = bank)

/-- An update of a bank's table writes its older copy. -/
def Core.saveRemaps (c : Core) (bank : Nat) : Core :=
  let p := c.copiesOf bank
  let n : RemapCopy := { seq := max p.1.seq p.2.seq + 1, remaps := c.remaps.filter (fun r => spareIn bank r.spare),
                         dead := c.deadSpares.filter (spareIn bank) }
  { c with remapCopies := c.remapCopies.put bank (if olderFirst p.1 p.2 then (n, p.2) else (p.1, n)) }

/-- A start takes every bank's mapping from its table. -/
def Core.loadRemaps (c : Core) : Core :=
  c.remapCopies.foldl (fun c e => match newerCopy e.2.1 e.2.2 with
    | none => c
    | some k => { c with
        remaps := c.remaps.filter (fun r => !spareIn e.1 r.spare) ++ k.remaps
        deadSpares := c.deadSpares.filter (fun i => !spareIn e.1 i) ++ k.dead }) c

/-- Retire a spare. -/
def Core.killSpare (c : Core) (i : Nat) : Core := ({ c with deadSpares := c.deadSpares ++ [i] } : Core).saveRemaps (i / 1966)

/-- The remap commits (R264): the new entry and the spare's contents, in one cycle; the row that served before is never used again. -/
def Core.remapCommit (c : Core) (row spare : Nat) (v : Row) : Core :=
  let old := (c.remaps.filter (fun r => r.row = row)).map Remap.spare
  ({ c.rowCommit row v with
    remaps := c.remaps.filter (fun r => r.row ≠ row) ++ [⟨row, spare⟩]
    deadSpares := c.deadSpares ++ old
    wErr := (c.rowCommit row v).wErr.filter (fun r => r ≠ (98304 + spare % 1966) * 16 + bankOf row) } : Core).saveRemaps (bankOf row)

/-! ### Phases (R263) -/

/-- The cycles of a phase: capture, pulse, verify. -/
def phaseLength (p : Nat) : Nat := if p = 0 then 8 else if p = 1 then 32 else 16

/-- Replace a row's programming by its next state, or end it. -/
def State.setJob (s : State) (j : RowJob) (k : Option RowJob) : State :=
  { s with jobs := s.jobs.flatMap (fun i => if i.core = j.core ∧ i.row = j.row then k.toList else [i]) }

/-- The WPROG of a row has one row done: how many were remapped, and whether it failed. -/
def State.rowDone (s : State) (j : RowJob) (remapped : Nat) (failed : Bool) : State :=
  match s.findOp j.opRank j.op with
  | none => s
  | some o =>
    let done := match o.kind with
      | .wprog _ _ _ count => decide (512 * count ≤ o.bytes + 512)
      | _ => false
    s.setOp j.opRank { o with
      bytes := o.bytes + 512
      result := o.result + remapped
      failed := o.failed || failed
      performed := done }

/-- ROW_FAIL (R265): the row reads poisoned from now on; its score and its record come when its WPROG completes. -/
def State.rowFail (s : State) (j : RowJob) : State :=
  let c := s.core j.core
  let s1 := s.setCore j.core { c with failedRows := c.failedRows.filter (fun r => r ≠ j.row) ++ [j.row] }
  let s2 := { s1 with rowFailures := s1.rowFailures ++ [(⟨j.opRank, j.op, j.core, j.row, j.bad⟩ : RowFailure)] }
  (s2.setJob j none).rowDone j 0 true

/-- The WPROG of a failed row is over. -/
def State.failureOver (s : State) (f : RowFailure) : Bool := (s.core f.opRank).ops.all (fun o => decide (o.id ≠ f.op))

/-- The failed rows of the WPROGs that are complete add 512 each to their banks' scores, but for those whose source was poisoned, and
retirement records are written (R265, R390, R392). -/
def State.chargeFailures (s : State) : State :=
  (s.rowFailures.filter s.failureOver).foldl (fun t f =>
    let id := bankUnit f.core (bankOf f.row)
    let u := if f.bad then t else t.addScore id 512
    u.addRetirement { unit := id, cause := 4, score := (u.unit id).score, lease := 0, pattern := 0, signature := f.row, time := u.ageMs })
    { s with rowFailures := s.rowFailures.filter (fun f => !s.failureOver f) }

/-- REMAP begins or goes on to another spare (R264): at most four for a row. A physical row that serves no logical row has no entry in the
remap table, so none takes its place (DESIGN CHOICE, Log 59). -/
def State.remapNext (s : State) (j : RowJob) : State :=
  if 4 ≤ j.spares ∨ Config.wRows ≤ j.row ∨ ((s.core j.core).freeSpare (bankOf j.row)).isNone then s.rowFail j
  else s.setJob j (some { j with spares := j.spares + 1, phase := 1, left := phaseLength 1, iter := 1 })

/-- A row is about to commit for its WPROG: what the operation's stream orders before it is covered, or, where the row is another
core's, visible (R308). -/
def State.beforeRow (s : State) (j : RowJob) : State :=
  match (s.core j.opRank).ops.find? (fun o => o.id = j.op) with
  | none => s
  | some o => if j.core = j.opRank then s.cover j.opRank [o.key] else s.before j.opRank o

/-- A verify has passed: ROW_COMMIT, or the commit of a remap. -/
def State.verifyPassed (s0 : State) (j : RowJob) : State :=
  let s := s0.beforeRow j
  let c := s.core j.core
  if j.spares = 0 then
    let c1 := (c.rowCommit j.row j.data).addWear j.row
    let s1 := s.setCore j.core c1
    if j.row < Config.wRows ∧ 1000000 < c1.wear.get 0 (c1.physRow j.row) then s1.remapNext { j with committed := true }
    else (s1.setJob j none).rowDone j 0 false
  else
    match c.freeSpare (bankOf j.row) with
    | none => s.rowFail j
    | some i => ((s.setCore j.core (c.remapCommit j.row i j.data)).setJob j none).rowDone j 1 false

/-- A verify has failed: another iteration of sixteen, then another row. -/
def State.verifyFailed (s : State) (j : RowJob) : State :=
  if j.iter < 16 then s.setJob j (some { j with phase := 1, left := phaseLength 1, iter := j.iter + 1 })
  else if j.spares = 0 then s.remapNext j
  else match (s.core j.core).freeSpare (bankOf j.row) with
    | none => s.rowFail j
    | some i => (s.setCore j.core ((s.core j.core).killSpare i)).remapNext j

/-- The patterns of a bank's test are still running (R384). -/
def State.patternsRun (s : State) (j : RowJob) : Bool :=
  s.leases.any (fun l => decide (l.unit = bankUnit j.core (bankOf j.row) ∧ l.left ≠ 0))

/-- PROGRAM_PHASE_END (R263): whether a verify passes is open. The patterns of a bank's test take pulse and verify phases in turn until they
have all run (R384; DESIGN CHOICE, Log 59). -/
def State.phaseEnd (s : State) (j : RowJob) : State :=
  if j.opRank = 514 ∧ j.phase = 2 then
    s.setJob j (if s.patternsRun j then some { j with phase := 1, left := phaseLength 1 } else none)
  else match j.phase with
  | 0 => if j.bad then s.rowFail j else s.setJob j (some { j with phase := 1, left := phaseLength 1, iter := 1 })
  | 1 => s.setJob j (some { j with phase := 2, left := phaseLength 2 })
  | _ =>
    let s1 := { s with free := s.free + 1 }
    if Config.freeBool s.free then s1.verifyPassed j else s1.verifyFailed j

/-- A read waits for a bank at the end of this cycle (R260). -/
def State.bankAsked (s : State) (rank bank : Nat) : Bool := decide ((s.core rank).bankWait.get 0 bank = s.wall + 1)

/-- One cycle of a row under programming. A boundary cycle delays the next phase by one cycle; a phase that ends while a
read waits is followed by one (R260). -/
def State.jobCycle (s : State) (j : RowJob) : State :=
  if j.boundary then s.setJob j (some { j with boundary := false })
  else if 1 < j.left then s.setJob j (some { j with left := j.left - 1 })
  else
    let s1 := s.phaseEnd j
    if s.bankAsked j.core (bankOf j.row) then
      { s1 with jobs := s1.jobs.map (fun k => if k.core = j.core ∧ k.row = j.row then { k with boundary := true } else k) }
    else s1

/-! ### Starting rows (R263) -/

/-- A row falls due: its bank has no other row under programming and is not under lease (R263, R384). -/
def State.rowDue (s : State) (core row : Nat) : Bool :=
  (s.jobAt core (bankOf row)).isNone && !(s.unit (bankUnit core (bankOf row))).leased

/-- A row that is due may start: no command that was outstanding when it fell due has still to read it, and its bank accepts the read
of its capture (R260, R262). -/
def State.rowMayStart (s : State) (core row : Nat) (waits : Option (List Nat)) : Bool :=
  s.rowDue core row && !(s.core core).awaits waits (fun m => m.stillReads row) && s.bankReady core (bankOf row)

/-- The page of a row is no longer sealed (R263, R274); a measurement under way that has begun to hash it takes note (R281). -/
def State.unseal (s : State) (core page : Nat) : State :=
  let c := s.core core
  let ms := s.measures.map (fun (m : Measure) => { m with pages := m.pages.map (fun (p : PageHash) =>
    if p.rank = core ∧ p.page = page ∧ (p.row ≠ 0 ∨ p.digest.isSome = true) then { p with dirty := true } else p) })
  { s with measures := ms }.setCore core
    { c with wattr := c.wattr.write 0 page (c.wattr.get 0 page &&& 0x7FFFFFFF#32) }

/-- A row begins: its contents are captured by a read of its bank, whose correction takes 2 cycles more (R270); the first row of a WPROG
clears SEALED (R263). -/
def State.startRow (s : State) (j : RowJob) (first : Bool) : State :=
  let s1 := (if first then s.unseal j.core (j.row / 2048) else s).grantRead j.core j.row
  { s1 with jobs := s1.jobs ++ [{ j with
      captured := (s.core j.core).wRow j.row, started := true, phase := 0
      left := if (s.core j.core).wErr.contains j.row then phaseLength 0 + 2 else phaseLength 0 }] }

/-- The cores of a die that the state lists. -/
def State.dieRanks (s : State) (die : Nat) : List Nat := (s.cores.map Prod.fst).filter (fun r => dieOf r = die)

/-- A WPROG of a die whose next row programs this core and may start: its core and operation. -/
def State.startable (s : State) (die core : Nat) : Option (Nat × COp) :=
  (s.dieRanks die).findSome? (fun r => ((s.core r).ops.find? (fun o => o.begun && (match o.kind with
    | .wprog c row _ count => decide (c = core ∧ o.unit < count) && s.rowMayStart core (row + o.unit) o.rowWaits
    | _ => false))).map (fun o => (r, o)))

/-- The row of a W-page move that may start on a core (R420). -/
def State.moveRow (s : State) (core : Nat) : Option Nat :=
  match s.move with
  | none => none
  | some m => if m.rank = core ∧ m.row < 2048 ∧ s.rowMayStart core (m.page * 2048 + m.row) m.waits = true then
      some (m.page * 2048 + m.row) else none

/-- A row as its programming begins. -/
def rowJob (core row opRank op : Nat) (data : Row) (bad : Bool) : RowJob :=
  { core := core, row := row, opRank := opRank, op := op, data := data, captured := 0, started := false, phase := 0, left := 0,
    iter := 0, boundary := false, spares := 0, committed := false, bad := bad }

/-- Start one row on the next core in turn. Before a WPROG clears SEALED on another core, what its stream wrote before is visible (R308). -/
def State.startNext (s : State) (die : Nat) : Option State :=
  let turn := s.shedTurn.get 0 die
  let order := (List.range 64).map (fun i => die * 64 + (turn + i) % 64)
  order.findSome? (fun core =>
    let next := fun (s : State) => { s with shedTurn := s.shedTurn.put die ((core + 1) % 64) }
    match s.moveRow core with
    | some row => some (next (({ s with
        move := s.move.map (fun (m : PageMove) => { m with row := m.row + 1, waits := none }) }).startRow
        (rowJob core row 512 0 0 false) (decide (row % 2048 = 0))))
    | none => match s.startable die core with
      | none => none
      | some (r, o) => match o.kind with
        | .wprog _ row src _ =>
          let a := src + 512 * o.unit
          let s0 := if o.unit ≠ 0 then s else if core = r then s.cover r [o.key] else s.before r o
          some (next ((s0.setOp r { o with unit := o.unit + 1, rowWaits := none }).startRow
            (rowJob core (row + o.unit) r o.id (BitVec.ofNat 4096 ((s.core r).rBytes a 512)) ((s.core r).anyPoison a 128))
            (decide (o.unit = 0))))
        | _ => none)

/-- The die has a row engine free (R263). The test of a bank takes none (DESIGN CHOICE, Log 59). -/
def State.engineFree (s : State) (die : Nat) : Bool :=
  decide ((s.jobs.filter (fun j => decide (dieOf j.core = die ∧ j.opRank ≤ 512))).length < 16)

/-- What the next row of a WPROG, or of the page move, waits for is found when it falls due (R262). -/
def State.rowsFallDue (s : State) (die : Nat) : State :=
  let found := fun (s : State) (core row : Nat) => (s.core core).readersNow (fun m => m.stillReads row)
  if !s.engineFree die then s
  else
    let s1 := (s.dieRanks die).foldl (fun t r => (t.core r).ops.foldl (fun u o => match o.kind with
      | .wprog core row _ count =>
        if o.begun && o.rowWaits.isNone && decide (o.unit < count) && u.rowDue core (row + o.unit) then
          u.setOp r { o with rowWaits := some (found u core (row + o.unit)) }
        else u
      | _ => u) t) s
    match s1.move with
    | none => s1
    | some m =>
      if dieOf m.rank = die ∧ m.waits = none ∧ m.row < 2048 ∧ s1.rowDue m.rank (m.page * 2048 + m.row) = true then
        { s1 with move := some { m with waits := some (found s1 m.rank (m.page * 2048 + m.row)) } }
      else s1

/-- WPROG_ROW_START (R263): rows start while one of the die's sixteen row engines is free, the cores in turn. -/
def State.startRows (s : State) (die : Nat) : Nat → State
  | 0 => s
  | n + 1 =>
    if !s.engineFree die then s
    else match s.startNext die with
      | none => s
      | some t => t.startRows die n

/-! ### Attributes (R256, R420) -/

/-- Bank 0 of a core grants an attribute change its commit in this cycle (R256). -/
def State.attrGranted (s : State) (core : Nat) : Bool :=
  match s.jobAt core 0 with
  | none => true
  | some j => j.boundary && decide ((s.core core).bankWait.get 0 0 = s.wall)

/-- Write a page's attribute word, not sealed. -/
def State.putAttr (s : State) (core page : Nat) (w : Word) : State :=
  let s1 := s.unseal core page
  let c := s1.core core
  s1.setCore core { c with wattr := c.wattr.write 0 page (w &&& 0x7FFFFFFF#32) }

/-- ATTR_COMMIT (R256): the attribute change of an operation commits at bank 0's arbiter, once the MMVs that were outstanding when it
fell due no longer read the page (R262). -/
def State.attrStep (s : State) (rank : Nat) (o : COp) (core row : Nat) (w : Word) : State :=
  let c := s.core core
  let reads := fun (m : MCmd) => m.readsPage (row / 2048)
  let o1 := { o with rowWaits := some (o.rowWaits.getD (c.readersNow reads)) }
  if c.awaits o1.rowWaits reads then s.setOp rank o1
  else if s.attrGranted core then
    let t := if core = rank then s.cover rank [o.key] else s.before rank o
    (t.putAttr core (row / 2048) w).setOp rank { o with performed := true }
  else (s.askBank core 0).setOp rank o1

/-- WPAGE_MOVE_DONE (R420): once every row of a moved page reads zero, its attribute word is written as 0 with PART set to
the target, in one commit. -/
def State.wpageMoveDone (s : State) : State :=
  match s.move with
  | none => s
  | some m =>
    let c := s.core m.rank
    let reads := fun (k : MCmd) => k.readsPage m.page
    let m1 := { m with waits := some (m.waits.getD (c.readersNow reads)) }
    if m.row < 2048 ∨ s.jobs.any (fun j => j.opRank = 512) = true then s
    else if c.awaits m1.waits reads then { s with move := some m1 }
    else if s.attrGranted m.rank then
      { s.putAttr m.rank m.page (BitVec.ofNat 32 (m.target % 16 * 2 ^ 27)) with
        move := none, wpmove := s.wpmove &&& 0x7FFFFFFF#32 }
    else { s.askBank m.rank 0 with move := some m1 }

/-! ### A cycle of the Potting Sheds -/

/-- The attribute changes that have begun. -/
def State.attrCommits (s : State) : State :=
  s.cores.foldl (fun t c => c.2.ops.foldl (fun u o => match o.kind with
    | .wattr core row w => if o.begun && !o.performed then u.attrStep c.1 o core row w else u
    | _ => u) t) s

/-- WPROG_COMPLETION (R265): the WPROGs and attribute changes whose work is done complete. -/
def State.wprogComplete (s : State) : State :=
  s.cores.foldl (fun t c => c.2.ops.foldl (fun u o => match o.kind with
    | .wprog .. => u.finishOp c.1 o.id
    | .wattr .. => u.finishOp c.1 o.id
    | _ => u) t) s

/-- Every row under programming is one cycle further. -/
def State.jobsCycle (s : State) : State := s.jobs.foldl State.jobCycle s

/-- One cycle of every Shed: attribute commits, new rows, phases, completions. -/
def State.shedsCycle (s : State) : State :=
  let s1 := s.attrCommits
  let s2 := (List.range 8).foldl (fun t d => (t.startRows d 16).rowsFallDue d) s1
  s2.jobsCycle.wpageMoveDone.wprogComplete

/-! ### The hash engine (R207) -/

/-- The bytes of a row, in order. -/
def rowList (r : Row) : List Byte := (List.range 512).map (fun i => r.extractLsb' (8 * i) 8)

/-- One cycle of the hash engine for a WHASH: a row at the arbiter, then 64 cycles for it; the digest at the end. -/
def State.whashStep (s : State) (rank : Nat) (o : COp) (row count dst : Nat) : State :=
  if 0 < o.delay then s.setOp rank { o with delay := o.delay - 1 }
  else if o.unit < count then
    let r := row + o.unit
    if s.bankReady rank (bankOf r) then
      let c := s.core rank
      (s.grantRead rank r).setOp rank { o with
        unit := o.unit + 1, delay := if c.wErr.contains r then 65 else 63
        hash := shaBlocks (if o.unit = 0 then shaInit else o.hash) (rowList (s.rowSeen rank r)) 4
        hashBad := o.hashBad || c.rowPoisoned r }
    else s.askBank rank (bankOf r)
  else
    let d := (shaFinish o.hash [] (512 * count)).map (fun b => (b, o.hashBad))
    let s := s.cover rank [o.key]
    let c := (List.range 12).foldl (fun c i => c.aStore (dst + 4 * i) ((d.drop (4 * i)).take 4)) (s.core rank)
    (s.setCore rank c).setOp rank { o with performed := true }

/-- A WHASH of the core has begun: the hash engine runs one at a time. -/
def Core.hashing (c : Core) : Bool := c.ops.any (fun o => o.begun && (match o.kind with
  | .whash .. => true
  | _ => false))

/-- The hash engine of a core takes a page's digest for a measurement (R279, R281). -/
def State.measuring (s : State) (rank : Nat) : Bool :=
  s.measures.any (fun m => m.pages.any (fun p => decide (p.rank = rank ∧ p.row ≠ 0) && p.digest.isNone))

end Sys2Proof.Machine
end

