-- ==== Sys2Proof/Machine/Queues.lean ====
section
/-! DEFINITION. Groups and work queues (R100 to R104, R354, R360 to R367): phases, the home slice's pops and pushes, notice
items, and the S slot's SYNC, GDROP, QPOP, QPUSH and LEAVE. -/
namespace Sys2Proof.Machine
open Sys2Proof

/-! ### Work queues (R365 to R367) -/

/-- The queue of a number, destroyed or not. -/
def State.queueOf (s : State) (q : Nat) : Option QueueReg := s.queues.find q

/-- The model's own name of the queue that has a number now: waits, notices and QDELs that know it keep to it, though another
queue has its number later (R367). -/
def State.handleOf (s : State) (q : Nat) : Nat :=
  match s.queueOf q with
  | some r => q + 4096 * r.gen
  | none => q

/-- The queue of a name, while its number has not passed to another. -/
def State.queueHeld (s : State) (h : Nat) : Option QueueReg := (s.queueOf (h % 4096)).filter (fun r => decide (r.gen = h / 4096))

/-- The address of an offset in a queue's memory. -/
def State.queueAddr (s : State) (r : QueueReg) (off : Nat) : Option Nat := s.pageAddr r.part (r.base + off)

/-- Every page of a queue's memory is mapped (R100, R101, R365), in this package or in another. -/
def State.queueMapped (s : State) (r : QueueReg) : Bool :=
  (List.range ((r.base % 65536 + 64 * (2 ^ r.log2 + 1) + 65535) / 65536)).all (fun i =>
    (s.pagePlace r.part ((r.base / 65536 + i) * 65536)).isSome)

/-- The place of an offset of a queue's memory is in another package: what it holds is free (DESIGN CHOICE, Log 63). -/
def State.queueFar (s : State) (r : QueueReg) (off : Nat) : Bool := (s.pagePlace r.part (r.base + off)).any (fun p => p.2.isSome)

/-- Bytes of a queue's memory in another package. -/
def State.farBytes (s : State) (r : QueueReg) (off n : Nat) : List Byte :=
  (List.range n).map (fun i => Config.freeByteAt s.free (r.base + off + i))

/-- A word of a queue's header. -/
def State.queueWord (s : State) (r : QueueReg) (off : Nat) : Nat := match s.queueAddr r off with
  | some a => s.gNat a 4
  | none => if s.queueFar r off then natOfBytes (s.farBytes r off 4) else 0

/-- HEAD and TAIL of a queue, as its header holds them (R365). -/
def State.queueHead (s : State) (r : QueueReg) : Nat := s.queueWord r 0
/-- TAIL. -/
def State.queueTail (s : State) (r : QueueReg) : Nat := s.queueWord r 4

/-- Entries that can be popped (R365). -/
def State.queueLen (s : State) (r : QueueReg) : Nat := (s.queueTail r + 2 ^ 32 - s.queueHead r) % 2 ^ 32

/-- The offset of the entry that a count reaches. -/
def QueueReg.entryOff (r : QueueReg) (n : Nat) : Nat := 64 + 64 * (n % 2 ^ r.log2)

/-- Read bytes of a queue's memory and whether their line is poisoned: here, or in another package, whose flit asks for them (R365, R426;
DESIGN CHOICE, Log 63). -/
def State.queueGet (s : State) (r : QueueReg) (off n : Nat) : (List Byte × Bool) × State :=
  match s.pagePlace r.part (r.base + off) with
  | some (a, none) => ((s.gBytes a n, linePoison s.gpoison a), s)
  | some (a, some k) => ((s.farBytes r off n, false), { s with free := s.free + 1 }.postFlit r.part k 0 a [])
  | none => (([], false), s)

/-- Write bytes of a queue's memory, here or in another package. -/
def State.queuePut (s : State) (r : QueueReg) (off : Nat) (bs : List Byte) : State :=
  match s.pagePlace r.part (r.base + off) with
  | some (a, none) => s.gPut a bs
  | some (a, some k) => s.postFlit r.part k 1 a bs
  | none => s

/-- The home slice takes a line of a queue to change it: what cores have written there is recalled first (R311, R365). -/
def State.queueOpen (s : State) (r : QueueReg) (off : Nat) : State :=
  match s.queueAddr r off with
  | some a => s.recall a 64
  | none => s

/-- Pop the entry at HEAD: its 64 bytes, whether their line is poisoned, and HEAD advanced, in one step (R365). The header and the entry
may lie in different packages. -/
def State.queuePop (s : State) (r : QueueReg) : (List Byte × Bool) × State :=
  let s0 := s.queueOpen r 0
  let h := s0.queueGet r 0 4
  let head := natOfBytes h.1.1
  let e := (h.2.queueOpen r (r.entryOff head)).queueGet r (r.entryOff head) 64
  (e.1, e.2.queuePut r 0 (bytesOf ((head + 1) % 2 ^ 32) 4))

/-- Write an entry at TAIL and advance TAIL, in one step (R366). -/
def State.queuePush (s : State) (r : QueueReg) (item : List Byte) : State :=
  let s0 := s.queueOpen r 0
  let t := s0.queueGet r 4 4
  let tail := natOfBytes t.1.1
  ((t.2.queueOpen r (r.entryOff tail)).queuePut r (r.entryOff tail) item).queuePut r 4 (bytesOf ((tail + 1) % 2 ^ 32) 4)

/-- A queue has room. -/
def State.queueRoom (s : State) (r : QueueReg) : Nat := 2 ^ r.log2 - s.queueLen r

/-- The contexts that wait at a queue of a name: arrival cycle, rank and slot. -/
def State.poppers (s : State) (q : Nat) : List (Nat × Nat × Nat) :=
  s.cores.flatMap (fun c => c.2.ctxs.filterMap (fun x => match x.2.wait with
    | some (.queuePop n _ _ _ seq _) => if n = q ∧ x.2.waitOver = false then some (seq, c.1, x.1) else none
    | _ => none))

/-- The contexts that wait to push to a queue. -/
def State.pushers (s : State) (q : Nat) : List (Nat × Nat × Nat) :=
  s.cores.flatMap (fun c => c.2.ctxs.filterMap (fun x => match x.2.wait with
    | some (.queuePush n _ seq) => if n = q ∧ x.2.waitOver = false then some (seq, c.1, x.1) else none
    | _ => none))

/-- Arrival order, then ascending rank, then slot (R356). -/
def beforeInOrder (a b : Nat × Nat × Nat) : Bool :=
  decide (a.1 < b.1 ∨ (a.1 = b.1 ∧ (a.2.1 < b.2.1 ∨ (a.2.1 = b.2.1 ∧ a.2.2 < b.2.2))))

/-- Insert in order. -/
def insertInOrder (a : Nat × Nat × Nat) : List (Nat × Nat × Nat) → List (Nat × Nat × Nat)
  | [] => [a]
  | b :: rest => if beforeInOrder a b then a :: b :: rest else b :: insertInOrder a rest

/-- In order. -/
def inOrder (l : List (Nat × Nat × Nat)) : List (Nat × Nat × Nat) := l.foldl (fun r a => insertInOrder a r) []

/-! ### QPOP (R100) -/

/-- What a QPOP finds at issue. -/
inductive PopFound where
  | failed
  | terminated
  | unmapped
  | empty
  | item (r : QueueReg)
  deriving DecidableEq, Repr

/-- The queue number a QPOP or QPUSH names (R100, R101). -/
def State.popFind (s : State) (u : BitVec 5) : PopFound :=
  let v := s.ctx.rs u
  if v.extractLsb' 12 20 ≠ 0 then .failed
  else match s.queueOf (v.extractLsb' 0 12).toNat with
    | none => .failed
    | some r =>
      if r.launch ∨ r.part ≠ s.ctx.part then .failed
      else if !r.live then .terminated
      else if !s.queueMapped r then .unmapped
      else if s.queueLen r ≤ (s.poppers (s.handleOf (v.extractLsb' 0 12).toNat)).length then .empty
      else .item r

/-- The pop that waits in a slot takes the entry at HEAD; its result comes with the end of the cycle (R356). -/
def State.takeFor (s : State) (k : Nat × Nat × Nat) : State :=
  let x := (s.core k.2.1).ctx k.2.2
  match x.wait with
  | some (.queuePop q u p a _ n) =>
    match s.queueHeld q with
    | none => s
    | some r =>
      let w := s.queuePop r
      w.2.setCore k.2.1 ((w.2.core k.2.1).setCtx k.2.2 { x with wait := some (.queueTaken u p a w.1.1 w.1.2 n) })
  | _ => s

/-- The push that waits in a slot places its item at TAIL; the wait ends with the cycle (R356). -/
def State.placeFor (s : State) (k : Nat × Nat × Nat) : State :=
  let c := s.core k.2.1
  let x := c.ctx k.2.2
  match x.wait with
  | some (.queuePush q item _) =>
    match s.queueHeld q with
    | none => s
    | some r => (s.setCore k.2.1 (c.setCtx k.2.2 { x with wait := some .queuePlaced })).queuePush r item
  | _ => s

/-- The code and the pair of a QPOP's outcome (R100). -/
def popWrites (u p code : Nat) : List RegWrite := [.s u (BitVec.ofNat 32 code), .p p (decide (code = 0)), .p (p + 1) (decide (code ≠ 0))]

/-- Put a popped item at its destination: the words' full bits stay (R100). -/
def Core.popStore (c : Core) (a : Nat) (item : List Byte × Bool) : Core := c.store a (natOfBytes item.1) 64 item.2

/-- The address of a QPOP or QPUSH. -/
def Ctx.itemAddr (x : Ctx) (a : BitVec 4) (o : BitVec 8) : DWord := x.ra a + BitVec.ofNat 64 (64 * o.toNat)

/-- QPOP and QPOP.b (R100): pops that wait already are given their entries first (R356). -/
def popAct (g : BitVec 4) (u : BitVec 5) (a p : BitVec 4) (o : BitVec 8) (blocking : Bool) : Act :=
  { guard := g
    uses := [.s u, .a a]
    banned := notInService
    check := fun s => match checkS (s.ctx.itemAddr a o) 64 64 with
      | some f => some f
      | none => if s.popFind u = .unmapped then some (.queue, ((s.ctx.rs u).extractLsb' 0 12).setWidth 64) else none
    perform := fun _ s0 s =>
      match s0.popFind u with
      | .item r =>
        let w := ((inOrder (s.poppers (s0.handleOf ((s0.ctx.rs u).extractLsb' 0 12).toNat))).foldl State.takeFor s).queuePop r
        (w.2.updCore (fun c => c.popStore (s0.ctx.itemAddr a o).toNat w.1)).emit 1 (popWrites u.toNat p.toNat 0)
      | .empty =>
        if blocking then
          let n := s.me.seq
          (s.updCore (fun c => { c with seq := n + 1 })).updCtx (fun x => { x with
            wait := some (.queuePop (s0.handleOf ((s0.ctx.rs u).extractLsb' 0 12).toNat) u.toNat p.toNat (s0.ctx.itemAddr a o).toNat s0.wall n) })
        else s.emit 1 (popWrites u.toNat p.toNat 1)
      | .terminated => s.emit 1 (popWrites u.toNat p.toNat 3)
      | _ => s.emit 1 (popWrites u.toNat p.toNat 2) }

/-- QPOP (R100). -/
def actQpop (g : BitVec 4) (u : BitVec 5) (a p : BitVec 4) (o : BitVec 8) : Act :=
  popAct g u a p o false

/-- QPOP (R100), alone in its bundle. -/
def execQpop (g : BitVec 4) (u : BitVec 5) (a p : BitVec 4) (o : BitVec 8) (s : State) : Out := runAlone (.qpop g u a p o) (actQpop g u a p o) s

/-- QPOP.b: an empty queue makes it wait (R75, R100). -/
def actQpopB (g : BitVec 4) (u : BitVec 5) (a p : BitVec 4) (o : BitVec 8) : Act :=
  popAct g u a p o true

/-- QPOP_B (R100), alone in its bundle. -/
def execQpopB (g : BitVec 4) (u : BitVec 5) (a p : BitVec 4) (o : BitVec 8) (s : State) : Out := runAlone (.qpopB g u a p o) (actQpopB g u a p o) s

/-- The queue of a QPUSH, or `none` where it traps (R101). -/
def State.pushFind (s : State) (u : BitVec 5) : Option QueueReg :=
  let v := s.ctx.rs u
  if v.extractLsb' 12 20 ≠ 0 then none
  else match s.queueOf (v.extractLsb' 0 12).toNat with
    | none => none
    | some r => if r.part = s.ctx.part ∧ r.live = true ∧ s.queueMapped r = true then some r else none

/-- The 64 bytes of a QPUSH at issue. -/
def Core.itemAt (c : Core) (a : Nat) : List Byte := (List.range 64).map (fun i => c.rByte (a + i))

/-- QPUSH reads its item at issue, which it may find at any byte address (R101 states no alignment), and waits while the queue is full;
pushes that wait already place their items first (R101, R356).
For a number with other bits than [11:0], CX_TRAPINFO of its QUEUE holds all 32 bits of s (DESIGN CHOICE, Log 52). -/
def actQpush (g : BitVec 4) (u : BitVec 5) (a : BitVec 4) (o : BitVec 8) : Act :=
  { guard := g
    uses := [.s u, .a a]
    usesMem := fun s => s.me.poisonIn ((s.ctx.itemAddr a o).toNat / 4 * 4) (((s.ctx.itemAddr a o).toNat % 4 + 67) / 4)
    banned := notInService
    check := fun s => match checkS (s.ctx.itemAddr a o) 1 64 with
      | some f => some f
      | none => if (s.pushFind u).isNone then some (.queue, (s.ctx.rs u).setWidth 64) else none
    perform := fun _ s0 s =>
      let item := s0.me.itemAt (s0.ctx.itemAddr a o).toNat
      let q := s0.handleOf ((s0.ctx.rs u).extractLsb' 0 12).toNat
      match s0.pushFind u with
      | none => s
      | some r =>
        if (s0.pushers q).length < s0.queueRoom r then ((inOrder (s.pushers q)).foldl State.placeFor s).queuePush r item
        else s.updCtx (fun x => { x with wait := some (.queuePush q item s0.wall) }) }

/-- QPUSH (R101), alone in its bundle. -/
def execQpush (g : BitVec 4) (u : BitVec 5) (a : BitVec 4) (o : BitVec 8) (s : State) : Out := runAlone (.qpush g u a o) (actQpush g u a o) s

/-- The wait of a context is over: its next bundle issues in the next cycle it may (R75). -/
def Ctx.waitDone (x : Ctx) : Ctx := { x with waitOver := true }

/-- The result of a QPOP whose wait has ended in this cycle: it is there for the bundle of the next (R100). The context's own clock
stands at that bundle already, or still if the context has been switched out (R224). The result keeps the QPOP's place `n` among
those of its own bundle (R15). -/
def State.popEnd (s : State) (rank slot : Nat) (u p code n : Nat) : State :=
  let c := s.core rank
  let x := c.ctx slot
  s.setCore rank (c.setCtx slot { x with pend := insertPend ⟨x.clock, n, popWrites u p code, 0, false⟩ x.pend, waitOver := true })

/-- Serve a pop that waits, if its queue now lets it (R100, R367). -/
def State.servePop (s : State) (k : Nat × Nat × Nat) : State :=
  match ((s.core k.2.1).ctx k.2.2).wait with
  | some (.queuePop q u p a _ n) =>
    match s.queueHeld q with
    | none => s.popEnd k.2.1 k.2.2 u p 3 n
    | some r =>
      if !r.live then s.popEnd k.2.1 k.2.2 u p 3 n
      else if !s.queueMapped r then s.popEnd k.2.1 k.2.2 u p 2 n
      else if s.queueLen r = 0 then s
      else
        let w := s.queuePop r
        (w.2.setCore k.2.1 ((w.2.core k.2.1).popStore a w.1)).popEnd k.2.1 k.2.2 u p 0 n
  | _ => s

/-- Serve a push that waits: its queue has room, or is destroyed or unmapped, and the context takes QUEUE after the QPUSH
bundle (R101). -/
def State.servePush (s : State) (k : Nat × Nat × Nat) : State :=
  let c := s.core k.2.1
  let x := c.ctx k.2.2
  match x.wait with
  | some (.queuePush q item _) =>
    let lost := s.setCore k.2.1 (c.setCtx k.2.2
      { x with waitOver := true, after := .trap { cause := .queue, slot := 0, info := BitVec.ofNat 64 (q % 4096) } })
    (match s.queueHeld q with
    | none => lost
    | some r =>
      if !r.live || !s.queueMapped r then lost
      else if s.queueRoom r = 0 then s
      else (s.setCore k.2.1 (c.setCtx k.2.2 x.waitDone)).queuePush r item)
  | _ => s

/-- The waits end of those that were given an entry, or placed their item, in this cycle. -/
def State.endTaken (s : State) : State :=
  s.cores.foldl (fun t c => c.2.ctxs.foldl (fun t x => match x.2.wait with
    | some (.queueTaken u p a item bad n) => (t.setCore c.1 ((t.core c.1).popStore a (item, bad))).popEnd c.1 x.1 u p 0 n
    | some .queuePlaced => t.setCore c.1 ((t.core c.1).setCtx x.1 (((t.core c.1).ctx x.1).waitDone))
    | _ => t) t) s

/-- The queues that contexts wait at. -/
def State.awaited (s : State) : List Nat :=
  dedupNat (s.cores.flatMap (fun c => c.2.ctxs.filterMap (fun x => match x.2.wait with
    | some (.queuePop q _ _ _ _ _) => some q
    | some (.queuePush q _ _) => some q
    | _ => none)))

/-- The home slices serve the pops and pushes that wait, one at a time in arrival order (R356, R365); a pop may make room
for a push, and a push give a pop its item. -/
def State.serveQueue (s : State) (q : Nat) : State :=
  let s1 := (inOrder (s.poppers q)).foldl State.servePop s
  let s2 := (inOrder (s1.pushers q)).foldl State.servePush s1
  (inOrder (s2.poppers q)).foldl State.servePop s2

/-- Every queue that is waited at. -/
def State.serveQueues (s : State) : State := s.awaited.foldl State.serveQueue s.endTaken

/-- An item for a notice queue is held until the queue has room; one for a queue that is not there is dropped (R354). -/
def State.deliverNotice (s : State) (n : NoticeItem) : State :=
  match s.queueHeld n.queue with
  | none => s
  | some r =>
    if !r.live || !s.queueMapped r then s
    else if s.queueRoom r = 0 then { s with notices := s.notices ++ [n] }
    else s.queuePush r n.bytes

/-- NOTICE_ITEM_DELIVERY (R354): held items go to their queues in the order they were written. -/
def State.noticeItems (s : State) : State := s.notices.foldl State.deliverNotice { s with notices := [] }

/-! ### Groups (R360 to R364) -/

/-- Entry 255 belongs to the firmware and is always in use (R361). The spec gives neither the firmware's identifier, which is free and not
zero (R360), nor another field (DESIGN CHOICE, Log 73). -/
def firmwareGroup : Group := { id := Config.firmwareLaunch % 0xFFFFFFFF + 1, valid := true }
/-- The entry of a group. -/
def State.group (s : State) (g : Nat) : Group := s.groups.get (if g = 255 then firmwareGroup else {}) g
/-- Replace it. -/
def State.setGroup (s : State) (g : Nat) (e : Group) : State := { s with groups := s.groups.put g e }

/-- The group in a slot of CO_GROUPS. -/
def groupSlot (w : Word) (i : Nat) : Nat := (w.extractLsb' (8 * i) 8).toNat

/-- The groups of a core: the slots that are not empty (R361). -/
def groupsOf (w : Word) : List Nat := ((List.range 4).map (groupSlot w)).filter (fun g => g ≠ 255)

/-- The slot that holds a group is cleared (R361). -/
def clearGroup (w : Word) (g : Nat) : Word :=
  (List.range 4).foldl (fun w i => if groupSlot w i = g then w ||| (0xFF#32 <<< (8 * i)) else w) w

/-- A group is put in a slot. -/
def putGroup (w : Word) (i g : Nat) : Word := (w &&& ~~~(0xFF#32 <<< (8 * i))) ||| (BitVec.ofNat 32 g <<< (8 * i))

/-- A group is put in the lowest slot that is empty (R361). -/
def addGroup (w : Word) (g : Nat) : Word :=
  match (List.range 4).find? (fun i => decide (groupSlot w i = 255)) with
  | some i => putGroup w i g
  | none => w

/-- The membership check of SYNC and GDROP (R102 to R104, R361): the core holds the group in a slot, and the entry is of the
context's launch. -/
def State.memberCheck (s : State) (g : Nat) : Option (Cause × DWord) :=
  if (groupsOf s.me.groups).contains g && (s.group g).valid && decide ((s.group g).launch = s.ctx.launch) then none
  else some (.prot, Config.freeInfo s.wall s.cur)

/-- SYNC arrives and the core is frozen from the next cycle; while an arrival of the core stands it waits for the next phase (R102, R104). -/
def actSync (g : BitVec 4) (n : BitVec 8) : Act :=
  { guard := g
    banned := notInService
    check := fun s => s.memberCheck n.toNat
    perform := fun _ s0 s =>
      let stands := (s0.group n.toNat).arrived.getLsbD s0.cur
      ({ s with groupUpds := if stands then s.groupUpds else s.groupUpds ++ [GroupUpd.arrive n.toNat s0.cur] }).updCore (fun c =>
        { c with sync := c.sync ++ [({ group := n.toNat, ctx := s0.who, issued := s0.wall, arrived := !stands, release := none } : SyncWait)] }) }

/-- SYNC (R102), alone in its bundle. -/
def execSync (g : BitVec 4) (n : BitVec 8) (s : State) : Out := runAlone (.sync g n) (actSync g n) s

/-- A core leaves a group: the slot that held it is cleared and the drop counts in the current phase (R103). -/
def State.dropGroup (s : State) (g : Nat) : State :=
  { s with groupUpds := s.groupUpds ++ [GroupUpd.drop g s.cur] }.updCore (fun c => { c with groups := clearGroup c.groups g })

/-- GDROP (R103). -/
def actGdrop (g : BitVec 4) (n : BitVec 8) : Act :=
  { guard := g
    banned := notInService
    check := fun s => s.memberCheck n.toNat
    perform := fun _ _ s => s.dropGroup n.toNat }

/-- GDROP (R103), alone in its bundle. -/
def execGdrop (g : BitVec 4) (n : BitVec 8) (s : State) : Out := runAlone (.gdrop g n) (actGdrop g n) s

/-- Close every open region of the acting context, innermost first (R396). -/
def State.closeRegions (s : State) : Nat → State
  | 0 => s
  | n + 1 => if s.ctx.contain = [] then s else s.closeRegion.closeRegions n

/-- A capacity notice is pending for the acting core (R106, R382). -/
def State.noticePending (s : State) : Bool := decide ((s.unit (coreUnit s.cur)).state = .noticed)

/-- The acting context leaves (R106): it issues nothing further, withdraws from each group in CO_GROUPS, publishes its regions,
and ends when its streams have drained. -/
def State.leave (s : State) : State :=
  let s1 := (groupsOf s.me.groups).foldl State.dropGroup (s.closeRegions 4)
  s1.updCtx (fun x => { x with life := .leaving, xfer := .trapped })

/-- LEAVE acts only while a capacity notice is pending (R106). -/
def actLeave (g : BitVec 4) : Act :=
  { guard := g
    banned := notInService
    perform := fun _ s0 s => if s0.noticePending then s.leave else s }

/-- LEAVE (R106), alone in its bundle. -/
def execLeave (g : BitVec 4) (s : State) : Out := runAlone (.leave g) (actLeave g) s

/-- Apply one update of a cycle to a group (R103, R104, R362, R363). -/
def State.groupApply (s : State) (u : GroupUpd) : State :=
  match u with
  | .arrive g r =>
    let e := s.group g
    s.setGroup g { e with arrn := e.arrn + 1, arrived := setBit e.arrived r true }
  | .drop g r =>
    let e := s.group g
    let stands := e.arrived.getLsbD r
    s.setGroup g { e with arrn := if stands then e.arrn else e.arrn + 1, drops := e.drops + 1,
                          arrived := setBit e.arrived r true, members := setBit e.members r false }
  | .withdraw g r =>
    let e := s.group g
    s.setGroup g { e with arrn := e.arrn - 1, arrived := setBit e.arrived r false }

/-- The group a core waits in restarts at a cycle. -/
def Core.syncRelease (c : Core) (g t : Nat) : Core :=
  { c with sync := c.sync.map (fun w => if w.group = g ∧ w.release = none then { w with release := some t } else w) }

/-- A phase of a group completes (R102, R362): its members restart 48 cycles later, pre-empted ones too (R364). -/
def State.phaseComplete (s : State) (g : Nat) : State :=
  let e := s.group g
  let t := s.wall + 48
  let s1 := s.setGroup g { e with parity := !e.parity, expn := e.expn - e.drops, arrn := 0, drops := 0, arrived := 0 }
  { s1 with
    cores := s1.cores.map (fun (c : Nat × Core) => (c.1, c.2.syncRelease g t))
    images := s1.images.map (fun (m : CtxImage) => match m.ctx.syncSaved with
      | some v => if v.group = g ∧ v.release = none then { m with ctx := { m.ctx with syncSaved := some { v with release := some t } } } else m
      | none => m) }

/-- The timeout of a core's SYNC (R363), also of one that waits for the next phase (R104): in cycle c+T+1, the last that is frozen for it, the arrival is withdrawn, and the context
takes SYNCTO after its bundle. -/
def State.syncTimeout (s : State) (rank : Nat) : State :=
  (s.core rank).sync.foldl (fun s w =>
    let e := s.group w.group
    if (w.release = none ∨ w.arrived = false) ∧ e.timeout ≠ 0 ∧ w.issued + e.timeout + 1 ≤ s.wall then
      let s1 := if w.arrived then s.groupApply (.withdraw w.group rank) else s
      let c := s1.core rank
      s1.setCore rank { c.setCtx w.ctx { c.ctx w.ctx with
        after := .trap { cause := .syncto, slot := 0, info := BitVec.ofNat 64 w.group } } with sync := c.sync.erase w }
    else s) s

/-- SYNC_TIMEOUT (R363) on every core. -/
def State.syncTimeouts (s : State) : State := s.cores.foldl (fun t k => t.syncTimeout k.1) s

/-- The timeout of a SYNC that a pre-emption interrupted: the arrival of the core that now stands for the context's is withdrawn, and
SYNCTO waits in the image (R363, R364). -/
def State.savedTimeouts (s : State) : State :=
  s.images.foldl (fun t m => match m.ctx.syncSaved with
    | none => t
    | some v =>
      let e := t.group v.group
      if (v.release = none ∨ v.arrived = false) ∧ e.timeout ≠ 0 ∧ v.issued + e.timeout + 1 ≤ t.wall then
        let x : Ctx := { m.ctx with
          syncSaved := none, after := .trap { cause := .syncto, slot := 0, info := BitVec.ofNat 64 v.group } }
        { (if v.arrived then t.groupApply (.withdraw v.group (t.rankNow m.launch m.rank)) else t) with
          images := t.images.map (fun (n : CtxImage) => if n.ctx.tag = m.ctx.tag then { n with ctx := x } else n) }
      else t) s

/-- One cycle of the sync network (R362): the arrivals and drops of the cycle apply together, phases complete, and then the
arrivals whose time has run out are withdrawn. -/
def State.groupsCycle (s : State) : State :=
  let s1 := s.groupUpds.foldl State.groupApply { s with groupUpds := [] }
  let s2 := s1.groups.foldl (fun t g => if g.2.valid ∧ 0 < g.2.expn ∧ g.2.expn ≤ g.2.arrn then t.phaseComplete g.1 else t) s1
  s2.syncTimeouts.savedTimeouts

/-- SYNC_RESTART (R102, R104): the freeze of a core's SYNC ends; a SYNC that waited for the phase before arrives now. -/
def State.syncRestart (s : State) (rank : Nat) : State :=
  (s.core rank).sync.foldl (fun s w =>
    if w.release.all (fun t => decide (s.wall < t)) then s
    else
      let c := s.core rank
      if w.arrived then s.setCore rank { c with sync := c.sync.erase w }
      else { s with groupUpds := s.groupUpds ++ [GroupUpd.arrive w.group rank] }.setCore rank
        { c with sync := c.sync.map (fun v => if v = w then { w with arrived := true, release := none } else v) }) s

end Sys2Proof.Machine
end

