-- ==== Sys2Proof/Machine/System.lean ====
section
/-! DEFINITION. System registers (R59, R107 to R109, R228, R229, R382, R383, R387): what SYSRD reads and SYSWR writes. -/
namespace Sys2Proof.Machine
open Sys2Proof

/-- A cell that a user context may not read, or not write (R107). -/
def sysPriv (r : Nat) (write : Bool) : Bool :=
  decide (r = 0x009 ∨ r = 0x00F ∨ r = 0x080 ∨ r = 0x081) || (write && decide (r = 0x007 ∨ r = 0x008 ∨ r = 0x00C ∨ r = 0x042))

/-- The context whose registers a number reaches: in ctxS, the user context that CX_SVCSEL names (R108). -/
def State.sysSlot (s : State) (r : Nat) : Nat :=
  if s.who = 4 ∧ r < 0x20 ∧ r ≠ 0x00F then (s.ctx.svcSel.extractLsb' 0 2).toNat else s.who

/-- CX_STATUS of a slot (R109). -/
def Ctx.status (x : Ctx) (slot : Nat) : Word :=
  BitVec.ofNat 32 ((if x.loop.active then (match x.loop.cfg with | some c => c.levels | none => 0) else 0) * 2 ^ 9
    + (if x.loop.cfg.isSome then 2 ^ 8 else 0) + (if slot = 4 then 2 ^ 7 else slot * 2 ^ 5)
    + (if x.inTrap then 2 else 0) + (if x.priv then 1 else 0))

/-- The code of a lease state (R379). -/
def LeaseState.code : LeaseState → Nat
  | .idle => 0
  | .noticed => 1
  | .granted => 2
  | .testing => 3
  | .returned => 4
  | .retired => 5

/-- CO_LEASE of a core (R382). -/
def HealthUnit.leaseWord (u : HealthUnit) : Word :=
  BitVec.ofNat 32 (u.fails % 4 * 2 ^ 6 + (if u.early then 2 ^ 5 else 0) + u.state.code * 2 + (if u.state = .noticed then 1 else 0))

/-- The cores in a lease state that a test picks. -/
def State.coresIn (s : State) (f : HealthUnit → Bool) : Nat :=
  (s.units.filter (fun u => decide (u.1 < Config.cores) && f u.2)).length

/-- PK_CAPACITY (R383). -/
def State.capacity (s : State) : Word :=
  let ret := s.coresIn (fun u => decide (u.state = .retired))
  let out := s.coresIn HealthUnit.leased
  BitVec.ofNat 32 (ret * 2 ^ 20 + out * 2 ^ 10 + (Config.cores - ret - out))

/-- The value of a system register (R107). -/
def State.sysGet (s : State) (r : Nat) : DWord :=
  let slot := s.sysSlot r
  let x := s.me.ctx slot
  if 0x010 ≤ r ∧ r ≤ 0x017 then (x.rfmt (r - 0x010)).setWidth 64
  else if 0x018 ≤ r ∧ r ≤ 0x01B then (x.rlfmt (r - 0x018)).setWidth 64
  else match r with
    | 0x000 => (x.status slot).setWidth 64
    | 0x001 => x.trapVec
    | 0x002 => x.trapCause.setWidth 64
    | 0x003 => x.trapPc
    | 0x004 => x.trapInfo
    | 0x005 => x.stkLim.setWidth 64
    | 0x006 => x.fpFlags.setWidth 64
    | 0x007 => x.heapBase
    | 0x008 => x.heapLim
    | 0x009 => x.heapOff
    | 0x00A => BitVec.ofNat 64 x.contain.length
    | 0x00B => x.rowProg.setWidth 64
    | 0x00C => x.prio.setWidth 64
    | 0x00F => x.svcSel.setWidth 64
    | 0x01C => x.mcfg.setWidth 64
    | 0x01D => x.mscale.setWidth 64
    | 0x01E => x.mlat.setWidth 64
    | 0x01F => x.mlatBase
    | 0x040 => BitVec.ofNat 64 s.cur
    | 0x041 => s.me.groups.setWidth 64
    | 0x042 => BitVec.ofNat 64 (s.unit (coreUnit s.cur)).score
    | 0x043 => (s.unit (coreUnit s.cur)).leaseWord.setWidth 64
    | 0x080 => s.leasePeriod.setWidth 64
    | _ => s.capacity.setWidth 64

/-- Write one of a context's own registers; reserved bits are dropped (R107, R59, R67, R228, R229, R146, R290). -/
def Ctx.sysSet (x : Ctx) (r : Nat) (v : DWord) : Ctx :=
  let w : Word := v.extractLsb' 0 32
  let page : DWord := v &&& 0x000FFFFFFFFF0000#64
  if 0x010 ≤ r ∧ r ≤ 0x017 then { x with fmt := x.fmt.write 0 (r - 0x010) (w &&& 0x7FF7F#32) }
  else if 0x018 ≤ r ∧ r ≤ 0x01B then { x with lfmt := x.lfmt.write 0 (r - 0x018) (w &&& 0xFF#32) }
  else match r with
    | 0x001 => { x with trapVec := v &&& 0x1FFFC#64 }
    | 0x002 => { x with trapCause := w &&& 0x3FFFFFF#32 }
    | 0x003 => { x with trapPc := v &&& 0x3FFFF#64 }
    | 0x004 => { x with trapInfo := v }
    | 0x005 => { x with stkLim := w &&& 0x7FFFF0#32 }
    | 0x006 => x.writeFlags w
    | 0x007 => { x with heapBase := page }
    | 0x008 => { x with heapLim := page }
    | 0x009 => { x with heapOff := page }
    | 0x00B => { x with rowProg := w }
    | 0x00C => { x with prio := w &&& 7#32 }
    | 0x00F => { x with svcSel := w &&& 3#32 }
    | _ => x

/-- The registers that no SYSWR changes (R107, R109). -/
def sysFixed (r : Nat) : Bool := [0x000, 0x00A, 0x01C, 0x01D, 0x01E, 0x01F, 0x040, 0x041, 0x043, 0x081].contains r

/-- Write a system register (R107): a score that a write raises or lowers is a change of the score (R387, R388). -/
def State.sysSet (s : State) (r : Nat) (v : DWord) : State :=
  if sysFixed r then s
  else if r = 0x042 then
    let u := s.unit (coreUnit s.cur)
    let n := (v.extractLsb' 0 16).toNat
    s.setUnit (coreUnit s.cur)
      { u with score := n, tested := u.tested && decide (n ≤ u.score), early := u.early || decide (256 ≤ n) }
  else if r = 0x080 then { s with leasePeriod := v.extractLsb' 0 32 }
  else s.updCore (fun c => c.setCtx (s.sysSlot r) ((c.ctx (s.sysSlot r)).sysSet r v))

/-- SYSRD (R107). -/
def actSysrd (g : BitVec 4) (u : BitVec 5) (a : BitVec 4) (r : BitVec 9) : Act :=
  { guard := g
    priv := sysPriv r.toNat false
    perform := fun _ s0 s =>
      s.emit 1 [if sysReg64 r.toNat then .a a.toNat (s0.sysGet r.toNat) else .s u.toNat ((s0.sysGet r.toNat).extractLsb' 0 32)] }

/-- SYSRD (R107), alone in its bundle. -/
def execSysrd (g : BitVec 4) (u : BitVec 5) (a : BitVec 4) (r : BitVec 9) (s : State) : Out := runAlone (.sysrd g u a r) (actSysrd g u a r) s

/-- SYSWR: in effect for the bundles of the next cycle (R107). -/
def actSyswr (g : BitVec 4) (u : BitVec 5) (a : BitVec 4) (r : BitVec 9) : Act :=
  { guard := g
    uses := [if sysReg64 r.toNat then .a a else .s u]
    priv := sysPriv r.toNat true
    perform := fun _ s0 s =>
      s.sysSet r.toNat (if sysReg64 r.toNat then s0.ctx.ra a else (s0.ctx.rs u).setWidth 64) }

/-- SYSWR (R107), alone in its bundle. -/
def execSyswr (g : BitVec 4) (u : BitVec 5) (a : BitVec 4) (r : BitVec 9) (s : State) : Out := runAlone (.syswr g u a r) (actSyswr g u a r) s

end Sys2Proof.Machine
end

