-- ==== Sys2Proof/Machine/CSlot.lean ====
section
/-! DEFINITION. The C slots (R181 to R208): issue checks and issue of copy, ordering, atomic, reduction, key/value,
weight-tier, barrier and privileged operations. -/
namespace Sys2Proof.Machine
open Sys2Proof

/-! ### Issue -/

/-- The heap window of a context (R290). -/
def Ctx.heap (x : Ctx) : Heap := ⟨x.heapBase, x.heapLim, x.heapOff⟩

/-- An operation of the acting context, as it is read at issue (R183, R395). -/
def State.newOp (s0 : State) (slot stream : Nat) (kind : CKind) : COp :=
  let x := s0.ctx
  { id := 0, ctx := s0.who, tag := x.tag, launch := x.launch, part := x.part, priv := x.priv, heap := x.heap,
    launchCtx := x.launchCtx, originRank := x.originRank, engine := slot - 4, stream := stream, kind := kind, barrier := none,
    event := false, issued := s0.wall, region := x.contain }

/-- Put an operation in its engine's queue (R184). -/
def State.issueOp (s : State) (o : COp) : State :=
  s.updCore (fun c => { c with ops := c.ops ++ [{ o with id := c.nextOp }], nextOp := c.nextOp + 1 })

/-- The barrier object a bar field names: a field of 0 names none, and a register may hold offset 0 (R28). -/
def Ctx.bar (x : Ctx) (b : BitVec 4) : Option Nat := if b = 0 then none else some (x.ra b).toNat

/-- A barrier object as an operand to be checked (R182). -/
def barPlain (x : Ctx) (b : BitVec 4) : List Plain := if b = 0 then [] else [⟨x.ra b, 16, 16⟩]

/-- A barrier register is read. -/
def barUse (b : BitVec 4) : List Src := if b = 0 then [] else [.a b]

/-- ILLEGAL with the operand value that breaks a limit (R182, 1). -/
def limit (ok : Bool) (v : DWord) : Option (Cause × DWord) := if ok then none else some (.illegal, v)

/-! ### CPY and CPYD (R188 to R192) -/

/-- The total bytes of a walk. -/
def walkTotal (n : Nest) : Nat := walkRuns n * nestCount n 0

/-- The limits of a walk's counts (R188). The operand value of such an ILLEGAL (R182) is the walk's total of bytes (DESIGN CHOICE, Log 70). -/
def walkLimit (n : Nest) : Option (Cause × DWord) :=
  limit (decide (nestCount n 0 ≠ 0 ∧ 0 ∉ walkCounts n ∧ walkTotal n ≤ 0xFFFFFFFF)) (BitVec.ofNat 64 (walkTotal n))

/-- The lowest and the highest byte of a walk, from its strides (R182). -/
def walkSpan (n : Nest) (strides : List Int) : Int × Int :=
  let ends := ((walkCounts n).zip strides).map (fun p => ((p.1 : Int) - 1) * p.2)
  ((ends.map (fun e => min e 0)).sum, (ends.map (fun e => max e 0)).sum + (nestCount n 0 : Int) - 1)

/-- What must be aligned with a walk's address (R182): the strides, and the length but in A-space, where a copy's length need
not cover whole words (R185, R327; DEDUCED, Log 56). -/
def walkAligned (n : Nest) (strides : List Int) (space : Nat) : List Int :=
  if space = 2 then strides else (nestCount n 0 : Int) :: strides

/-- A walk's copy address as an item to be checked. -/
def walkItem (n : Nest) (strides : List Int) (a : DWord) (write : Bool) : Item :=
  let sp := walkSpan n strides
  { addr := a, lo := sp.1, hi := sp.2, write := write, aligned := walkAligned n strides (copySpace a) }

/-- A walk's plain offset in A-space (2) or I-space (5), aligned to 4 (R182, R189, R192). -/
def walkPlainAligned (n : Nest) (strides : List Int) (space : Nat) (a : DWord) : Option (Cause × DWord) :=
  if ((a.toNat : Int) :: walkAligned n strides space).all (fun v => decide (v % 4 = 0)) then none else some (.align, a)

/-- The window of the acting context whose base range holds a range of own A-space (R189, R193). -/
def State.shadowOf (s : State) (lo hi : Int) : Option Window :=
  (s.ctx.windows.find? (fun w => decide ((w.2.base : Int) ≤ lo ∧ hi < (w.2.base : Int) + w.2.size))).map Prod.snd

/-- The window of a shadow copy's destination (R189). -/
def State.shadowDst (s : State) (i : Item) : Option Window :=
  let l := copyLoc i.addr
  if l.space = 2 ∧ l.rank = s.cur then s.shadowOf ((l.off : Int) + i.lo) ((l.off : Int) + i.hi) else none

/-- The destination of CPY.i lies in an idle half of this core's I-space (R189, R404). -/
def State.idleTarget (s : State) (n : Nest) (a : DWord) : Bool :=
  let sp := walkSpan n (strideDst n)
  let lo := (a.toNat : Int) + sp.1
  let hi := (a.toNat : Int) + sp.2
  decide (0 ≤ lo ∧ hi < 0x40000) && s.halfIdle s.cur (lo / 0x20000).toNat && s.halfIdle s.cur (hi / 0x20000).toNat

/-- The checks of CPY (R182, R188, R189): flags are .sh, .crc and .i. -/
def checkCpy (d f : BitVec 4) (n : BitVec 3) (b : BitVec 4) (sh crc isp : Bool) (s : State) : Option (Cause × DWord) :=
  let x := s.ctx
  let w := x.rn n.toNat
  let src := walkItem w (strideSrc w) (x.ra f) false
  let dst := walkItem w (strideDst w) (x.ra d) true
  let items := if isp then [src] else [src, dst]
  firstFail ([limit (!(sh && isp)) 0, walkLimit w, limit (!crc || decide (b ≠ 0)) 0,
      limit (!crc || decide (5 ≤ walkTotal w)) (BitVec.ofNat 64 (walkTotal w))]
    ++ checkPlaces s s.checker items
    ++ [if sh && (s.shadowDst dst).isNone then some (.prot, x.ra d) else none]
    ++ checkAligned items (barPlain x b)
    ++ [if isp then walkPlainAligned w (strideDst w) 5 (x.ra d) else none]
    ++ checkBounds s s.checker items (barPlain x b)
    ++ [if isp && !s.idleTarget w (x.ra d) then some (.ifetch, x.ra d) else none])

/-- A copy address in this core's I-space. -/
def ownISpace (rank : Nat) (off : DWord) : DWord := BitVec.ofNat 64 (5 * 2 ^ 60 + rank * 2 ^ 51 + off.toNat % 2 ^ 51)

/-- The name of the hidden frame (R190): the partner's. -/
def Window.hidden (w : Window) (a : DWord) : DWord := a - BitVec.ofNat 64 w.base + BitVec.ofNat 64 w.partner

/-- Where a CPY writes: the hidden frame for .sh, this core's I-space for .i. -/
def State.cpyDst (s : State) (w : Nest) (a : DWord) (sh isp : Bool) : DWord :=
  if isp then ownISpace s.cur a
  else if sh then (match s.shadowDst (walkItem w (strideDst w) a true) with
    | some v => v.hidden a
    | none => a)
  else a

/-- CPY (R188, R189). -/
def actCpy (g d f : BitVec 4) (n : BitVec 3) (t b : BitVec 4) (x : BitVec 3) : Act :=
  { guard := g
    uses := [.a d, .a f] ++ barUse b
    check := checkCpy d f n b (x.getLsbD 0) (x.getLsbD 1) (x.getLsbD 2)
    engine := true
    perform := fun slot s0 s =>
      let w := s0.ctx.rn n.toNat
      let sh := x.getLsbD 0
      let isp := x.getLsbD 2
      s.issueOp { s0.newOp slot t.toNat (.cpy { src := s0.ctx.ra f, dst := s0.cpyDst w (s0.ctx.ra d) sh isp, nest := w }
          sh (x.getLsbD 1) isp) with barrier := s0.ctx.bar b } }

/-- CPY (R188), alone in its bundle. -/
def execCpy (g d f : BitVec 4) (n : BitVec 3) (t b : BitVec 4) (x : BitVec 3) (s : State) : Out := runAlone (.cpy g d f n t b x) (actCpy g d f n t b x) s

/-- CPYD: its deadline counts the unfrozen cycles of the context (R192). -/
def actCpyd (g d f : BitVec 4) (n : BitVec 3) (t : BitVec 4) (u : BitVec 5) : Act :=
  { guard := g
    uses := [.a d, .a f, .s u]
    check := fun s =>
      let w := s.ctx.rn n.toNat
      let items := [walkItem w (strideSrc w) (s.ctx.ra f) false]
      let sp := walkSpan w (strideDst w)
      let at_ : Int := (s.ctx.ra d).toNat
      firstFail ([walkLimit w, limit (decide ((s.ctx.rs u).extractLsb' 0 12 ≠ 0)) ((s.ctx.rs u).setWidth 64)]
        ++ checkPlaces s s.checker items ++ checkAligned items [] ++ [walkPlainAligned w (strideDst w) 2 (s.ctx.ra d)]
        ++ checkBounds s s.checker items []
        ++ [if at_ + sp.1 < 0 ∨ (Config.aSize : Int) ≤ at_ + sp.2 then some (.abound, s.ctx.ra d) else none])
    engine := true
    perform := fun slot s0 s =>
      s.issueOp { s0.newOp slot t.toNat (.cpyd { src := s0.ctx.ra f, dst := s0.ctx.ra d, nest := s0.ctx.rn n.toNat }) with
        deadline := some (s0.ctx.clock + ((s0.ctx.rs u).extractLsb' 0 12).toNat) } }

/-- CPYD (R192), alone in its bundle. -/
def execCpyd (g d f : BitVec 4) (n : BitVec 3) (t : BitVec 4) (u : BitVec 5) (s : State) : Out := runAlone (.cpyd g d f n t u) (actCpyd g d f n t u) s

/-- PUB: performs after the earlier operations of its stream (R191). -/
def actPub (g t : BitVec 4) (w : BitVec 2) : Act :=
  { guard := g
    check := fun s => limit (s.ctx.windows.find w.toNat).isSome (w.setWidth 64)
    engine := true
    perform := fun slot s0 s => s.issueOp (s0.newOp slot t.toNat (.pub w.toNat)) }

/-- PUB (R191), alone in its bundle. -/
def execPub (g t : BitVec 4) (w : BitVec 2) (s : State) : Out := runAlone (.pub g t w) (actPub g t w) s

/-- Two ranges of one size, or of two, meet. -/
def rangesMeet (a n b m : Nat) : Bool := decide (a < b + m ∧ b < a + n)

/-- The limits of PUB.def (R191). -/
def checkWindow (s : State) (w : Nat) (base partner : DWord) (size : Word) : Option (Cause × DWord) :=
  let b := base.toNat
  let p := partner.toNat
  let n := size.toNat
  let free := fun (a : Nat) => s.me.ctxs.all (fun x => x.2.windows.all (fun v =>
    !rangesMeet a n v.2.base v.2.size && !rangesMeet a n v.2.partner v.2.size))
  firstFail [limit (s.ctx.windows.find w).isNone (BitVec.ofNat 64 w),
    limit (decide (b % 4096 = 0)) base, limit (decide (p % 4096 = 0)) partner,
    limit (decide (n % 4096 = 0 ∧ 4096 ≤ n ∧ n ≤ 0x100000)) (size.setWidth 64),
    limit (decide (b + n ≤ Config.aSize)) base, limit (decide (p + n ≤ Config.aSize)) partner,
    limit (!rangesMeet b n p n) partner, limit (free b) base, limit (free p) partner]

/-- PUB.def (R191). -/
def actPubDef (g a y : BitVec 4) (u : BitVec 5) (w : BitVec 2) : Act :=
  { guard := g
    uses := [.a a, .a y, .s u]
    check := fun s => checkWindow s w.toNat (s.ctx.ra a) (s.ctx.ra y) (s.ctx.rs u)
    perform := fun _ s0 s => 
      let v : Window := { base := (s0.ctx.ra a).toNat, partner := (s0.ctx.ra y).toNat, size := (s0.ctx.rs u).toNat }
      s.updCtx (fun x => { x with windows := x.windows.put w.toNat v }) }

/-- PUB_DEF (R191), alone in its bundle. -/
def execPubDef (g a y : BitVec 4) (u : BitVec 5) (w : BitVec 2) (s : State) : Out := runAlone (.pubDef g a y u w) (actPubDef g a y u w) s

/-- Swap two ranges of a map. -/
def swapRange {α : Type} (m : Map α) (a b n : Nat) : Map α :=
  m.foldl (fun r e =>
    let k := if a ≤ e.1 ∧ e.1 < a + n then e.1 - a + b else if b ≤ e.1 ∧ e.1 < b + n then e.1 - b + a else e.1
    r.put k e.2) []

/-- The contents of the two frames of an exchanged window change places and the window is as it was defined: every name
reads as before (R190, R191). -/
def Core.normalise (c : Core) (slot w : Nat) : Core :=
  let x := c.ctx slot
  match x.windows.find w with
  | none => c
  | some v =>
    if !v.exchanged then c
    else { c with aspace := swapRange c.aspace v.base v.partner v.size
                  full := swapRange c.full (v.base / 4) (v.partner / 4) (v.size / 4)
                  apoison := swapRange c.apoison (v.base / 4) (v.partner / 4) (v.size / 4)
         }.setCtx slot { x with windows := x.windows.put w { v with exchanged := false } }

/-- PUB.clr: frames and names agree again, with the core frozen for size / 256 cycles (R191); causes of one cycle overlap (R251). -/
def actPubClr (g : BitVec 4) (w : BitVec 2) : Act :=
  { guard := g
    check := fun s => limit (s.ctx.windows.find w.toNat).isSome (w.setWidth 64)
    perform := fun _ s0 s =>
      let wait := match s0.ctx.windows.find w.toNat with
        | some v => if v.exchanged then v.size / 256 else 0
        | none => 0
      let s1 := s.updCore (fun c => { c.normalise s0.who w.toNat with freeze := max c.freeze wait })
      s1.updCtx (fun x => { x with windows := x.windows.erase w.toNat }) }

/-- PUB_CLR (R191), alone in its bundle. -/
def execPubClr (g : BitVec 4) (w : BitVec 2) (s : State) : Out := runAlone (.pubClr g w) (actPubClr g w) s

/-! ### Gathers, scatters, order, atomics and reductions (R193 to R199) -/

/-- The A-space side and the list of a GATH or SCAT (R193). -/
def indexPlains (s : State) (near list : DWord) (w : Nest) (b : BitVec 4) : List Plain :=
  [⟨near, nestCount w 0 * nestCount w 1, 4⟩, ⟨list, 4 * nestCount w 1, 4⟩] ++ barPlain s.ctx b

/-- A length that is no multiple of 4 is misaligned (R182, R193). -/
def lengthAligned (n : Nat) : Option (Cause × DWord) := if n % 4 = 0 then none else some (.align, BitVec.ofNat 64 n)

/-- GATH (R193). -/
def actGath (g d f : BitVec 4) (n : BitVec 3) (t b : BitVec 4) (h : BitVec 1) : Act :=
  { guard := g
    uses := [.a d, .a f, .a (f + 1)] ++ barUse b
    check := fun s =>
      let w := s.ctx.rn n.toNat
      let ps := indexPlains s (s.ctx.ra d) (s.ctx.ra (f + 1)) w b
      let lo : Int := (s.ctx.ra d).toNat
      firstFail ([if h = 1 ∧ s.shadowOf lo (lo + nestCount w 0 * nestCount w 1 - 1) = none then some (.prot, s.ctx.ra d) else none]
        ++ checkAligned [] ps ++ [lengthAligned (nestCount w 0)] ++ checkBounds s s.checker [] ps)
    engine := true
    perform := fun slot s0 s =>
      let w := s0.ctx.rn n.toNat
      let lo : Int := (s0.ctx.ra d).toNat
      let dst := match (if h = 1 then s0.shadowOf lo (lo + nestCount w 0 * nestCount w 1 - 1) else none) with
        | some v => v.hidden (s0.ctx.ra d)
        | none => s0.ctx.ra d
      s.issueOp { s0.newOp slot t.toNat (.gath dst (s0.ctx.ra f) (s0.ctx.ra (f + 1)) (nestCount w 0) (nestCount w 1) (h = 1)) with
        barrier := s0.ctx.bar b } }

/-- GATH (R193), alone in its bundle. -/
def execGath (g d f : BitVec 4) (n : BitVec 3) (t b : BitVec 4) (h : BitVec 1) (s : State) : Out := runAlone (.gath g d f n t b h) (actGath g d f n t b h) s

/-- SCAT (R193). -/
def actScat (g d f : BitVec 4) (n : BitVec 3) (t b : BitVec 4) : Act :=
  { guard := g
    uses := [.a d, .a (d + 1), .a f] ++ barUse b
    check := fun s =>
      let w := s.ctx.rn n.toNat
      let ps := indexPlains s (s.ctx.ra f) (s.ctx.ra (d + 1)) w b
      firstFail (checkAligned [] ps ++ [lengthAligned (nestCount w 0)] ++ checkBounds s s.checker [] ps)
    engine := true
    perform := fun slot s0 s =>
      let w := s0.ctx.rn n.toNat
      s.issueOp { s0.newOp slot t.toNat (.scat (s0.ctx.ra d) (s0.ctx.ra f) (s0.ctx.ra (d + 1)) (nestCount w 0) (nestCount w 1)) with
        barrier := s0.ctx.bar b } }

/-- SCAT (R193), alone in its bundle. -/
def execScat (g d f : BitVec 4) (n : BitVec 3) (t b : BitVec 4) (s : State) : Out := runAlone (.scat g d f n t b) (actScat g d f n t b) s

/-- DRAIN (R194). -/
def actDrain (g b t : BitVec 4) (e : BitVec 1) : Act :=
  { guard := g
    uses := barUse b
    check := fun s => checkItems s s.checker [] (barPlain s.ctx b)
    engine := true
    perform := fun slot s0 s =>
      s.issueOp { s0.newOp slot t.toNat .drain with barrier := s0.ctx.bar b, event := e = 1 } }

/-- DRAIN (R194), alone in its bundle. -/
def execDrain (g b t : BitVec 4) (e : BitVec 1) (s : State) : Out := runAlone (.drain g b t e) (actDrain g b t e) s

/-- XFENCE (R195). -/
def actXfence (g t : BitVec 4) (u : BitVec 5) : Act :=
  { guard := g
    uses := [.s u]
    engine := true
    perform := fun slot s0 s => s.issueOp (s0.newOp slot t.toNat (.xfence ((s0.ctx.rs u).extractLsb' 0 16))) }

/-- XFENCE (R195), alone in its bundle. -/
def execXfence (g t : BitVec 4) (u : BitVec 5) (s : State) : Out := runAlone (.xfence g t u) (actXfence g t u) s

/-- The space of a copy address is G-space (R196, R197, R199). -/
def inG (a : DWord) : Bool := decide (copySpace a ≤ 1)

/-- The space is one that no copy address may name: it traps XLATE (R8, R182). -/
def reservedSpace (a : DWord) : Bool := decide (8 ≤ copySpace a)

/-- An atomic (R196): cas takes s and s+1. Its data operands carry their poison; only the addresses consume it (R392, R393). -/
def amoAct (op : Nat) (g x y t : BitVec 4) (u : BitVec 5) : Act :=
  { guard := g
    uses := [.a x, .a y]
    check := fun s =>
      let items : List Item := [{ addr := s.ctx.ra x, hi := 3, write := true, al := 4 }]
      firstFail ([limit (inG (s.ctx.ra x)) (s.ctx.ra x), limit (op ≠ 7 ∨ u.toNat % 2 = 0) ((s.ctx.rs u).setWidth 64),
        checkItems s s.checker items [⟨s.ctx.ra y, 4, 4⟩]])
    engine := true
    perform := fun slot s0 s =>
      s.issueOp (s0.newOp slot t.toNat (.amo op (s0.ctx.ra x) (s0.ctx.ra y).toNat (s0.ctx.rs u) (s0.ctx.rs (u + 1))
        (s0.anyPoisoned (.s u :: if op = 7 then [.s (u + 1)] else [])))) }

/-- AMO.ADD (R196). -/
def actAmoAdd (g x y t : BitVec 4) (u : BitVec 5) : Act :=
  amoAct 0 g x y t u

/-- AMO_ADD (R196), alone in its bundle. -/
def execAmoAdd (g x y t : BitVec 4) (u : BitVec 5) (s : State) : Out := runAlone (.amoAdd g x y t u) (actAmoAdd g x y t u) s

/-- AMO.MIN (R196). -/
def actAmoMin (g x y t : BitVec 4) (u : BitVec 5) : Act :=
  amoAct 1 g x y t u

/-- AMO_MIN (R196), alone in its bundle. -/
def execAmoMin (g x y t : BitVec 4) (u : BitVec 5) (s : State) : Out := runAlone (.amoMin g x y t u) (actAmoMin g x y t u) s

/-- AMO.MAX (R196). -/
def actAmoMax (g x y t : BitVec 4) (u : BitVec 5) : Act :=
  amoAct 2 g x y t u

/-- AMO_MAX (R196), alone in its bundle. -/
def execAmoMax (g x y t : BitVec 4) (u : BitVec 5) (s : State) : Out := runAlone (.amoMax g x y t u) (actAmoMax g x y t u) s

/-- AMO.AND (R196). -/
def actAmoAnd (g x y t : BitVec 4) (u : BitVec 5) : Act :=
  amoAct 3 g x y t u

/-- AMO_AND (R196), alone in its bundle. -/
def execAmoAnd (g x y t : BitVec 4) (u : BitVec 5) (s : State) : Out := runAlone (.amoAnd g x y t u) (actAmoAnd g x y t u) s

/-- AMO.OR (R196). -/
def actAmoOr (g x y t : BitVec 4) (u : BitVec 5) : Act :=
  amoAct 4 g x y t u

/-- AMO_OR (R196), alone in its bundle. -/
def execAmoOr (g x y t : BitVec 4) (u : BitVec 5) (s : State) : Out := runAlone (.amoOr g x y t u) (actAmoOr g x y t u) s

/-- AMO.XOR (R196). -/
def actAmoXor (g x y t : BitVec 4) (u : BitVec 5) : Act :=
  amoAct 5 g x y t u

/-- AMO_XOR (R196), alone in its bundle. -/
def execAmoXor (g x y t : BitVec 4) (u : BitVec 5) (s : State) : Out := runAlone (.amoXor g x y t u) (actAmoXor g x y t u) s

/-- AMO.SWAP (R196). -/
def actAmoSwap (g x y t : BitVec 4) (u : BitVec 5) : Act :=
  amoAct 6 g x y t u

/-- AMO_SWAP (R196), alone in its bundle. -/
def execAmoSwap (g x y t : BitVec 4) (u : BitVec 5) (s : State) : Out := runAlone (.amoSwap g x y t u) (actAmoSwap g x y t u) s

/-- AMO.CAS (R196). -/
def actAmoCas (g x y t : BitVec 4) (u : BitVec 5) : Act :=
  amoAct 7 g x y t u

/-- AMO_CAS (R196), alone in its bundle. -/
def execAmoCas (g x y t : BitVec 4) (u : BitVec 5) (s : State) : Out := runAlone (.amoCas g x y t u) (actAmoCas g x y t u) s

/-- A reduction (R197): s elements of A-space into G-space. -/
def redAct (op : Nat) (g x y t : BitVec 4) (u : BitVec 5) : Act :=
  { guard := g
    uses := [.a x, .a y, .s u]
    check := fun s =>
      let n := redBytes op
      let k := (s.ctx.rs u).toNat
      let items : List Item := [{ addr := s.ctx.ra x, hi := (k : Int) * n - 1, write := true, al := n }]
      let ps : List Plain := [⟨s.ctx.ra y, k * n, n⟩]
      firstFail ([limit (inG (s.ctx.ra x)) (s.ctx.ra x), limit (decide (1 ≤ k ∧ k * n ≤ 256)) ((s.ctx.rs u).setWidth 64)]
        ++ checkPlaces s s.checker items
        ++ [if (s.redSlot s.ctx.launch s.ctx.originRank s.ctx.launchCtx).isNone then some (.prot, s.ctx.ra x) else none]
        ++ checkAligned items ps ++ checkBounds s s.checker items ps)
    engine := true
    perform := fun slot s0 s =>
      s.issueOp (s0.newOp slot t.toNat (.red op (s0.ctx.ra x) (s0.ctx.ra y).toNat (s0.ctx.rs u).toNat)) }

/-- RED_ADD_F32 (R197). -/
def actRedAddF32 (g x y t : BitVec 4) (u : BitVec 5) : Act :=
  redAct 0 g x y t u

/-- RED_ADD_F32 (R197), alone in its bundle. -/
def execRedAddF32 (g x y t : BitVec 4) (u : BitVec 5) (s : State) : Out := runAlone (.redAddF32 g x y t u) (actRedAddF32 g x y t u) s

/-- RED_ADD_F64 (R197). -/
def actRedAddF64 (g x y t : BitVec 4) (u : BitVec 5) : Act :=
  redAct 1 g x y t u

/-- RED_ADD_F64 (R197), alone in its bundle. -/
def execRedAddF64 (g x y t : BitVec 4) (u : BitVec 5) (s : State) : Out := runAlone (.redAddF64 g x y t u) (actRedAddF64 g x y t u) s

/-- RED_ADD_S32 (R197). -/
def actRedAddS32 (g x y t : BitVec 4) (u : BitVec 5) : Act :=
  redAct 2 g x y t u

/-- RED_ADD_S32 (R197), alone in its bundle. -/
def execRedAddS32 (g x y t : BitVec 4) (u : BitVec 5) (s : State) : Out := runAlone (.redAddS32 g x y t u) (actRedAddS32 g x y t u) s

/-- RED_MAX_F32 (R197). -/
def actRedMaxF32 (g x y t : BitVec 4) (u : BitVec 5) : Act :=
  redAct 3 g x y t u

/-- RED_MAX_F32 (R197), alone in its bundle. -/
def execRedMaxF32 (g x y t : BitVec 4) (u : BitVec 5) (s : State) : Out := runAlone (.redMaxF32 g x y t u) (actRedMaxF32 g x y t u) s

/-- RED_MIN_F32 (R197). -/
def actRedMinF32 (g x y t : BitVec 4) (u : BitVec 5) : Act :=
  redAct 4 g x y t u

/-- RED_MIN_F32 (R197), alone in its bundle. -/
def execRedMinF32 (g x y t : BitVec 4) (u : BitVec 5) (s : State) : Out := runAlone (.redMinF32 g x y t u) (actRedMinF32 g x y t u) s

/-- PFL2 has no effect that a program can see, and never faults (R198); a poisoned address or size traps POISON, because R393 has every copy
address that a C slot reads consume it (DESIGN CHOICE, Log 70). -/
def actPfl2 (g x : BitVec 4) (u : BitVec 5) : Act :=
  { guard := g, uses := [.a x, .s u], perform := fun _ _ s => s }

/-- PFL2 (R198), alone in its bundle. -/
def execPfl2 (g x : BitVec 4) (u : BitVec 5) (s : State) : Out := runAlone (.pfl2 g x u) (actPfl2 g x u) s

/-- CWB (R199): 0 write back, 1 and invalidate, 2 discard. An address of spaces 2 to 7 traps ILLEGAL (DEDUCED, Log 27), one of spaces 8
to 15 XLATE (R8). -/
def cwbAct (op : Nat) (g x t : BitVec 4) (u : BitVec 5) : Act :=
  { guard := g
    uses := [.a x, .s u]
    priv := decide (op = 2)
    check := fun s =>
      let n := (s.ctx.rs u).toNat
      firstFail [limit (inG (s.ctx.ra x) || reservedSpace (s.ctx.ra x)) (s.ctx.ra x),
        checkItems s s.checker [{ addr := s.ctx.ra x, hi := (max n 1 : Nat) - 1 }] []]
    engine := true
    perform := fun slot s0 s =>
      s.issueOp (s0.newOp slot t.toNat (.cwb op (s0.ctx.ra x) (s0.ctx.rs u).toNat)) }

/-- CWB_WB (R199). -/
def actCwbWb (g x t : BitVec 4) (u : BitVec 5) : Act :=
  cwbAct 0 g x t u

/-- CWB_WB (R199), alone in its bundle. -/
def execCwbWb (g x t : BitVec 4) (u : BitVec 5) (s : State) : Out := runAlone (.cwbWb g x t u) (actCwbWb g x t u) s

/-- CWB_WBI (R199). -/
def actCwbWbi (g x t : BitVec 4) (u : BitVec 5) : Act :=
  cwbAct 1 g x t u

/-- CWB_WBI (R199), alone in its bundle. -/
def execCwbWbi (g x t : BitVec 4) (u : BitVec 5) (s : State) : Out := runAlone (.cwbWbi g x t u) (actCwbWbi g x t u) s

/-- CWB_INV (R199). -/
def actCwbInv (g x t : BitVec 4) (u : BitVec 5) : Act :=
  cwbAct 2 g x t u

/-- CWB_INV (R199), alone in its bundle. -/
def execCwbInv (g x t : BitVec 4) (u : BitVec 5) (s : State) : Out := runAlone (.cwbInv g x t u) (actCwbInv g x t u) s

/-! ### Key/value instructions (R203, R204, R335, R340, R346) -/

/-- The handle-table entries that a KV instruction needs are in the core's handle cache (R203); whether they are is open. -/
def State.handleReady (s : State) : Bool :=
  match s.me.handleWait with
  | some 0 => true
  | some _ => false
  | none => Config.freeBool s.free

/-- A KV instruction is held until the entry has arrived. -/
def holdHandle (s : State) : Option Hold := if s.handleReady then none else some .handle

/-- A KV instruction issues: the entry has served. -/
def State.kvIssue (s : State) (o : COp) : State :=
  ({ s with free := s.free + 1 }.updCore (fun c => { c with handleWait := none })).issueOp o

/-- Checks 1 to 4 of a handle at issue (R340): the tables as the core's own operations find them (R308, R310). -/
def State.kvFind (s : State) (h : DWord) : Option KvEntry := (s.ownView s.cur).kvLookup s.ctx.part h

/-- The bytes of one row of the entry a handle names. -/
def State.kvRowBytes (s : State) (h : DWord) : Nat := match s.kvFind h with
  | some e => e.rowb
  | none => 0

/-- The checks of KVLD (R182, R203, R340, R349): `d` is the .d suffix. -/
def checkKvld (s : State) (h y : DWord) (first w : Word) (even d : Bool) : Option (Cause × DWord) :=
  let count := (w.extractLsb' 0 12).toNat
  let dl := (w.extractLsb' 12 12).toNat
  firstFail [limit even (first.setWidth 64), limit (decide (count ≠ 0) && (if d then decide (dl ≠ 0) else decide (dl = 0))) (w.setWidth 64),
    if !s.handleReady then none
    else match s.kvFind h with
      | none => some (.kvhandle, h)
      | some e =>
        if !kvldRange h e first.toNat count (w.extractLsb' 24 7).toNat then some (.kvhandle, h)
        else checkItems s s.checker [] [⟨y, count * e.rowb, 4⟩]]

/-- KVLD (R203, R349). -/
def actKvld (g x y t : BitVec 4) (u : BitVec 5) (d e : BitVec 1) : Act :=
  { guard := g
    uses := [.a x, .a y, .s u, .s (u + 1)]
    check := fun s => checkKvld s (s.ctx.ra x) (s.ctx.ra y) (s.ctx.rs u) (s.ctx.rs (u + 1)) (u.toNat % 2 = 0) (d = 1)
    engine := true
    hold := holdHandle
    perform := fun slot s0 s =>
      let w := s0.ctx.rs (u + 1)
      s.kvIssue { s0.newOp slot t.toNat (.kvld (s0.ctx.ra x) (s0.ctx.ra y).toNat (s0.ctx.rs u).toNat (w.extractLsb' 0 12).toNat
          (w.extractLsb' 24 7).toNat (w.extractLsb' 31 1).toNat) with
        event := e = 1
        deadline := if d = 1 then some (s0.ctx.clock + (w.extractLsb' 12 12).toNat) else none } }

/-- KVLD (R203), alone in its bundle. -/
def execKvld (g x y t : BitVec 4) (u : BitVec 5) (d e : BitVec 1) (s : State) : Out := runAlone (.kvld g x y t u d e) (actKvld g x y t u d e) s

/-- The length from which a KVAPP of the acting context appends (R335). -/
def State.kvFrom (s : State) (h : DWord) (e : KvEntry) : Nat := e.length + s.kvAhead (kvIndex h)

/-- ctxS has refused the page of this KVAPP, held in this bundle: it traps, whatever its pages need by now (R346). -/
def kvWasRefused (x : Ctx) (h : DWord) : Bool := decide (x.kvRefused = some (h, x.pc % 0x40000))

/-- The checks of KVAPP (R182, R203, R204, R340). -/
def checkKvapp (s : State) (h y : DWord) (v : Word) : Option (Cause × DWord) :=
  firstFail [limit (decide (v.extractLsb' 0 12 ≠ 0 ∧ v.extractLsb' 12 20 = 0)) (v.setWidth 64),
    if !s.handleReady then none
    else match s.kvFind h with
      | none => some (.kvhandle, h)
      | some e =>
        if !kvappRange h e (s.kvFrom h e) v.toNat then some (.kvhandle, h)
        else match checkItems s s.checker [] [⟨y, 2 * e.heads * e.rowb * v.toNat, 4⟩] with
          | some f => some f
          | none => if kvWasRefused s.ctx h then some (.kvcow, h) else none]

/-- A KVAPP whose target page needs a page does not issue: the core is frozen and ctxS is asked (R204, R346). -/
def holdKvapp (x : BitVec 4) (u : BitVec 5) (s : State) : Option Hold :=
  if !s.handleReady then some .handle
  else match s.kvFind (s.ctx.ra x) with
    | none => none
    | some e => ((s.ownView s.cur).kvTarget s.ctx.part e (s.kvFrom (s.ctx.ra x) e) (s.ctx.rs u).toNat).map (fun n =>
        .kvPage { kind := 2, slot := s.who, s3 := BitVec.ofNat 32 (kvIndex (s.ctx.ra x)), s4 := BitVec.ofNat 32 n.1,
                  s5 := BitVec.ofNat 32 n.2, s6 := BitVec.ofNat 32 ((s.ownView s.cur).kvFreeCount s.ctx.part), a2 := s.ctx.ra x, holds := true, part := s.ctx.part })

/-- KVAPP (R203, R204). -/
def actKvapp (g x y t : BitVec 4) (u : BitVec 5) (e : BitVec 1) : Act :=
  { guard := g
    uses := [.a x, .a y, .s u]
    check := fun s => checkKvapp s (s.ctx.ra x) (s.ctx.ra y) (s.ctx.rs u)
    engine := true
    hold := holdKvapp x u
    perform := fun slot s0 s =>
      (s.kvIssue { s0.newOp slot t.toNat (.kvapp (s0.ctx.ra x) (s0.ctx.ra y).toNat (s0.ctx.rs u).toNat) with event := e = 1 }).updCtx
        (fun x => { x with kvRefused := x.kvRefused.filter (fun r => decide (r.2 ≠ s0.ctx.pc % 0x40000)) }) }

/-- KVAPP (R203), alone in its bundle. -/
def execKvapp (g x y t : BitVec 4) (u : BitVec 5) (e : BitVec 1) (s : State) : Out := runAlone (.kvapp g x y t u e) (actKvapp g x y t u e) s

/-- KVFORK (R203, R204). -/
def actKvfork (g x y t : BitVec 4) (e : BitVec 1) : Act :=
  { guard := g
    uses := [.a x, .a y]
    check := fun s =>
      if !s.handleReady then none
      else match s.kvFind (s.ctx.ra x), s.kvFind (s.ctx.ra y) with
        | none, _ => some (.kvhandle, s.ctx.ra x)
        | _, none => some (.kvhandle, s.ctx.ra y)
        | some a, some b => if (s.ownView s.cur).kvforkRange s.ctx.part (s.ctx.ra y) a b then none else some (.kvhandle, s.ctx.ra y)
    engine := true
    hold := holdHandle
    perform := fun slot s0 s =>
      s.kvIssue { s0.newOp slot t.toNat (.kvfork (s0.ctx.ra x) (s0.ctx.ra y)) with event := e = 1 } }

/-- KVFORK (R203), alone in its bundle. -/
def execKvfork (g x y t : BitVec 4) (e : BitVec 1) (s : State) : Out := runAlone (.kvfork g x y t e) (actKvfork g x y t e) s

/-- KVREL (R203). -/
def actKvrel (g x t : BitVec 4) (e : BitVec 1) : Act :=
  { guard := g
    uses := [.a x]
    check := fun s =>
      if !s.handleReady then none
      else if (s.kvFind (s.ctx.ra x)).isNone then some (.kvhandle, s.ctx.ra x) else none
    engine := true
    hold := holdHandle
    perform := fun slot s0 s =>
      s.kvIssue { s0.newOp slot t.toNat (.kvrel (s0.ctx.ra x)) with event := e = 1 } }

/-- KVREL (R203), alone in its bundle. -/
def execKvrel (g x t : BitVec 4) (e : BitVec 1) (s : State) : Out := runAlone (.kvrel g x t e) (actKvrel g x t e) s

/-! ### Weight-tier instructions (R205 to R207, R256, R267) -/

/-- The core and the first row that WPROG names (R205): a row of this core, or for a privileged context a space-4 copy
address. -/
def State.wTarget (s : State) (a : DWord) : Nat × Nat :=
  if s.ctx.priv ∧ copySpace a = 4 then ((copyLoc a).rank, (copyLoc a).off / 512) else (s.cur, a.toNat)

/-- A space-4 copy address was given. -/
def State.wByCopy (s : State) (a : DWord) : Bool := s.ctx.priv && decide (copySpace a = 4)

/-- The checks of the rows of WPROG (R182, R205, R256): another die, the partition of the rank, its launch, the rows. WPROG.attr has
a list of checks of its own, without that of the launch (`ofLaunch` false, R256). -/
def checkRows (s : State) (a : DWord) (count : Nat) (ofLaunch : Bool) : List (Option (Cause × DWord)) :=
  let t := s.wTarget a
  let items : List Item := if s.wByCopy a then [{ addr := a }] else []
  [ if s.wByCopy a && decide (dieOf t.1 ≠ dieOf s.cur) then some (.illegal, a) else none,
    firstItem items .partition (fun i => i.outPart s s.checker),
    firstItem items .prot (fun i => ofLaunch && i.outLaunch s s.checker),
    if Config.wRows < t.2 + count ∨ t.2 / 2048 ≠ (t.2 + count - 1) / 2048 then some (.wbound, BitVec.ofNat 64 t.2)
    else if attrPart ((s.core t.1).attrOf t.2) ≠ s.ctx.part then some (.partition, BitVec.ofNat 64 t.2) else none,
    if s.wByCopy a && decide ((copyLoc a).off % 512 ≠ 0) then some (.align, a) else none ]

/-- WPROG (R205). -/
def actWprog (g x y t : BitVec 4) (u : BitVec 5) (e : BitVec 1) : Act :=
  { guard := g
    uses := [.a x, .a y, .s u, .s (u + 1)]
    check := fun s =>
      let n := (s.ctx.rs u).toNat
      let ps : List Plain := [⟨s.ctx.ra y, 512 * n, 4⟩]
        ++ (if s.ctx.rs (u + 1) = 0 then [] else [⟨(s.ctx.rs (u + 1)).setWidth 64, 16, 16⟩])
      firstFail ([limit (u.toNat % 2 = 0) ((s.ctx.rs u).setWidth 64), limit (decide (1 ≤ n ∧ n ≤ 2048)) ((s.ctx.rs u).setWidth 64)]
        ++ checkRows s (s.ctx.ra x) n true ++ checkAligned [] ps ++ checkBounds s s.checker [] ps)
    engine := true
    perform := fun slot s0 s =>
      let w := s0.wTarget (s0.ctx.ra x)
      s.issueOp { s0.newOp slot t.toNat (.wprog w.1 w.2 (s0.ctx.ra y).toNat (s0.ctx.rs u).toNat) with
        event := e = 1, barrier := if s0.ctx.rs (u + 1) = 0 then none else some (s0.ctx.rs (u + 1)).toNat } }

/-- WPROG (R205), alone in its bundle. -/
def execWprog (g x y t : BitVec 4) (u : BitVec 5) (e : BitVec 1) (s : State) : Out := runAlone (.wprog g x y t u e) (actWprog g x y t u e) s

/-- A valid attribute word (R255, R256), for a page whose owner is given. -/
def attrValid (w : Word) (owner : Nat) : Bool :=
  let fmt := attrFmt w
  !decide (1 ≤ attrImage w ∧ attrImage w ≤ 15) && decide (attrLayout w ≠ 3)
    && decide (fmt = 0 ∨ fmt = 6 ∨ fmt = 7 ∨ fmt = 8 ∨ fmt = 9 ∨ fmt = 10 ∨ fmt = 11)
    && (decide (attrFx w = 0) || decide (fmt = 10 ∨ fmt = 11)) && !decide (fmt = 11 ∧ 4 ≤ attrFx w)
    && decide (attrScale w ≤ 6143) && (decide (attrScale w = 0) || decide (fmt = 11)) && decide (attrPart w = owner)

/-- WPROG.attr (R205, R256). -/
def actWprogAttr (g x y t : BitVec 4) (e : BitVec 1) : Act :=
  { guard := g
    uses := [.a x, .a y]
    priv := true
    check := fun s =>
      let w := s.wTarget (s.ctx.ra x)
      let ps : List Plain := [⟨s.ctx.ra y, 4, 4⟩]
      let v := s.me.rWord (s.ctx.ra y).toNat
      firstFail (checkRows s (s.ctx.ra x) 1 false ++ checkAligned [] ps ++ checkBounds s s.checker [] ps
        ++ [limit (attrValid v (attrPart ((s.core w.1).attrOf w.2))) (v.setWidth 64)])
    engine := true
    perform := fun slot s0 s =>
      let w := s0.wTarget (s0.ctx.ra x)
      s.issueOp { s0.newOp slot t.toNat (.wattr w.1 w.2 (s0.me.rWord (s0.ctx.ra y).toNat)) with event := e = 1 } }

/-- WPROG_ATTR (R256), alone in its bundle. -/
def execWprogAttr (g x y t : BitVec 4) (e : BitVec 1) (s : State) : Out := runAlone (.wprogAttr g x y t e) (actWprogAttr g x y t e) s

/-- The WPROGs and attribute changes of a context issued before a WFENCE are complete (R206, R267). -/
def Core.wprogsDone (c : Core) (tag before : Nat) : Bool :=
  c.ops.all (fun o => decide (o.tag ≠ tag ∨ before ≤ o.id) || (match o.kind with
    | .wprog .. => false
    | .wattr .. => false
    | _ => true))

/-- WFENCE waits for the context's earlier WPROGs (R206). -/
def actWfence (g : BitVec 4) : Act :=
  { guard := g
    perform := fun _ s0 s => s.await (.wprogs s.me.nextOp) (s.me.wprogsDone s0.ctx.tag s.me.nextOp) }

/-- WFENCE (R206), alone in its bundle. -/
def execWfence (g : BitVec 4) (s : State) : Out := runAlone (.wfence g) (actWfence g) s

/-- The first page of a range of rows that is of another partition: the first row of the range in it. -/
def State.foreignRow (s : State) (row count : Nat) : Option Nat :=
  ((List.range ((row + count - 1) / 2048 + 1 - row / 2048)).map (fun i => row / 2048 + i)).findSome? (fun p =>
    if attrPart (s.me.wattr.get 0 p) ≠ s.ctx.part then some (max row (p * 2048)) else none)

/-- WHASH (R207). -/
def actWhash (g x y t : BitVec 4) (u : BitVec 5) (e : BitVec 1) : Act :=
  { guard := g
    uses := [.a x, .a y, .s u]
    check := fun s =>
      let n := (s.ctx.rs u).toNat
      let r := (s.ctx.ra x).toNat
      let ps : List Plain := [⟨s.ctx.ra y, 48, 16⟩]
      firstFail ([limit (decide (1 ≤ n ∧ n ≤ 1572864)) ((s.ctx.rs u).setWidth 64),
        if Config.wRows < r + n then some (.wbound, s.ctx.ra x)
        else (s.foreignRow r n).map (fun v => (.partition, BitVec.ofNat 64 v))]
        ++ checkAligned [] ps ++ checkBounds s s.checker [] ps)
    engine := true
    perform := fun slot s0 s =>
      s.issueOp { s0.newOp slot t.toNat (.whash (s0.ctx.ra x).toNat (s0.ctx.rs u).toNat (s0.ctx.ra y).toNat) with
        event := e = 1 } }

/-- WHASH (R207), alone in its bundle. -/
def execWhash (g x y t : BitVec 4) (u : BitVec 5) (e : BitVec 1) (s : State) : Out := runAlone (.whash g x y t u e) (actWhash g x y t u e) s

/-! ### Barrier instructions (R202) -/

/-- The object of a barrier instruction. -/
def checkObject (x : BitVec 4) (s : State) : Option (Cause × DWord) := checkItems s s.checker [] [⟨s.ctx.ra x, 16, 16⟩]

/-- A barrier instruction: at c+1, or with .o after the earlier operations of its stream. -/
def barrierAct (op : Nat) (g x t : BitVec 4) (bytes : State → Word) (more : List Src) (ordered : Bool) : Act :=
  { guard := g
    uses := .a x :: more
    check := checkObject x
    engine := ordered
    perform := fun slot s0 s =>
      if ordered then s.issueOp (s0.newOp slot t.toNat (.barrierOp op (s0.ctx.ra x).toNat (bytes s0)))
      else s.updCore (fun c => { c with barriers := c.barriers ++
        [{ addr := (s0.ctx.ra x).toNat, op := op, bytes := bytes s0, wait := 1 }] }) }

/-- BINIT (R202). -/
def actBinit (g x y : BitVec 4) (u : BitVec 5) : Act :=
  { guard := g
    uses := [.a x, .a y, .s u]
    check := checkObject x
    perform := fun _ s0 s => s.updCore (fun c => { c with barriers := c.barriers ++
      [{ addr := (s0.ctx.ra x).toNat, op := 0, bytes := s0.ctx.rs u, expn := (s0.ctx.ra y).extractLsb' 0 16, wait := 1 }] }) }

/-- BINIT (R202), alone in its bundle. -/
def execBinit (g x y : BitVec 4) (u : BitVec 5) (s : State) : Out := runAlone (.binit g x y u) (actBinit g x y u) s

/-- BEXP (R202). -/
def actBexp (g x t : BitVec 4) (u : BitVec 5) (o : BitVec 1) : Act :=
  barrierAct 1 g x t (fun s => s.ctx.rs u) [.s u] (o = 1)

/-- BEXP (R202), alone in its bundle. -/
def execBexp (g x t : BitVec 4) (u : BitVec 5) (o : BitVec 1) (s : State) : Out := runAlone (.bexp g x t u o) (actBexp g x t u o) s

/-- BARR (R202). -/
def actBarr (g x t : BitVec 4) (u : BitVec 5) (o : BitVec 1) : Act :=
  barrierAct 2 g x t (fun s => s.ctx.rs u) [.s u] (o = 1)

/-- BARR (R202), alone in its bundle. -/
def execBarr (g x t : BitVec 4) (u : BitVec 5) (o : BitVec 1) (s : State) : Out := runAlone (.barr g x t u o) (actBarr g x t u o) s

/-- BDROP (R202). -/
def actBdrop (g x t : BitVec 4) (o : BitVec 1) : Act :=
  barrierAct 3 g x t (fun _ => 0) [] (o = 1)

/-- BDROP (R202), alone in its bundle. -/
def execBdrop (g x t : BitVec 4) (o : BitVec 1) (s : State) : Out := runAlone (.bdrop g x t o) (actBdrop g x t o) s

/-! ### Privileged instructions (R208, R300, R365) -/

/-- The bytes of a page of a size (R300). -/
def migBytes (n : Nat) : Nat := if n = 0 then 2 ^ 16 else if n = 1 then 2 ^ 21 else 2 ^ 30

/-- MIGR (R208, R300). -/
def actMigr (g x y t : BitVec 4) (u : BitVec 5) (e : BitVec 1) : Act :=
  { guard := g
    uses := [.a x, .a y, .s u]
    priv := true
    check := fun s =>
      let v := s.ctx.rs u
      let n := migBytes v.toNat
      let items : List Item := [{ addr := s.ctx.ra x, hi := 7, write := true, al := 8 },
        { addr := s.ctx.ra y, hi := (n : Int) - 1, write := true, al := n }]
      firstFail [limit (decide (v.toNat ≤ 2)) (v.setWidth 64), limit (decide (copySpace (s.ctx.ra x) = 1)) (s.ctx.ra x),
        limit (decide (copySpace (s.ctx.ra y) = 1)) (s.ctx.ra y), checkItems s s.checker items []]
    engine := true
    perform := fun slot s0 s =>
      s.issueOp { s0.newOp slot t.toNat (.migr (s0.ctx.ra x) (s0.ctx.ra y) (s0.ctx.rs u).toNat) with event := e = 1 } }

/-- MIGR (R300), alone in its bundle. -/
def execMigr (g x y t : BitVec 4) (u : BitVec 5) (e : BitVec 1) (s : State) : Out := runAlone (.migr g x y t u e) (actMigr g x y t u e) s

/-- QCRT (R208, R365). A queue-memory copy address of spaces 1 to 7 traps ILLEGAL (DEDUCED, Log 27), one of spaces 8 to 15
XLATE (R8). -/
def actQcrt (g x y t : BitVec 4) (u : BitVec 5) : Act :=
  { guard := g
    uses := [.a x, .a y, .s u]
    priv := true
    check := fun s =>
      let v := s.ctx.rs u
      firstFail [limit (decide (4 ≤ v.toNat ∧ v.toNat ≤ 16)) (v.setWidth 64), limit (decide (copySpace (s.ctx.ra x) = 0) || reservedSpace (s.ctx.ra x)) (s.ctx.ra x),
        checkItems s s.checker [{ addr := s.ctx.ra x, hi := 64 * (2 ^ v.toNat + 1) - 1, write := true, al := 4096 }]
          [⟨s.ctx.ra y, 4, 4⟩]]
    engine := true
    perform := fun slot s0 s =>
      s.issueOp (s0.newOp slot t.toNat (.qcrt (s0.ctx.ra x) (s0.ctx.rs u).toNat (s0.ctx.ra y).toNat)) }

/-- QCRT (R208), alone in its bundle. -/
def execQcrt (g x y t : BitVec 4) (u : BitVec 5) (s : State) : Out := runAlone (.qcrt g x y t u) (actQcrt g x y t u) s

/-- The queue that QDEL may destroy (R208). -/
def State.qdelFind (s : State) (v : Word) : Bool :=
  decide (v.extractLsb' 12 20 = 0) && (match s.queueOf v.toNat with
    | some r => r.live && !r.launch && decide (r.part = s.ctx.part)
    | none => false)

/-- QDEL (R208). -/
def actQdel (g t : BitVec 4) (u : BitVec 5) : Act :=
  { guard := g
    uses := [.s u]
    priv := true
    check := fun s => if s.qdelFind (s.ctx.rs u) then none else some (.queue, (s.ctx.rs u).setWidth 64)
    engine := true
    perform := fun slot s0 s => s.issueOp (s0.newOp slot t.toNat (.qdel (s0.handleOf (s0.ctx.rs u).toNat))) }

/-- QDEL (R208), alone in its bundle. -/
def execQdel (g t : BitVec 4) (u : BitVec 5) (s : State) : Out := runAlone (.qdel g t u) (actQdel g t u) s

end Sys2Proof.Machine
end

