-- ==== Sys2Proof/Machine/Engines.lean ====
section
/-! DEFINITION. Migration (R300 to R302), the creation and destruction of queues (R208, R365, R367), and a cycle of a core's
engines (R183 to R187): which operations begin, how far they get, and how they end. -/
namespace Sys2Proof.Machine
open Sys2Proof

/-! ### Migration (R300 to R302) -/

/-- An address moved from one page to another, if it lies in the first. -/
def movePage (a b n k : Nat) : Option Nat := if a ≤ k ∧ k < a + n then some (k - a + b) else none

/-- The entries of a map that lie in a page, moved to another, and the rest but for that other page. -/
def copyPage {α : Type} (m : Map α) (a b n : Nat) : Map α :=
  let rest := m.clearRange b (b + n)
  m.foldl (fun r e => match movePage a b n e.1 with
    | some k => r.put k e.2
    | none => r) rest

/-- Some operation or command still reads or writes the page of an entry (R300): it translated into it. -/
def State.pageBusy (s : State) (entry : Nat) : Bool :=
  let holds := fun (l : List PageHold) => l.any (fun p => decide (p.entry = entry))
  s.cores.any (fun c => c.2.ops.any (fun o => !o.performed && holds o.pages) || c.2.cmds.any (fun m => holds m.pages))
    || s.walks.any (fun w => match w.state with
      | .done p => decide (p.entry = entry)
      | _ => false)

/-- Every write of any core to a page that is not yet visible becomes visible, and lines held dirty are written back. -/
def State.flushPage (s : State) (a n : Nat) : State :=
  let t := s.recall a n
  { t with
    cores := t.cores.map (fun (c : Nat × Core) =>
      (c.1, { c.2 with dirty := c.2.dirty.filter (fun (d : Nat × Byte × Bool) => ¬ (a ≤ d.1 ∧ d.1 < a + n)) })) }

/-- The status of a migration's copy (R301, R302): a source or a destination that no access may reach, or a poisoned
source. -/
def State.migStatus (s : State) (part : Nat) (e : PageEntry) (dst n : Nat) : Nat :=
  if (s.checkRange part e.addr (e.addr + n - 1)).isSome ∨ (e.x && !s.fabricAllows part e.pkg) = true then 1
  else if e.away = none ∧ s.gpoison.any (fun p => decide (e.addr ≤ p.1 * 4 ∧ p.1 * 4 < e.addr + n)) = true then 2
  else if (s.checkRange part dst (dst + n - 1)).isSome then 3
  else 0

/-- MIGRATION_COMMIT (R300, R303): the page's contents, staged contributions and cursors of reductions among them, stand at the
destination and the entry maps it, in one step. -/
def State.migCommit (s : State) (rank : Nat) (o : COp) (entry src dst n : Nat) : State :=
  let e := BitVec.ofNat 64 (s.gNat entry 8)
  let s1 := { s with
    gmem := copyPage s.gmem src dst n
    gpoison := copyPage s.gpoison (src / 4) (dst / 4) (n / 4)
    staged := s.staged.map (fun (w : GWrite) => match movePage src dst n w.addr with
      | some a => { w with addr := a : GWrite }
      | none => w)
    staging := s.staging.map (fun (e : Contribution) => { e with
      line := (movePage src dst n (e.line * 128)).getD (e.line * 128) / 128
      elems := e.elems.map (fun (x : Nat × Nat) => ((movePage src dst n x.1).getD x.1, x.2)) })
    cursors := s.cursors.map (fun (c : RedCursor) => { c with line := (movePage src dst n (c.line * 128)).getD (c.line * 128) / 128 }) }
  let e2 : DWord := (e &&& 0xF600000000000000#64) ||| BitVec.ofNat 64 dst
  (s1.gPutNat entry e2.toNat 8).setOp rank { o with performed := true, result := 0 }

/-- A page of local memory whose contents are lost: undefined bytes (R301). -/
def State.discardPage (s : State) (a n : Nat) : State :=
  { s with
    free := s.free + 1
    gmem := (List.range n).foldl (fun m i => m.write 0 (a + i) (Config.freeByteAt s.free (a + i))) (s.gmem.clearRange a (a + n))
    gpoison := s.gpoison.clearRange (a / 4) ((a + n) / 4) }

/-- MIGRATION_ABANDON (R301): the entry keeps its address, with SUS set unless the destination failed; what the destination holds is
undefined, where the partition has one. -/
def State.migAbandon (s : State) (rank : Nat) (o : COp) (entry dst n status : Nat) : State :=
  let e := BitVec.ofNat 64 (s.gNat entry 8)
  let e1 : DWord := e &&& ~~~(0x0800000000000000#64)
  let e2 := if status = 3 then e1 else e1 ||| 0x0400000000000000#64
  let s1 := if status = 3 ∨ (s.checkRange o.part dst (dst + n - 1)).isSome then s else s.discardPage dst n
  (s1.gPutNat entry e2.toNat 8).setOp rank { o with performed := true, result := status }

/-- A page of another package, as it is read over the fabric (free). -/
def State.fetchRemotePage (s : State) (dst n : Nat) : State := s.discardPage dst n

/-- The state in which a migration's copy is judged, with every write to the source visible, and its status (R300, R301). -/
def State.migJudge (s : State) (part entry dst n : Nat) : State × Nat :=
  let e := s.entryAt none entry
  let s1 := if e.away = none then s.flushPage e.addr n else s
  (s1, s1.migStatus part e dst n)

/-- The end of a migration whose copy is done: no operation holds the page any more. -/
def State.migEnd (s : State) (rank : Nat) (o : COp) (entry dst n : Nat) : State :=
  let s := s.recall entry 8
  let e := s.entryAt none entry
  let r := s.migJudge o.part entry dst n
  if r.2 ≠ 0 then r.1.migAbandon rank o entry dst n r.2
  else if e.away = none then r.1.migCommit rank o entry e.addr dst n
  else
    let w : DWord := (BitVec.ofNat 64 (s.gNat entry 8) &&& 0xF600000000000000#64) ||| BitVec.ofNat 64 dst
    ((s.fetchRemotePage dst n).gPutNat entry w.toNat 8).setOp rank { o with performed := true, result := 0 }

/-- One step of a MIGR (R300): after the writes that its stream orders before it, the entry is read and marked; the page is copied,
and the commit waits for its readers. -/
def State.migrStep (s : State) (rank : Nat) (o : COp) (src dst : DWord) (size : Nat) : State :=
  let entry := (copyLoc src).off
  let d := (copyLoc dst).off
  let n := migBytes size
  if o.stage = 0 then
    match s.checkPa o.part entry with
    | some c => s.setOp rank { o with fault := some (o.trap c entry) }
    | none =>
      let s0 := (s.before rank o).recall entry 8
      let w := s0.gNat entry 8
      let e := s0.entryAt none entry
      if !e.v || !e.leaf || e.malformed size || e.mig then s0.setOp rank { o with performed := true, result := 4 }
      else
        let s1 := { s0 with free := s0.free + 1 }.gPutNat entry (w + 2 ^ 59) 8
        s1.setOp rank { o with stage := 1, delay := Config.freeNat s0.free }
  else if o.stage = 1 then s.setOp rank { o with stage := 2 }
  else if s.pageBusy entry then s
  else s.migEnd rank o entry d n

/-! ### Queues (R208, R365, R367) -/

/-- The numbers that no live queue has. -/
def State.freeQueues (s : State) : List Nat :=
  (List.range 4096).filter (fun q => match s.queueOf q with
    | some r => !r.live
    | none => true)

/-- The header of a new queue (R365). -/
def newQueueHeader (num log2 part : Nat) : List Byte :=
  bytesOf 0 8 ++ bytesOf num 2 ++ bytesOf log2 1 ++ [1] ++ bytesOf part 1 ++ bytesOf 0 51

/-- One step of a QCRT: its header's page is translated through the page table only, and the queue is created; which free
number it gets is open. A header in another package goes there in a flit (R426). -/
def State.qcrtStep (s : State) (rank : Nat) (o : COp) (mem : DWord) (log2 dst : Nat) : State :=
  let l := copyLoc mem
  let t := s.translate { o.asker rank with heap := {} } o.pages l.off true
  let p := { o with pages := t.2.2 }
  let number := fun (s : State) (v : Nat) =>
    let u := s.cover rank [o.key]
    (u.setCore rank ((u.core rank).aStore dst ((bytesOf v 4).map (fun b => (b, false))))).setOp rank
      { p with performed := true, bytes := 4 }
  match t.1 with
  | .wait => t.2.1.setOp rank p
  | .fault c => t.2.1.setOp rank { p with fault := some (o.trap c l.off) }
  | .ok pa pkg =>
    let s1 := { t.2.1 with free := t.2.1.free + 1 }
    let free := s1.freeQueues
    match free[Config.freeNat t.2.1.free % free.length]? with
    | none => number s1 0xFFFFFFFF
    | some q =>
      let header := newQueueHeader q log2 o.part
      let made := fun (s : State) => number { s with
        queueGen := s.queueGen + 1, queues := s.queues.put q { base := l.off, log2 := log2, part := o.part, gen := s.queueGen } } q
      match pkg with
      | none => made ((s1.before rank o).gPut pa header)
      | some k =>
        let w := s1.remoteWrite rank o k pa (header.map (fun b => (b, false)))
        if w.1 = .wait then w.2.setOp rank p else made w.2

/-- QUEUE_DESTROY (R208, R367): the queue is no longer live; one that another QDEL has destroyed is left as it is. -/
def State.qdelStep (s : State) (rank : Nat) (o : COp) (q : Nat) : State :=
  match s.queueHeld q with
  | none => s.setOp rank { o with performed := true }
  | some r =>
    if !r.live then s.setOp rank { o with performed := true }
    else
      let s0 := (s.before rank o).queueOpen r 0
      let h := s0.queueGet r 11 1
      let s1 := h.2.queuePut r 11 (h.1.1.map (fun b => b &&& 0xFE))
      { s1 with queues := s1.queues.put (q % 4096) { r with live := false } }.setOp rank { o with performed := true }

/-! ### One step of an operation -/

/-- One step of an operation that has begun. -/
def State.opStep (s : State) (rank id : Nat) : State :=
  match s.findOp rank id with
  | none => s
  | some o =>
    if o.performed || o.fault.isSome || decide (o.delay ≠ 0) then s
    else match o.kind with
      | .cpy w _ crc isp =>
        let i := runOffsets w.nest o.unit
        s.moveStep rank o ⟨(copyLoc w.src).shift i.1, (copyLoc w.dst).shift i.2, nestCount w.nest 0⟩ (walkRuns w.nest) isp crc
      | .cpyd w =>
        let i := runOffsets w.nest o.unit
        s.moveStep rank o ⟨(copyLoc w.src).shift i.1, (⟨2, rank, w.dst.toNat⟩ : Loc).shift i.2, nestCount w.nest 0⟩
          (walkRuns w.nest) false false
      | .gath dst src list size count _ =>
        if size = 0 ∨ count = 0 then s.setOp rank { o with performed := true } else s.indexStep rank o dst src list size count true
      | .scat dst src list size count =>
        if size = 0 ∨ count = 0 then s.setOp rank { o with performed := true } else s.indexStep rank o src dst list size count false
      | .amo op addr out v v2 bad => s.amoStep rank o op addr out v v2 bad
      | .red op addr src count => s.redStep rank o op addr src count
      | .cwb op addr size => s.cwbStep rank o op addr size
      | .kvld h dst first count head tensor => s.kvldStep rank o h dst first count head tensor
      | .kvapp h src count => s.kvappStep rank o h src count
      | .kvfork h dst => if (s.core rank).recordRoom o then s.kvforkStep rank o h dst else s
      | .kvrel h => if (s.core rank).recordRoom o then s.kvrelStep rank o h else s
      | .migr src dst size => s.migrStep rank o src dst size
      | .qcrt mem log2 dst => s.qcrtStep rank o mem log2 dst
      | .qdel q => s.qdelStep rank o q
      | _ => s

/-- A number of steps of an operation. -/
def State.opSteps (s : State) (rank id : Nat) : Nat → State
  | 0 => s
  | n + 1 => (s.opStep rank id).opSteps rank id n

/-- Whether an operation may begin, beside the order of its stream: the hash engine runs one WHASH, the KVAPPs of an entry
perform one after another, and the REDs of a context are sent in order (R207, R318, R347). -/
def State.engineLets (s : State) (rank : Nat) (o : COp) : Bool :=
  match o.kind with
  | .whash .. => !(s.core rank).hashing && !s.measuring rank
  | .kvapp h _ _ => !s.kvappBusy o.part h
  | .red .. => !(s.core rank).redBehind o
  | .pub _ => false
  | .drain => false
  | .xfence _ => false
  | .barrierOp .. => false
  | _ => true

/-- Operations whose stream lets them begin (R183). -/
def State.beginOps (s : State) (rank : Nat) : State :=
  (s.core rank).ops.foldl (fun t o =>
    if !o.begun && s.mayBegin rank o && t.engineLets rank o then t.setOp rank { o with begun := true } else t) s

/-- How far the operations that have begun get in a cycle is open (DESIGN CHOICE, Log 6); a delay passes first. -/
def State.runOps (s : State) (rank : Nat) : State :=
  (s.core rank).ops.foldl (fun t o =>
    if !o.begun then t
    else match o.kind with
      | .whash row count dst => (match t.findOp rank o.id with
        | some p => if p.performed then t else t.whashStep rank p row count dst
        | none => t)
      | _ =>
        if o.delay ≠ 0 then t.setOp rank { o with delay := o.delay - 1 }
        else { t with free := t.free + 1 }.opSteps rank o.id (Config.freeNat t.free)) s

/-- Operations that have performed complete, and those that met a fault stop. -/
def State.endOps (s : State) (rank : Nat) : State :=
  (s.core rank).ops.foldl (fun t o => (t.finishOp rank o.id).failOp rank o.id) s

/-- The load pipes of a core. -/
def State.corePipes (s : State) (rank : Nat) : State := { ({ s with cur := rank } : State).loadPipes with cur := s.cur }

/-- One cycle of the engines of a core; they move while the core is frozen (R222). -/
def State.enginesCycle (s : State) (rank : Nat) : State :=
  let s1 := (s.corePipes rank).beginOps rank
  let s2 := ((s1.orderedActions rank).fences rank).runOps rank
  let s3 := ((s2.endOps rank).visibility rank).dropRegions rank
  s3.setCore rank (s3.core rank).handleAdvance

end Sys2Proof.Machine
end

