-- ==== Sys2Proof/Machine/Bundle.lean ====
section
/-! DEFINITION. BUNDLE_ISSUE (R14, R20, R40, R74, R89 to R93, R224 to R231): the decode of the eight slots, the order of
their faults, the bundle's performance, its advance, and the loop sequencer. -/
namespace Sys2Proof.Machine
open Sys2Proof

/-- The meaning of a slot word; what is no slot word has none. -/
def actOf : Instr → Option Act
  | .nop g => some (actNop g)
  | .add g d a b => some (actAdd g d a b)
  | .sub g d a b => some (actSub g d a b)
  | .mul g d a b => some (actMul g d a b)
  | .mulh g d a b => some (actMulh g d a b)
  | .mulhz g d a b => some (actMulhz g d a b)
  | .div g d a b => some (actDiv g d a b)
  | .divz g d a b => some (actDivz g d a b)
  | .rem g d a b => some (actRem g d a b)
  | .remz g d a b => some (actRemz g d a b)
  | .and g d a b => some (actAnd g d a b)
  | .or g d a b => some (actOr g d a b)
  | .xor g d a b => some (actXor g d a b)
  | .andn g d a b => some (actAndn g d a b)
  | .shl g d a b => some (actShl g d a b)
  | .shr g d a b => some (actShr g d a b)
  | .sra g d a b => some (actSra g d a b)
  | .min g d a b => some (actMin g d a b)
  | .max g d a b => some (actMax g d a b)
  | .minz g d a b => some (actMinz g d a b)
  | .maxz g d a b => some (actMaxz g d a b)
  | .clz g d a => some (actClz g d a)
  | .popc g d a => some (actPopc g d a)
  | .addi g d a imm => some (actAddi g d a imm)
  | .andi g d a imm => some (actAndi g d a imm)
  | .ori g d a imm => some (actOri g d a imm)
  | .xori g d a imm => some (actXori g d a imm)
  | .shli g d a imm => some (actShli g d a imm)
  | .shri g d a imm => some (actShri g d a imm)
  | .srai g d a imm => some (actSrai g d a imm)
  | .movi g d imm => some (actMovi g d imm)
  | .movhi g d imm => some (actMovhi g d imm)
  | .sel g d a b p => some (actSel g d a b p)
  | .cmp g k c a b => some (actCmp g k c a b)
  | .cmpi g k c a imm => some (actCmpi g k c a imm)
  | .fadd g d a b => some (actFadd g d a b)
  | .fsub g d a b => some (actFsub g d a b)
  | .fmul g d a b => some (actFmul g d a b)
  | .fdiv g d a b => some (actFdiv g d a b)
  | .fsqrt g d a => some (actFsqrt g d a)
  | .fmin g d a b => some (actFmin g d a b)
  | .fmax g d a b => some (actFmax g d a b)
  | .fsgn g d a b => some (actFsgn g d a b)
  | .fcvtF32S32 g d a => some (actFcvtF32S32 g d a)
  | .fcvtF32Z32 g d a => some (actFcvtF32Z32 g d a)
  | .fcvtS32F32 g d a => some (actFcvtS32F32 g d a)
  | .fcvtZ32F32 g d a => some (actFcvtZ32F32 g d a)
  | .fcvtF32F16 g d a => some (actFcvtF32F16 g d a)
  | .fcvtF32Bf16 g d a => some (actFcvtF32Bf16 g d a)
  | .fcvtF16F32 g d a => some (actFcvtF16F32 g d a)
  | .fcvtBf16F32 g d a => some (actFcvtBf16F32 g d a)
  | .ffma g d a b c => some (actFfma g d a b c)
  | .fcmp g k c a b => some (actFcmp g k c a b)
  | .pand g d a b => some (actPand g d a b)
  | .por g d a b => some (actPor g d a b)
  | .pxor g d a b => some (actPxor g d a b)
  | .pmov g d a => some (actPmov g d a)
  | .ppack g a u => some (actPpack g a u)
  | .punpk g d u => some (actPunpk g d u)
  | .aadd g d a u => some (actAadd g d a u)
  | .aaddi g d a imm => some (actAaddi g d a imm)
  | .amov g d u => some (actAmov g d u)
  | .amovHi g d u => some (actAmovHi g d u)
  | .atos g a u => some (actAtos g a u)
  | .atosHi g a u => some (actAtosHi g a u)
  | .atag g d a u => some (actAtag g d a u)
  | .br g imm => some (actBr g imm)
  | .brl g imm => some (actBrl g imm)
  | .jr g a => some (actJr g a)
  | .jrl g a => some (actJrl g a)
  | .ret g a => some (actRet g a)
  | .ibsw g imm => some (actIbsw g imm)
  | .ifence g => some (actIfence g)
  | .lset g n a y l => some (actLset g n a y l)
  | .lbody g l => some (actLbody g l)
  | .lexit g k => some (actLexit g k)
  | .nset g n a o => some (actNset g n a o)
  | .bwait g a o q => some (actBwait g a o q)
  | .evpop g u a p o => some (actEvpop g u a p o)
  | .evwait g => some (actEvwait g)
  | .sync g n => some (actSync g n)
  | .gdrop g n => some (actGdrop g n)
  | .yield g => some (actYield g)
  | .qpop g u a p o => some (actQpop g u a p o)
  | .qpopB g u a p o => some (actQpopB g u a p o)
  | .qpush g u a o => some (actQpush g u a o)
  | .leave g => some (actLeave g)
  | .trap g c => some (actTrap g c)
  | .eret g => some (actEret g)
  | .eretD g => some (actEretD g)
  | .sysrd g u a r => some (actSysrd g u a r)
  | .syswr g u a r => some (actSyswr g u a r)
  | .contain g u a m => some (actContain g u a m)
  | .uncontain g => some (actUncontain g)
  | .dchk g a b => some (actDchk g a b)
  | .cycrd g u k => some (actCycrd g u k)
  | .cycrdW g a k => some (actCycrdW g a k)
  | .snop g n => some (actSnop g n)
  | .halt g => some (actHalt g)
  | .vadd g d a b q t => some (actVadd g d a b q t)
  | .vsub g d a b q t => some (actVsub g d a b q t)
  | .vmul g d a b q t => some (actVmul g d a b q t)
  | .vfma g d a b q t => some (actVfma g d a b q t)
  | .vfms g d a b q t => some (actVfms g d a b q t)
  | .vmin g d a b q t => some (actVmin g d a b q t)
  | .vmax g d a b q t => some (actVmax g d a b q t)
  | .vabs g d a q t => some (actVabs g d a q t)
  | .vneg g d a q t => some (actVneg g d a q t)
  | .vand g d a b q t => some (actVand g d a b q t)
  | .vor g d a b q t => some (actVor g d a b q t)
  | .vxor g d a b q t => some (actVxor g d a b q t)
  | .vandn g d a b q t => some (actVandn g d a b q t)
  | .vshl g d a b q t => some (actVshl g d a b q t)
  | .vshr g d a b q t => some (actVshr g d a b q t)
  | .vsra g d a b q t => some (actVsra g d a b q t)
  | .vcmp g k c a b q t => some (actVcmp g k c a b q t)
  | .vsel g d a b q t => some (actVsel g d a b q t)
  | .vmov g d a q t => some (actVmov g d a q t)
  | .vbcast g d u q t => some (actVbcast g d u q t)
  | .vext g d a b t => some (actVext g d a b t)
  | .vins g d a b t => some (actVins g d a b t)
  | .vperm g d a b q t => some (actVperm g d a b q t)
  | .vshuf g d a b p t => some (actVshuf g d a b p t)
  | .vrot g d a b q t => some (actVrot g d a b q t)
  | .vreds g d a q t => some (actVreds g d a q t)
  | .vredmMax g d a q t => some (actVredmMax g d a q t)
  | .vredmMin g d a q t => some (actVredmMin g d a q t)
  | .vdot g d a b q t => some (actVdot g d a b q t)
  | .vcvt g d a x y f => some (actVcvt g d a x y f)
  | .vrnd g d a m q t => some (actVrnd g d a m q t)
  | .vexp2 g d a q t => some (actVexp2 g d a q t)
  | .vlog2 g d a q t => some (actVlog2 g d a q t)
  | .vrcp g d a q t => some (actVrcp g d a q t)
  | .vrsq g d a q t => some (actVrsq g d a q t)
  | .vqnt g d a b q l x => some (actVqnt g d a b q l x)
  | .vdql g d a b q l x => some (actVdql g d a b q l x)
  | .vlins g d a b q l x => some (actVlins g d a b q l x)
  | .vlext g d a b q l x => some (actVlext g d a b q l x)
  | .vlnrm g d a b q l => some (actVlnrm g d a b q l)
  | .vtrw g v q imm t f => some (actVtrw g v q imm t f)
  | .vtrr g v q imm t f => some (actVtrr g v q imm t f)
  | .vtcw g v q imm t f => some (actVtcw g v q imm t f)
  | .vtcr g v q imm t f => some (actVtcr g v q imm t f)
  | .vacr g d c r t => some (actVacr g d c r t)
  | .vacw g d c r t => some (actVacw g d c r t)
  | .vdchk g a b q t => some (actVdchk g a b q t)
  | .viop g d a b f => some (actViop g d a b f)
  | .vfop g d a b f => some (actVfop g d a b f)
  | .ld g d b z o => some (actLd g d b z o)
  | .st g d b z o => some (actSt g d b z o)
  | .ldv g d b o => some (actLdv g d b o)
  | .stv g d b o => some (actStv g d b o)
  | .ldvs g d b x => some (actLdvs g d b x)
  | .stvs g d b x => some (actStvs g d b x)
  | .ldvx g d b x => some (actLdvx g d b x)
  | .stvx g d b x => some (actStvx g d b x)
  | .ldf g d b o => some (actLdf g d b o)
  | .ste g d b o => some (actSte g d b o)
  | .fesetF g b x => some (actFesetF g b x)
  | .fesetE g b x => some (actFesetE g b x)
  | .lda g d b o => some (actLda g d b o)
  | .sta g d b o => some (actSta g d b o)
  | .wldm g b o => some (actWldm g b o)
  | .wldv g d b o => some (actWldv g d b o)
  | .wldd g d b x => some (actWldd g d b x)
  | .wattr g d b => some (actWattr g d b)
  | .wst g c => some (actWst g c)
  | .mcfg g u => some (actMcfg g u)
  | .mcfgR g u => some (actMcfgR g u)
  | .mma g c n a b u f => some (actMma g c n a b u f)
  | .mmas g c n a b u f => some (actMmas g c n a b u f)
  | .mmv g c n a b f => some (actMmv g c n a b f)
  | .mzero g c u f => some (actMzero g c u f)
  | .mlat g u a l => some (actMlat g u a l)
  | .mstop g => some (actMstop g)
  | .cpy g d f n t b x => some (actCpy g d f n t b x)
  | .cpyd g d f n t u => some (actCpyd g d f n t u)
  | .pub g t w => some (actPub g t w)
  | .pubDef g a y u w => some (actPubDef g a y u w)
  | .pubClr g w => some (actPubClr g w)
  | .drain g b t e => some (actDrain g b t e)
  | .xfence g t u => some (actXfence g t u)
  | .amoAdd g x y t u => some (actAmoAdd g x y t u)
  | .amoMin g x y t u => some (actAmoMin g x y t u)
  | .amoMax g x y t u => some (actAmoMax g x y t u)
  | .amoAnd g x y t u => some (actAmoAnd g x y t u)
  | .amoOr g x y t u => some (actAmoOr g x y t u)
  | .amoXor g x y t u => some (actAmoXor g x y t u)
  | .amoSwap g x y t u => some (actAmoSwap g x y t u)
  | .amoCas g x y t u => some (actAmoCas g x y t u)
  | .redAddF32 g x y t u => some (actRedAddF32 g x y t u)
  | .redAddF64 g x y t u => some (actRedAddF64 g x y t u)
  | .redAddS32 g x y t u => some (actRedAddS32 g x y t u)
  | .redMaxF32 g x y t u => some (actRedMaxF32 g x y t u)
  | .redMinF32 g x y t u => some (actRedMinF32 g x y t u)
  | .gath g d f n t b h => some (actGath g d f n t b h)
  | .scat g d f n t b => some (actScat g d f n t b)
  | .pfl2 g x u => some (actPfl2 g x u)
  | .cwbWb g x t u => some (actCwbWb g x t u)
  | .cwbWbi g x t u => some (actCwbWbi g x t u)
  | .cwbInv g x t u => some (actCwbInv g x t u)
  | .kvld g x y t u d e => some (actKvld g x y t u d e)
  | .kvapp g x y t u e => some (actKvapp g x y t u e)
  | .kvfork g x y t e => some (actKvfork g x y t e)
  | .kvrel g x t e => some (actKvrel g x t e)
  | .wprog g x y t u e => some (actWprog g x y t u e)
  | .wprogAttr g x y t e => some (actWprogAttr g x y t e)
  | .wfence g => some (actWfence g)
  | .whash g x y t u e => some (actWhash g x y t u e)
  | .binit g x y u => some (actBinit g x y u)
  | .bexp g x t u o => some (actBexp g x t u o)
  | .barr g x t u o => some (actBarr g x t u o)
  | .bdrop g x t o => some (actBdrop g x t o)
  | .migr g x y t u e => some (actMigr g x y t u e)
  | .qcrt g x y t u => some (actQcrt g x y t u)
  | .qdel g t u => some (actQdel g t u)
  | .bundleIssue => none
  | .exposedResultLand => none
  | .waitEnd => none
  | .feFreezeTimeout => none
  | .quantumExpiry => none
  | .contextSwitch => none
  | .trapEntry => none
  | .serviceRequest => none
  | .preemption => none
  | .contextResume => none
  | .syncRestart => none
  | .syncTimeout => none
  | .matrixCommit => none
  | .mmasCommit => none
  | .commandAbandon => none
  | .operationComplete => none
  | .operationFault => none
  | .barrierOrderedAction => none
  | .pubPerform => none
  | .cpydDeadline => none
  | .eventRecordEnqueue => none
  | .reductionApply => none
  | .containmentPublish => none
  | .monitorWake => none
  | .walkRetry => none
  | .migrationCommit => none
  | .migrationAbandon => none
  | .arbiterGrant => none
  | .wprogRowStart => none
  | .programPhaseEnd => none
  | .wprogCompletion => none
  | .attrCommit => none
  | .whashCompletion => none
  | .queueDestroy => none
  | .hostTailWrite _ _ => none
  | .hostApertureAccess _ _ _ => none
  | .launchDescriptorPop => none
  | .placementPass => none
  | .contextStart => none
  | .launchCompletion => none
  | .noticeItemDelivery => none
  | .leaseStart => none
  | .leaseGrant => none
  | .grantDeadline => none
  | .leasePrepared => none
  | .leaseScrubDone => none
  | .leaseTestEnd => none
  | .clockStretch _ _ => none
  | .thermalShutdown => none
  | .powerOn => none
  | .reset => none
  | .powerLoss => none
  | .imageRootFormed => none
  | .packageDump => none
  | .getVersion _ => none
  | .getCapabilities _ => none
  | .negotiateAlgorithms _ _ _ _ _ _ => none
  | .getDigests _ => none
  | .getCertificate _ _ => none
  | .challenge _ _ => none
  | .getMeasurements _ _ => none
  | .keyExchange _ _ => none
  | .finish _ => none
  | .unsupportedRequest _ _ => none
  | .sessionEnd _ => none
  | .getState _ _ => none
  | .lock _ _ => none
  | .getReport _ _ => none
  | .start _ _ _ => none
  | .stop _ _ => none
  | .ptRegisterWrite _ _ _ _ => none
  | .partitionScrubDone => none
  | .mgWpmoveWrite _ => none
  | .wpageMoveDone => none
  | .mgRemeasWrite _ => none
  | .mgThermRead => none
  | .managementWrite _ _ => none
  | .fabricAck _ _ => none
  | .laneWidthChange _ _ _ => none
  | .startStepComplete => none
  | .walkComplete => none
  | .loadPipeDataArrival => none
  | .handleEntryArrival => none
  | .imageWriteDrained => none
  | .fabricFlitReceived _ _ _ _ => none

/-! ### Slots -/

/-- A slot of a bundle that holds another word than the NOP word: its index, its instruction and its meaning; `none` where
the word is no instruction of the slot's class (R20). -/
structure SlotWord where
  index : Nat
  meaning : Option (Instr × Act)

/-- Decode one slot word (R16, R20). -/
def decodeWord (slot : Nat) (w : Word) : SlotWord :=
  match decodeSlot (slotClassOf slot) w with
  | .error _ => ⟨slot, none⟩
  | .ok i => ⟨slot, (actOf i).map (fun a => (i, a))⟩

/-- The slots of a bundle from an index on; words of zeros are NOPs that do nothing (R19). -/
def decodeWords (slot : Nat) : List Word → List SlotWord
  | [] => []
  | w :: rest => if w = 0 then decodeWords (slot + 1) rest else decodeWord slot w :: decodeWords (slot + 1) rest

/-- The word is a NOP. -/
def SlotWord.isNop (k : SlotWord) : Bool := match k.meaning with
  | some (.nop _, _) => true
  | _ => false

/-- The decode fault of a slot (R20, R35); in ctxS a word of slots 1 to 7 that is no NOP is ILLEGAL. -/
def SlotWord.fault (k : SlotWord) (s : State) : Option Cause :=
  match k.meaning with
  | none => some .illegal
  | some (i, a) => if s.who = 4 ∧ k.index ≠ 0 ∧ k.isNop = false then some .illegal else decodeFault i a s

/-- The ILLEGAL of a slot with its CX_TRAPINFO: at decode, or at issue if its guard is true (R20). -/
def SlotWord.illegal (k : SlotWord) (s : State) : Option DWord :=
  match k.fault s with
  | some .illegal => some 0
  | some _ => none
  | none => match k.meaning with
    | none => none
    | some (_, a) => match issueFault a s with
      | some (.trap .illegal info) => some info
      | _ => none

/-- A bundle as the KVAPP of one of its slots sees it (R183, R335): those of its earlier slots are issued before it. -/
def State.afterKvapps (s : State) (l : List SlotWord) (k : SlotWord) : State :=
  match k.meaning with
  | some (.kvapp .., _) => l.foldl (fun t j => match j.meaning with
      | some (.kvapp _ x y _ u _, a) =>
        if j.index < k.index ∧ a.guarded s = true then
          t.issueOp (s.newOp j.index 0 (.kvapp (s.ctx.ra x) (s.ctx.ra y).toNat (s.ctx.rs u).toNat))
        else t
      | _ => t) s
  | _ => s

/-- The fault of a bundle and the slot that has it, in the order of R20: ILLEGAL, PRIV, any other of a slot whose guard is
true; each for the lowest slot. -/
def bundleFault (s : State) (l : List SlotWord) : Option (Nat × SlotFault) :=
  match l.findSome? (fun k => (k.illegal s).map (fun info => (k.index, SlotFault.trap .illegal info))) with
  | some f => some f
  | none =>
    match l.find? (fun k => k.fault s = some .priv) with
    | some k => some (k.index, .trap .priv 0)
    | none => l.findSome? (fun k => match k.meaning with
        | none => none
        | some (_, a) => (issueFault a (s.afterKvapps l k)).map (fun f => (k.index, f)))

/-- What holds a bundle at issue: the hold of the lowest slot that has one. -/
def bundleHold (s : State) (l : List SlotWord) : Option Hold :=
  l.findSome? (fun k => match k.meaning with
    | none => none
    | some (_, a) => if a.guarded s then a.holdIn k.index (s.afterKvapps l k) else none)

/-- An array command of a bundle that decodes waits for the array, or for the seventeenth place (R169): the checks of the bundle are
made when it issues (R168, R245). -/
def bundleArray (s : State) (l : List SlotWord) : Option Hold :=
  if l.all (fun k => (k.fault s).isNone) then l.findSome? (fun k => k.meaning.bind (fun m => m.2.arrayHeld s)) else none

/-- Every slot whose guard is true performs; each reads the state at issue (R14, R17). -/
def performSlots (s0 s : State) : List SlotWord → State
  | [] => s
  | k :: rest =>
    match k.meaning with
    | none => performSlots s0 s rest
    | some (_, a) => performSlots s0 (if a.guarded s0 then a.perform k.index s0 s else s) rest

/-! ### The loop sequencer (R93) -/

/-- The levels that a pass end closes, and the first that steps (R93). -/
def LoopState.stepFrom (l : LoopState) (levels : Nat) : Nat → Nat
  | 0 => levels
  | n + 1 =>
    let k := levels - (n + 1)
    if l.counter k + 1 = l.count k ∨ k < l.exitReq then l.stepFrom levels n else k

/-- The counters after a pass: those below the stepping level are 0, and that level's is one more. -/
def LoopState.stepped (l : LoopState) (k : Nat) : List Nat :=
  (List.range l.ctr.length).map (fun i => if i < k then 0 else if i = k then l.counter i + 1 else l.counter i)

/-- The last bundle of a pass has issued (R93): the loop ends, or the next pass begins. A TRAP or a HALT that waited for a run
which goes no further takes effect now. -/
def Ctx.passEnd (x : Ctx) : Ctx :=
  let levels := x.loop.ctr.length
  let k := x.loop.stepFrom levels levels
  if k = levels then { x with loop := LoopState.ended }
  else { x with
    afterNow := decide (x.after ≠ .none)
    pc := x.loop.first.pc
    owedN := x.loop.first.owed
    loop := { x.loop with ctr := x.loop.stepped k, pos := 0, exitReq := 0, stepDue := some k } }

/-- A bundle of a loop body has issued; outside a loop nothing is counted. -/
def Ctx.countBundle (x : Ctx) : Ctx :=
  if !x.loop.active then x
  else if x.loop.pos + 1 < x.loop.len then { x with loop := { x.loop with pos := x.loop.pos + 1 } }
  else x.passEnd

/-- The step of a level: both strides are added, after what has landed (R93). -/
def Ctx.stepLoop (x : Ctx) : Ctx :=
  match x.loop.stepDue, x.loop.cfg with
  | some k, some c =>
    let v := nestLevel c.nest k
    let y := x.wa c.ax (x.a.get 0 c.ax + v.sa.signExtend 64)
    let z := y.wa c.ay (y.a.get 0 c.ay + v.sb.signExtend 64)
    { z with loop := { z.loop with stepDue := none } }
  | _, _ => x

/-- A taken transfer to a target: in the body the pass moves there, elsewhere every level ends (R90). -/
def LoopState.moveTo (l : LoopState) (target : Nat) : LoopState :=
  if !l.active then l
  else match l.places.find? (fun q => q.1 = target) with
    | some q => { l with pos := q.2 }
    | none => LoopState.ended

/-! ### Advance (R40, R89) -/

/-- The advance after a stored bundle with this run and this next header, by the transfer it chose. -/
def Ctx.advance (x : Ctx) (run next : Nat) (after : Pos) : Ctx :=
  match x.xfer with
  | .trapped => { x with xfer := .none }
  | .resume _ => { x with xfer := .none }
  | .none => ({ x with pc := next, owedN := run } : Ctx).countBundle
  | .startBody _ => { x with pc := next, owedN := run, xfer := .none }
  | .skipBody _ => { x with pc := after.pc, owedN := after.owed, bubbles := 1, xfer := .none }
  | .jump target bubbles other => { x with
      pc := target, owedN := 0, owedB := 0, bubbles := bubbles, xfer := .none,
      liveHalf := if other then 1 - x.liveHalf else x.liveHalf, loop := x.loop.moveTo target }

/-- The place after the body that an LBODY with a zero count skips (R92). -/
def State.skipPlace (s : State) : Pos :=
  match s.ctx.xfer with
  | .skipBody len => (s.bodyHere len).2
  | _ => ⟨0, 0⟩

/-- The bundle that a TRAP or a HALT waits for has issued with its run (R110, R114). -/
def Ctx.runDone (x : Ctx) : Bool := x.afterNow || decide (x.owedN = 0 ∧ x.owedB = 0)

/-- A context whose HALT and its run have issued ends (R114): its regions close (R396), and results that a handler holds captured
never come back, nor do the commits among them. -/
def State.haltNow (s : State) : State :=
  if s.ctx.after = .halt ∧ s.ctx.runDone = true ∧ (s.ctx.life = .live ∨ s.ctx.life = .saving) then
    ((s.closeRegions 4).updCtx (fun x =>
      { x with life := .halted, after := .none, afterNow := false, replay := [], replayArmed := false })).updCore (fun c =>
        c.keepCommits s.who (c.ctx s.who).pend)
  else s

/-- The bundle at the program counter was expanded with its loop's body (R407). -/
def Ctx.fromLoop (x : Ctx) : Bool := x.loop.active && (x.loop.buf.find x.pc).isSome

/-- A bundle that issues in a loop's first pass is the body's from then on, in the form in which it issued (R407; DEDUCED, Log 10). -/
def Ctx.fixBody (x : Ctx) (e : Expanded) : Ctx :=
  if x.loop.firstPass then { x with loop := { x.loop with
    buf := x.loop.buf.put x.pc e
    places := if x.loop.places.any (fun q => q.1 = x.pc) then x.loop.places else x.loop.places ++ [(x.pc, x.loop.pos)] } }
  else x

/-- A bundle that a user context expands is kept in the fetch buffer (R406); one of a loop's body was kept when the loop began. -/
def State.keep (s : State) (e : Expanded) : State :=
  let a := s.ctx.pc
  if s.who = 4 ∨ s.ctx.fromLoop = true then s else s.updCore (fun c => c.keepBundle a e)

/-- The stored bundle at the program counter reaches issue (R14, R20, R39): faults are taken on `s`, the state in which a
loop step due has not been applied yet (R232); the bundle performs on `t`. -/
def State.bundle (s t : State) : Option Hold × State :=
  match t.me.fetchFault t.who with
  | some f => (none, s.takeTrap { cause := f.1, slot := 0, info := f.2 })
  | none =>
    let e := t.me.bundleAt t.who t.ctx.pc
    if !e.headerOk then (none, s.takeTrap { cause := .illegal, slot := 0, info := 0 })
    else
      let slots := decodeWords 0 e.words
      match bundleArray t slots with
      | some h => (some h, t)
      | none => match bundleFault t slots with
      | some (k, .poison info) =>
        (none, if t.ctx.contain = [] then (s.keep e).consumePoison k info else (t.keep e).consumePoison k info)
      | some (k, .trap c info) => (none, (s.keep e).takeTrap { cause := c, slot := k, info := info })
      | none =>
        match bundleHold t slots with
        | some h => (some h, t)
        | none =>
          let t0 := t.keep e
          let t1 := t0.updCtx (fun x => { x.fixBody e with wait := none, waitOver := false })
          let u := performSlots t1 t1 slots
          let place := ({ t1 with cores := u.cores } : State).skipPlace
          (none, u.updCtx (fun x => x.advance e.run e.next place))

/-! ### A cycle of a context that holds the width -/

/-- The cycle counts of a wait are over, or the word it waits for is ready (R75, R153); an IFENCE is no blocking wait (R94, R219). -/
def Core.waitIsOver (c : Core) (x : Ctx) : Bool :=
  match x.wait with
  | none => true
  | some (.word a f) => c.isFull a == f
  | some (.ifence _ _) => true
  | some _ => x.waitOver

/-- A blocking wait is not over, and no engine trap ends it (R75, R186). -/
def Ctx.blocked (x : Ctx) : Bool :=
  match x.wait with
  | none => false
  | some (.word _ _) => false
  | some (.ifence _ _) => false
  | some _ => !x.waitOver && x.engineTraps.isEmpty

/-- An operation copies into the I-space of a core (R189, R193). -/
def CKind.intoISpace (k : CKind) (rank : Nat) : Bool :=
  match k with
  | .cpy w _ _ _ => decide ((copyLoc w.dst).space = 5 ∧ (copyLoc w.dst).rank = rank)
  | .scat dst _ _ _ _ => decide ((copyLoc dst).space = 5 ∧ (copyLoc dst).rank = rank)
  | _ => false

/-- The context's copies into this core's I-space issued before an IFENCE are complete (R94). -/
def Core.ispaceIdle (c : Core) (rank tag before : Nat) : Bool :=
  c.ops.all (fun o => decide (o.tag ≠ tag ∨ before ≤ o.id) || !o.kind.intoISpace rank)

/-- A cycle of an IFENCE (R94, R406): once the copies are complete two cycles pass, and the fetch buffer is empty. -/
def State.fenceCycle (s : State) (before left : Nat) : State :=
  if !s.me.ispaceIdle s.cur s.ctx.tag before then s
  else if 1 < left then s.updCtx (fun x => { x with wait := some (.ifence before (left - 1)) })
  else (s.updCore (fun c => { c with fetchBuf := [] })).updCtx (fun x => { x with wait := none })

/-- ERET has resumed and B has come to issue: the captured results are put back in flight, and deadlines of operations and
the cycles of commands issued before the trap count from B (R170, R224, R230, R349). What CX_TRAPCAUSE.OWED owes beyond what the trap found comes before B. -/
def State.reinject (s : State) : State :=
  let x := s.ctx
  if !x.replayArmed || decide (x.replayOwed < x.owedN + x.owedB) then s else s.putBack 0

/-- The trap that a context takes before its next bundle: one that waited for its run to issue, else the first engine trap
(R231). -/
def State.pendingTrap (s : State) : Option State :=
  let x := s.ctx
  match (match x.after with
    | .trap t => if x.runDone then some t else none
    | _ => none) with
  | some t => some ((s.setCtx { x with after := .none, afterNow := false }).takeTrap t true)
  | none => match x.engineTraps with
    | [] => none
    | t :: rest => some ((s.setCtx { x with engineTraps := rest }).takeTrap t true)

/-- The loop step that is due is applied, but not before B after an ERET (R93, R224). -/
def State.stepped (s : State) : State :=
  if s.ctx.replayArmed then s else s.updCtx Ctx.stepLoop

/-- The context issues, or takes a bubble, or takes the trap that is pending; results due have landed. Answers the hold of
a bundle that cannot issue. -/
def State.issueCycle (s : State) : Option Hold × State :=
  let x := s.ctx
  if x.bubbles ≠ 0 then (none, s.stepped.updCtx (fun x => { x with bubbles := x.bubbles - 1 }))
  else if x.blocked then (none, s.stepped)
  else match x.wait with
    | some (.ifence b n) => (none, s.stepped.fenceCycle b n)
    | _ =>
      let word := match x.wait with
        | some (.word _ _) => true
        | _ => false
      let s1 := (if word then s else s.updCtx (fun x => { x with wait := none, waitOver := false })).reinject
      match s1.pendingTrap with
      | some t => (none, t.updCtx (fun x => { x with xfer := .none }))
      | none =>
        let s2 := s1.stepped
        if s2.ctx.owedB ≠ 0 then (none, s2.updCtx (fun x => { x with owedB := x.owedB - 1 }))
        else if s2.ctx.owedN ≠ 0 then
          (none, s2.updCtx (fun x => ({ x with owedN := x.owedN - 1 } : Ctx).countBundle))
        else
          let r := s1.bundle s2
          (r.1, r.2.updCtx (fun x => { x with xfer := .none }))

/-- BUNDLE_ISSUE for the acting context: the bundle issues, or is held. -/
def State.bundleIssue (s : State) : State :=
  let r := s.issueCycle
  match r.1 with
  | none => r.2.haltNow
  | some h => s.holdAt h

/-- BUNDLE_ISSUE (R14, R15, R40). -/
def execBundleIssue (s : State) : Out := .next s.bundleIssue

/-- TRAP_ENTRY (R227): the trap that is pending for the acting context is taken. -/
def execTrapEntry (s : State) : Out := .next (match s.pendingTrap with
  | some t => t.updCtx (fun x => { x with xfer := .none })
  | none => s)

end Sys2Proof.Machine
end

