-- ==== Sys2Proof/Machine/Cycle.lean ====
section
/-! DEFINITION. A wall cycle of a core (R14, R36, R219 to R223, R234, R235, R245): the freeze line, landing, the matrix engine,
the context that holds the width, ctxS, the ends of waits and the selector. -/
namespace Sys2Proof.Machine
open Sys2Proof

/-! ### The selector (R219 to R221) -/

/-- A user context is ready (R219); an engine trap ends a blocking wait (R186). -/
def Core.ready (c : Core) (i : Nat) : Bool :=
  let x := c.ctx i
  decide (x.life = .live) && !x.svcHeld && (c.waitIsOver x || !x.engineTraps.isEmpty)

/-- The first ready context in slot order after one (R219). -/
def Core.nextReady (c : Core) (h : Nat) : Option Nat :=
  ([h + 1, h + 2, h + 3, h + 4].map (fun i => i % 4)).find? c.ready

/-- CONTEXT_SWITCH (R220): the context gives up the width; four switch cycles follow to the next ready one. -/
def Core.depart (c : Core) (h : Nat) : Core :=
  match c.nextReady h with
  | some n => { c with holder := none, lastHolder := h, entering := some n, switchLeft := 4 }
  | none => { c with holder := none, lastHolder := h, entering := none, switchLeft := 0 }

/-- Another context is ready. -/
def Core.otherReady (c : Core) (h : Nat) : Bool := [0, 1, 2, 3].any (fun i => decide (i ≠ h) && c.ready i)

/-- The context is held back in the middle of what its last bundle asked for. -/
def Ctx.midBundle (x : Ctx) : Bool := decide (x.bubbles ≠ 0) || (match x.wait with
  | some (.ifence _ _) => true
  | _ => false)

/-- The context that holds the width gives it up (R219, R221); one to be pre-empted does at its next expanded-bundle boundary
(R236). -/
def Core.mustLeave (c : Core) (h : Nat) : Bool :=
  let x := c.ctx h
  if (x.life ≠ .live ∧ x.life ≠ .saving) ∨ x.svcHeld = true then true
  else if x.midBundle then false
  else if x.life = .saving then true
  else if !c.waitIsOver x && x.engineTraps.isEmpty then c.otherReady h
  else x.quantumDone && c.otherReady h

/-- The entering context gains the width and a fresh quantum (R220, R221). -/
def Core.enter (c : Core) (n : Nat) : Core :=
  let x := c.ctx n
  if x.life = .live ∧ x.svcHeld = false then
    { c.setCtx n { x with quantumAt := x.clock, quantumDone := false } with
      holder := some n, lastHolder := n, entering := none, switchLeft := 0 }
  else { c with entering := none, switchLeft := 0 }

/-- The selector at the end of an unfrozen cycle (R219 to R221). -/
def Core.select (c : Core) : Core :=
  match c.entering with
  | some n => if 1 < c.switchLeft then { c with switchLeft := c.switchLeft - 1 } else c.enter n
  | none =>
    match c.holder with
    | some h => if c.mustLeave h then c.depart h else c
    | none => match c.nextReady c.lastHolder with
      | some n => { c with entering := some n, switchLeft := 4 }
      | none => c

/-- QUANTUM_EXPIRY (R221). -/
def Ctx.quantumTick (x : Ctx) : Ctx :=
  if Config.quantum ≤ x.clock - x.quantumAt then { x with quantumDone := true } else x

/-! ### The freeze line (R222) -/

/-- A CPYD or a KVLD.d of the context has missed its deadline (R192, R349); while a handler runs, a deadline of an operation
issued before the trap is tested when B issues. -/
def Core.deadlineMissed (c : Core) (x : Ctx) : Bool :=
  c.ops.any (fun o => decide (o.tag = x.tag) && !o.performed && (match o.deadline with
    | some d => decide (d ≤ x.clock) && !((x.inTrap || x.replayArmed) && decide (o.id < x.trapOp))
    | none => false))

/-- ctxS issues: it serves a request and is in no blocking wait (R234, R235). -/
def Core.serving (c : Core) : Bool :=
  c.svc.isSome && (match (c.ctx 4).wait with
    | some .event => (c.ctx 4).waitOver
    | _ => true)

/-- The causes of the freeze line that are found before a bundle comes to issue (R222). -/
def Core.freezeCause (c : Core) : Bool :=
  decide (c.freeze ≠ 0) || !c.sync.isEmpty || c.serving || (match c.holder with
    | some h => c.deadlineMissed (c.ctx h)
    | none => false)

/-! ### Landing and commits -/

/-- Results of a context land (R36), unless it does not hold the width and one of its commits is late (R223, R247). -/
def State.landCtx (s : State) (i : Nat) : State :=
  if (s.me.ctx i).pend = [] ∨ (s.me.holder ≠ some i ∧ s.commitLate i = true) then s
  else s.updCore (fun c => c.land i (c.ctx i).clock)

/-- Results of every user context of the core. -/
def State.landUsers (s : State) : State := [0, 1, 2, 3].foldl State.landCtx s

/-- MMAS_COMMIT (R175): an MMAS that has come to its cycle commits with the results due there, and signals. Where a late commit of
its context, which does not hold the width, keeps those back (R223), it does not wait for them (R171). Its flags are set with the
commit also where its record must wait (R55, R99; DEDUCED, Log 55). -/
def State.mmasCommit (s : State) (m : MCmd) : State :=
  let kept := decide (s.me.holder ≠ some m.ctx) && s.commitLate m.ctx
  s.updCore (fun c =>
    let x := c.ctx m.ctx
    let e : Pend := ⟨x.clock, m.id, [.commit m.id], 0, false⟩
    let c1 :=
      if kept then
        let r := c.landNow x [e]
        r.1.setCtx m.ctx r.2
      else c.setCtx m.ctx { x with pend := insertPend e x.pend }
    let bytes : Word := if accFmtOf m.cfg m.mlat = .f64 then 32768 else 16384
    let upd : Option BarrierUpd := if m.barrier = 0 then none else some { addr := m.barrier, op := 2, bytes := bytes }
    if m.event && !x.ended then c1.enqueue { record := mmasRecord m, upd := upd, op := none }
    else { c1 with barriers := c1.barriers ++ upd.toList })

/-- Every MMAS that is due. -/
def State.mmasCommits (s : State) : State := (s.me.cmds.filter (fun m => m.mmasDue s.me)).foldl State.mmasCommit s

/-! ### The cycle -/

/-- An unfrozen cycle has passed: the context that holds the width counts it, and one that has ended counts it towards
what it still has in flight (R36, R113, R114). -/
def State.tick (s : State) : State :=
  let tickEnded := fun (t : State) (i : Nat) =>
    let x := t.me.ctx i
    if x.ended && !x.pend.isEmpty && !t.commitLate i && decide (t.me.holder ≠ some i) then
      t.updCore (fun c => c.setCtx i { x with clock := x.clock + 1 })
    else t
  let s1 := [0, 1, 2, 3].foldl tickEnded s
  let s2 := s1.updCore (fun c => { c with ucyc := c.ucyc + 1 })
  match s2.me.holder with
  | none => s2
  | some h => s2.updCore (fun c =>
      let x := c.ctx h
      c.setCtx h ({ x with clock := x.clock + 1, feFrozen := 0 } : Ctx).quantumTick)

/-- The core is frozen in this cycle. -/
def State.freezeNow (s : State) : State := s.updCore (fun c => { c with frozen := true })

/-- A bundle that cannot issue (R148, R153, R156, R169, R184, R203, R204): `s` is the cycle's beginning, `e` what the matrix
engine has advanced to, `t` what has landed too. After 16 frozen cycles an LDF or STE begins its wait, and the cycle that finds
this is the first of a switch (R153, R220; DEDUCED, Log 22). -/
def State.heldCycle (s e t : State) (pre : Core) : Hold → State
  | .bubble => (t.matrixChunks pre).tick
  | .array => (({ e with who := s.who } : State).holdAt .array).matrixChunks e.me
  | .word a f =>
    let x := s.ctx
    let waiting := match x.wait with
      | some (.word _ _) => true
      | _ => false
    let wait := fun (u : State) => u.updCtx (fun x => { x with wait := some (.word a f) })
    if waiting then ((wait t).matrixChunks pre).tick
    else if 16 ≤ x.feFrozen then
      (((wait t).updCore (fun c => if c.otherReady t.who then c.depart t.who else c)).matrixChunks pre).tick
    else (s.updCtx (fun x => { x with feFrozen := x.feFrozen + 1 })).freezeNow
  | h => s.holdAt h

/-- The user contexts of the acting core in a cycle in which no cause found beforehand freezes it. -/
def State.runUsers (s : State) : State :=
  let e := s.matrixAdvance.matrixFaults
  let t := e.mmasCommits.landUsers.matrixStart
  let pre := t.me
  match pre.holder with
  | none => (t.matrixChunks pre).tick
  | some h =>
    let r := ({ t with who := h } : State).issueCycle
    match r.1 with
    | none => ((r.2.haltNow).matrixChunks pre).tick
    | some k => ({ s with who := h } : State).heldCycle e r.2 pre k

/-- A frozen cycle counts for an LDF or STE that is held too, whatever freezes the core (R153, R251). -/
def Core.countHeld (c : Core) : Core :=
  match c.holder with
  | none => c
  | some h =>
    let x := c.ctx h
    if x.feFrozen = 0 then c else c.setCtx h { x with feFrozen := x.feFrozen + 1 }

/-- The user contexts' part of a wall cycle of the acting core (R222). Causes that fall in one cycle overlap: each counts it (R251). -/
def State.userPhase (s : State) : State :=
  let c := s.me
  let s1 := s.updCore (fun c => { c.laneCycle with stretch := c.stretch - 1, freeze := c.freeze - 1 })
  if decide (c.stretch ≠ 0) || c.freezeCause || s1.matrixFreezes then (s1.matrixWaiting.updCore Core.countHeld).freezeNow else s1.runUsers

/-! ### The service context (R234, R235) -/

/-- The context a request is for. -/
def Core.heldBy (c : Core) (r : SvcReq) : Bool := r.holds && decide ((c.ctx r.slot).tag = r.tag)

/-- ctxS enters a blocking wait: its request is escalated, and the context it holds is switched out (R235), also one that is being
switched in. -/
def Core.escalate (c : Core) : Core :=
  match c.svc with
  | none => c
  | some r =>
    if r.escalated then c
    else
      let c1 := { c with svc := some { r with escalated := true } }
      if c.heldBy r then
        let c2 := c1.setCtx r.slot { c1.ctx r.slot with svcHeld := true }
        if c2.holder = some r.slot ∨ c2.entering = some r.slot then c2.depart r.slot else c2
      else c1

/-- The answer to the context that a request was for, wherever it is by now (R236, R346): it is released, and learns of a refusal. -/
def Ctx.answered (x : Ctx) (r : SvcReq) (refused : Bool) : Ctx :=
  if r.holds ∧ x.tag = r.tag then { x with svcHeld := false, svcFor := false, kvRefused := if refused then some (r.a2, x.pc % 0x40000) else x.kvRefused } else x

/-- Give that answer on every core and in every image. -/
def State.answer (s : State) (r : SvcReq) (refused : Bool) : State :=
  { s with
    cores := s.cores.map (fun (c : Nat × Core) =>
      (c.1, { c.2 with ctxs := c.2.ctxs.map (fun (x : Nat × Ctx) => (x.1, if x.1 < 4 then x.2.answered r refused else x.2)) }))
    images := s.images.map (fun (m : CtxImage) => { m with ctx := m.ctx.answered r refused }) }

/-- ctxS has halted: the request retires (R234, R297, R346), and the context it held is released. -/
def State.retireRequest (s : State) : State :=
  match s.me.svc with
  | none => s
  | some r =>
    let granted := decide ((s.me.ctx 4).rs 1 ≠ 0)
    let s1 := s.updCore (fun c => { c with svc := none })
    if r.kind = 2 then
      match (if granted then s1.kvService r.part r.s3.toNat r.s4.toNat (decide (r.s5 = 1)) else none) with
      | some s2 => s2.answer r false
      | none => s1.answer r true
    else match r.entry with
      | some e => (s1.answerEntry e granted).answer r false
      | none => s1.answer r false

/-- What a context has in flight comes a cycle nearer, and its own counter stands still: it does not hold the width (R113). -/
def Ctx.idle (x : Ctx) : Ctx := { x with pend := x.pend.map (fun (e : Pend) => { e with due := e.due - 1 }) }

/-- A wall cycle of ctxS while it serves a request (R234): it issues whatever freezes the core, but in an EVWAIT (R235). -/
def State.servicePhase (s : State) : State :=
  let s0 := { s with who := 4 }
  let s1 := s0.updCore (fun c => c.land 4 (c.ctx 4).clock)
  let r := s1.issueCycle
  let s2 := r.2.haltNow.updCtx (if s1.ctx.wait = some .event then Ctx.idle else fun x => { x with clock := x.clock + 1 })
  if s2.ctx.life = .halted then s2.retireRequest
  else match s2.ctx.wait with
    | some .event => s2.updCore Core.escalate
    | _ => s2

/-- What ctxS has in flight when it halts lands at its cycles (R114); its own counter stands still, for it does not issue (R113). -/
def State.serviceIdle (s : State) : State :=
  if (s.me.ctx 4).pend.isEmpty then s
  else s.updCore (fun c =>
    let d := c.land 4 (c.ctx 4).clock
    d.setCtx 4 (d.ctx 4).idle)

/-- ctxS takes the next request (R234): it starts at its firmware's entry. -/
def Core.startService (c : Core) : Core :=
  match c.svc, c.svcQueue with
  | none, r :: rest =>
    let x := c.ctx 4
    let y := ((((((x.ws 1 (BitVec.ofNat 32 r.kind)).ws 2 (BitVec.ofNat 32 r.slot)).ws 3 r.s3).ws 4 r.s4).ws 5 r.s5).ws 6 r.s6).wa 2 r.a2
    { c.setCtx 4 { y with
        pc := Config.firmwareEntry, liveHalf := Config.firmwareEntry / 0x20000, owedN := 0, owedB := 0, bubbles := 0
        wait := none, waitOver := false, after := .none, afterNow := false, inTrap := false, priv := true, life := .live } with
      svc := some r, svcQueue := rest }
  | _, _ => c

/-! ### Waits (R75, R97, R98, R206) -/

/-- WAIT_END: the condition of a wait on the core's own objects held at the start of the cycle (R75, R97, R98). -/
def Core.waitMet (c : Core) (i : Nat) (x : Ctx) : Bool :=
  match x.wait with
  | some (.barrier b par) => c.phase b != par
  | some .event => (popRecord i c.events).isSome
  | _ => false

/-- End the waits whose condition was met in the core as it stood at the start of the cycle. -/
def Core.endWaits (c c0 : Core) : Core :=
  [0, 1, 2, 3, 4].foldl (fun c i =>
    let x := c.ctx i
    let x0 := c0.ctx i
    if x.wait.isSome && decide (x.wait = x0.wait ∧ x.tag = x0.tag) && c0.waitMet i x0 then c.setCtx i x.waitDone else c) c

/-- The waits for WPROGs end in the cycle in which the last completes (R206). -/
def Core.endWprogWaits (c : Core) : Core :=
  [0, 1, 2, 3].foldl (fun c i =>
    let x := c.ctx i
    match x.wait with
    | some (.wprogs before) => if c.wprogsDone x.tag before then c.setCtx i x.waitDone else c
    | _ => c) c

/-! ### The core's cycle -/

/-- The selector moves in unfrozen cycles only (R222). -/
def Core.selectNow (c : Core) : Core := if c.frozen then c else c.select

/-- A wall cycle of the bundles of one core. -/
def State.corePhase (s : State) (rank : Nat) : State :=
  let s0 := ({ s with cur := rank } : State).syncRestart rank
  let c0 := s0.me
  let s1 := s0.userPhase
  let s2 := if c0.svc.isSome then s1.servicePhase else s1.serviceIdle
  s2.updCore (fun c => (c.endWaits c0).selectNow)

/-- The writes and atomics of a context's streams are visible, and none of its operations is left (R106, R371). -/
def State.streamsDrained (s : State) (rank tag : Nat) : Bool :=
  let c := s.core rank
  c.ops.all (fun o => decide (o.tag ≠ tag)) && c.gbuf.all (fun w => w.streams.all (fun k => decide (k / 16 ≠ tag)))
    && s.amoHeld.all (fun h => decide (h.rank ≠ rank) || h.streams.all (fun k => decide (k / 16 ≠ tag)))
    && s.staged.all (fun w => decide (w.tag ≠ tag))

/-- A context has nothing left in flight or under way. -/
def State.ctxDrained (s : State) (rank i : Nat) : Bool :=
  let c := s.core rank
  let x := c.ctx i
  x.pend.isEmpty && c.cmds.all (fun m => decide (m.ctx ≠ i) || m.discarded) && s.streamsDrained rank x.tag

/-- A context that has executed LEAVE ends once it has drained (R106). -/
def State.endLeavers (s : State) (rank : Nat) : State :=
  [0, 1, 2, 3].foldl (fun t i =>
    let x := (t.core rank).ctx i
    if x.life = .leaving ∧ t.ctxDrained rank i then t.setCore rank ((t.core rank).setCtx i { x with life := .left }) else t) s

/-- The end of a core's wall cycle: held records and barrier updates, the ends of WFENCE waits, flags, and ctxS. -/
def Core.endCycle (c : Core) (wall : Nat) : Core :=
  let c1 := (((c.dropHeld.enqueueHeld wall c.held.length).barrierCycle).endWprogWaits).endDiscarded
  let c2 := c1.startService
  { c2 with ctxs := c2.ctxs.map (fun (x : Nat × Ctx) => (x.1, x.2.mergeFlags)), committed := [] }

/-- The beginning of a core's wall cycle: the marks of the cycle are cleared, and publishes perform (R191). -/
def State.beginCore (s : State) (rank : Nat) : State :=
  (s.setCore rank { s.core rank with frozen := false, wPortUsed := false }).publishes rank

end Sys2Proof.Machine
end

