-- ==== Sys2Proof/Machine/Launches.lean ====
section
/-! DEFINITION. Launch records, group definitions and reduction schedules as the Pavilion reads them, completion records, and
the pool (R217, R316, R353, R368 to R371). -/
namespace Sys2Proof.Machine
open Sys2Proof

/-! ### Fields of bytes -/

/-- A little-endian field of a list of bytes. -/
def fieldAt (bs : List Byte) (off n : Nat) : Nat := natOfBytes ((bs.drop off).take n)

/-- Every byte of a range is zero. -/
def zeroAt (bs : List Byte) (off n : Nat) : Bool := ((bs.drop off).take n).all (fun b => decide (b = 0))

/-! ### Launch records (R217) -/

/-- The fields of a launch record. -/
def recordOfBytes (bs : List Byte) (part : Nat) : LaunchRec :=
  let w := fieldAt bs 0x0C 4
  let u := fieldAt bs 0x58 4
  let q := fieldAt bs 0x6A 2
  { image := fieldAt bs 0 8, imglen := fieldAt bs 8 4, ctxs := w % 4 + 1, priv := decide (w / 4 % 2 = 1)
    prio := w / 8 % 8, ndeps := w / 64 % 8, part := part
    entries := (List.range 4).map (fun i => fieldAt bs (0x10 + 2 * i) 2)
    sps := (List.range 4).map (fun i => fieldAt bs (0x18 + 4 * i) 4)
    stklims := (List.range 4).map (fun i => fieldAt bs (0x28 + 4 * i) 4)
    rows := BitVec.ofNat 64 (fieldAt bs 0x38 8)
    heapBase := BitVec.ofNat 64 (fieldAt bs 0x40 8), heapLim := BitVec.ofNat 64 (fieldAt bs 0x48 8)
    heapOff := BitVec.ofNat 64 (fieldAt bs 0x50 8)
    accn := u % 128, cols := BitVec.ofNat 8 (u / 256), abase := u / 2 ^ 16 % 128, asize := u / 2 ^ 24 % 128
    id := fieldAt bs 0x5C 4, glist := fieldAt bs 0x60 8, ngrp := fieldAt bs 0x68 2
    noticeq := if 2 ^ 15 ≤ q then some (q % 4096) else none
    deps := (List.range 4).map (fun i => fieldAt bs (0x70 + 4 * i) 4) }

/-- The A range of a record in bytes: base and end (R217). -/
def LaunchRec.aRange (r : LaunchRec) : Nat × Nat :=
  (r.abase * 65536, if r.asize = 0 then Config.aSize else (r.abase + r.asize) * 65536)

/-- The reserved bits of a record are zero. -/
def reservedZero (bs : List Byte) : Bool :=
  let w := fieldAt bs 0x0C 4
  let u := fieldAt bs 0x58 4
  decide (w / 2 ^ 9 % 8 = 0 ∧ w / 2 ^ 16 = 0 ∧ u / 2 ^ 7 % 2 = 0 ∧ u / 2 ^ 23 % 2 = 0 ∧ u / 2 ^ 31 = 0
    ∧ fieldAt bs 0x6A 2 / 4096 % 8 = 0) && zeroAt bs 0x6C 4

/-- The limits of the table of R217; a row mask and a column mask of which one is 0 name no core. The
limits of a stack pointer bind the contexts that the launch has (DESIGN CHOICE, Log 65). -/
def LaunchRec.inLimits (r : LaunchRec) : Bool :=
  let a := r.aRange
  decide (r.image % 4 = 0 ∧ 4 ≤ r.imglen ∧ r.imglen ≤ 0x40000 ∧ r.imglen % 4 = 0 ∧ r.ndeps ≤ 4 ∧ r.accn ≤ 64
    ∧ r.ctxs * r.accn ≤ 64 ∧ r.id ≠ 0 ∧ r.ngrp ≤ 256 ∧ (r.rows = 0 ↔ r.cols = 0) ∧ r.abase < 96 ∧ r.abase + r.asize ≤ 96)
    && (r.sps.take r.ctxs).all (fun sp => decide (sp % 16 = 0 ∧ a.1 ≤ sp ∧ sp ≤ a.2))

/-- The cores that a record names, ascending (R217). -/
def LaunchRec.named (r : LaunchRec) : List Nat :=
  (List.range 512).filter (fun k => r.rows.getLsbD (k / 8) && r.cols.getLsbD (k % 8))

/-- The record lets the Pavilion choose one core. -/
def LaunchRec.free (r : LaunchRec) : Bool := decide (r.rows = 0 ∧ r.cols = 0)

/-! ### Completion records (R369, R370) -/

/-- The address of a launch's completion record. -/
def State.completionAt (s : State) (part id : Nat) : Nat := (s.part part).cmpbase.toNat + 16 * (id % 4096)

/-- The sixteen bytes of a completion record: 1 DONE, 2 FAULT, 3 INVALID, 4 CANCELLED. -/
def completionBytes (id status wall : Nat) : List Byte := bytesOf id 4 ++ bytesOf status 4 ++ bytesOf wall 8

/-- The Pavilion writes a completion record in one step, and then the notice item (R369). -/
def State.complete (s : State) (part id status : Nat) (noticeq : Option Nat) : State :=
  let r := completionBytes id status s.wall
  let s1 := s.gPut (s.completionAt part id) r
  match noticeq with
  | none => s1
  | some q => { s1 with notices := s1.notices ++ [{
      queue := s1.handleOf q, bytes := bytesOf (recordWord 0 7 0x08) 4 ++ r ++ List.replicate 44 0 }] }

/-- The status in a dependence's completion slot, if it is that launch's (R370). -/
def State.depStatus (s : State) (part id : Nat) : Option Nat :=
  let a := s.completionAt part id
  if s.gNat a 4 = id then some (s.gNat (a + 4) 4) else none

/-- The dependences of a record. -/
def LaunchRec.depList (r : LaunchRec) : List Nat := r.deps.take r.ndeps

/-- Every dependence is met. -/
def State.depsMet (s : State) (l : Launch) : Bool := l.record.depList.all (fun d => decide (s.depStatus l.part d = some 1))

/-- Some dependence has failed: its slot holds its identifier with another status than DONE (R370). -/
def State.depFailed (s : State) (l : Launch) : Bool :=
  l.record.depList.any (fun d => match s.depStatus l.part d with
    | some st => decide (st ≠ 1)
    | none => false)

/-! ### Group definitions and schedules (R316, R353) -/

/-- One entry of a launch's group-definition list. -/
structure DefEntry where
  number : Nat
  kind : Nat
  timeout : Nat
  sched : Nat
  members : BitVec 512
  deriving DecidableEq, Repr

/-- A definition from its 80 bytes. -/
def defOfBytes (bs : List Byte) : DefEntry :=
  { number := fieldAt bs 0 2, kind := fieldAt bs 2 2, timeout := fieldAt bs 4 4, sched := fieldAt bs 8 8,
    members := BitVec.ofNat 512 (fieldAt bs 16 64) }

/-- The definitions of a record, or `none` where they cannot be read. -/
def State.readDefs (s : State) (r : LaunchRec) : Option (List DefEntry) :=
  (s.pageBytes r.part r.glist (80 * r.ngrp)).map (fun bs =>
    (List.range r.ngrp).map (fun i => defOfBytes ((bs.drop (80 * i)).take 80)))

/-- The cores of a member set. -/
def membersOf (m : BitVec 512) : List Nat := (List.range 512).filter (fun r => m.getLsbD r)

/-- The kind 0 definitions. -/
def groupsDefined (l : List DefEntry) : List DefEntry := l.filter (fun d => d.kind = 0)

/-- The groups a core would belong to with these definitions. -/
def State.groupCount (s : State) (l : List DefEntry) (rank : Nat) : Nat :=
  (groupsOf (s.core rank).groups).length + ((groupsDefined l).filter (fun d => d.members.getLsbD rank)).length

/-- The definitions may be taken for a placement on these cores (R353, R361). -/
def State.defsOk (s : State) (l : List DefEntry) (cores : List Nat) : Bool :=
  l.all (fun d => if d.kind = 0 then
        decide (d.sched = 0 ∧ d.number < 255) && !(s.group d.number).valid && (membersOf d.members).all cores.contains
      else decide (d.kind = 1 ∧ d.number = 0 ∧ d.timeout = 0 ∧ d.members = 0))
    && decide ((l.filter (fun d => d.kind = 1)).length ≤ 1)
    && decide (((groupsDefined l).map DefEntry.number).Nodup)
    && cores.all (fun r => decide (s.groupCount l r ≤ 4))

/-- The slots of a schedule's bytes: rank and launch context. -/
def slotsOf (bs : List Byte) (n : Nat) : List (Nat × Nat) :=
  (List.range n).map (fun k => (fieldAt bs (8 + 2 * k) 2 / 4 % 512, fieldAt bs (8 + 2 * k) 2 % 4))

/-- What a list of definitions gives for a schedule: none named, an invalid one, or its slots (R316). -/
def State.readSchedule (s : State) (r : LaunchRec) (l : List DefEntry) (cores : List Nat) : Option (Option (List (Nat × Nat))) :=
  match l.find? (fun d => d.kind = 1) with
  | none => some none
  | some d =>
    match s.pageBytes r.part d.sched 8 with
    | none => none
    | some h =>
      let n := fieldAt h 0 4
      if n = 0 ∨ 512 < n ∨ d.sched % 8 ≠ 0 ∨ ¬ zeroAt h 4 4 = true then none
      else match s.pageBytes r.part d.sched (8 + 2 * n) with
        | none => none
        | some bs =>
          let slots := slotsOf bs n
          if (List.range n).all (fun k => decide (fieldAt bs (8 + 2 * k) 2 < 2048)) && decide slots.Nodup
              && slots.all (fun p => cores.contains p.1 && decide (p.2 < r.ctxs)) then some (some slots)
          else none

/-! ### The pool (R368, R371) -/

/-- The launches in the pool that wait to be placed. -/
def State.pool (s : State) : List Launch := s.launches.filter (fun l => l.phase = .pool)

/-- The launch queues that hold a descriptor the Pavilion may take: of a partition in RUN (R415). -/
def State.launchQueues (s : State) : List Nat :=
  (s.queues.filter (fun q => q.2.launch && q.2.live && decide ((s.part q.2.part).state = 2) && !(s.part q.2.part).scrub
    && s.queueMapped q.2 && decide (s.queueLen q.2 ≠ 0))).map Prod.fst

/-- A descriptor that has been popped: its record is read, and it enters the pool or is INVALID (R217, R368). -/
def State.takeDescriptor (s : State) (part : Nat) (d : List Byte) : State :=
  let a := fieldAt d 0 8
  match (if zeroAt d 8 56 ∧ a % 128 = 0 then s.pageBytes part a 128 else none) with
  | none => s.complete part 0 3 none
  | some bs =>
    let r := recordOfBytes bs part
    if fieldAt bs 0x0C 4 / 2 ^ 12 % 16 = part ∧ reservedZero bs = true ∧ r.inLimits = true then
      { s with launches := s.launches ++ [{ record := r, seq := s.nextSeq, part := part }], nextSeq := s.nextSeq + 1 }
    else s.complete part r.id 3 r.noticeq

/-- LAUNCH_DESCRIPTOR_POP (R368, R371): one descriptor of the next launch queue in turn, while the pool has room. When the
Pavilion takes its turn is open (DESIGN CHOICE, Log 6). -/
def State.popDescriptor (s : State) : State :=
  let qs := s.launchQueues
  if qs = [] ∨ 64 ≤ s.pool.length then s
  else
    let q := (qs.find? (fun q => decide (s.lqTurn ≤ q))).getD (qs.headD 0)
    match s.queueOf q with
    | none => s
    | some r =>
      let e := s.queuePop r
      { e.2.takeDescriptor r.part e.1.1 with lqTurn := q + 1 }

/-! ### Events of the notice and event queues (R98, R354) -/

/-- A record goes to a context's event queue; an ended context takes none (R99). -/
def State.sendRecord (s : State) (rank slot : Nat) (r : Nat → Record) : State :=
  let c := s.core rank
  if (c.ctx slot).ended then s else s.setCore rank (c.enqueue { record := r slot, upd := none, op := none })

end Sys2Proof.Machine
end

