-- ==== Sys2Proof/Machine/Preempt.lean ====
section
/-! DEFINITION. PREEMPTION and CONTEXT_RESUME (R187, R224, R236, R237, R321, R364, R394): when a context can be saved, its image in
its frame, and its restoration on the same or on a spare core. -/
namespace Sys2Proof.Machine
open Sys2Proof

/-! ### The frame (R237, R372, R394) -/

/-- The bytes of a context's frame: the fixed part and the variable area for its launch's tiles and A range, in whole
64 KiB units (R372). -/
def LaunchRec.frameSize (r : LaunchRec) : Nat :=
  (0x8000 + r.accn * 16384 + (r.aRange.2 - r.aRange.1) + 65535) / 65536 * 65536

/-- A field of a frame: offset, bytes, value, and whether its register is poisoned. -/
structure FrameField where
  off : Nat
  size : Nat
  value : Nat
  poison : Bool := false

/-- The system registers that a frame holds: number, offset, bytes (R237). -/
def frameSys : List (Nat × Nat × Nat) :=
  (List.range 8).map (fun i => (0x010 + i, 0x188 + 4 * i, 4)) ++ (List.range 4).map (fun i => (0x018 + i, 0x1A8 + 4 * i, 4))
    ++ [(0x002, 0x1D4, 4), (0x005, 0x1D8, 4), (0x006, 0x1DC, 4), (0x00B, 0x1E4, 4), (0x00C, 0x1E8, 4), (0x001, 0x1F0, 8),
        (0x003, 0x1F8, 8), (0x004, 0x200, 8), (0x007, 0x208, 8), (0x008, 0x210, 8), (0x009, 0x218, 8)]

/-- A system register of a context, as its frame holds it. -/
def Ctx.frameSysGet (x : Ctx) (r : Nat) : Nat :=
  if 0x010 ≤ r ∧ r ≤ 0x017 then (x.rfmt (r - 0x010)).toNat
  else if 0x018 ≤ r ∧ r ≤ 0x01B then (x.rlfmt (r - 0x018)).toNat
  else match r with
    | 0x001 => x.trapVec.toNat
    | 0x002 => x.trapCause.toNat
    | 0x003 => x.trapPc.toNat
    | 0x004 => x.trapInfo.toNat
    | 0x005 => x.stkLim.toNat
    | 0x006 => x.fpFlags.toNat
    | 0x007 => x.heapBase.toNat
    | 0x008 => x.heapLim.toNat
    | 0x009 => x.heapOff.toNat
    | 0x00B => x.rowProg.toNat
    | _ => x.prio.toNat

/-- The predicates as they read, the loop's and the fixed ones too. -/
def Ctx.pRead (x : Ctx) : BitVec 16 := (List.range 16).foldl (fun w i => if x.rp i then setBit w i true else w) 0

/-- The fields that R237 lays out to the byte. -/
def Ctx.frameFields (x : Ctx) (slot : Nat) : List FrameField :=
  (List.range 32).map (fun i => { off := 0x40 + 4 * i, size := 4, value := (x.s.get 0 i).toNat, poison := x.poison.s.getLsbD i })
    ++ (List.range 16).map (fun i => { off := 0xC0 + 8 * i, size := 8, value := (x.a.get 0 i).toNat, poison := x.poison.a.getLsbD i })
    ++ [{ off := 0x140, size := 8, value := x.pRead.toNat, poison := decide (x.poison.p ≠ 0) }]
    ++ (List.range 8).map (fun i => { off := 0x148 + 8 * i, size := 8, value := (x.rvq i).toNat, poison := x.poison.vq.getLsbD i })
    ++ frameSys.map (fun f => { off := f.2.1, size := f.2.2, value := x.frameSysGet f.1 })
    ++ [{ off := 0x1B8, size := 4, value := x.mcfg.toNat }, { off := 0x1BC, size := 4, value := x.mscale.toNat },
        { off := 0x1D0, size := 4, value := (x.status slot).toNat }, { off := 0x1E0, size := 4, value := x.contain.length }]
    ++ (List.range 8).flatMap (fun i => (List.range 6).flatMap (fun l =>
        let v := nestLevel (x.rn i) l
        [(0, v.count.toNat), (4, v.sa.toNat), (8, v.sb.toNat), (12, v.sd.toNat)].map (fun p =>
          ({ off := 0x420 + 96 * i + 16 * l + p.1, size := 4, value := p.2 } : FrameField))))
    ++ (List.range 32).map (fun i => { off := 0x800 + 256 * i, size := 256, value := (x.rv i).toNat, poison := x.poison.v.getLsbD i })
    ++ (List.range 4096).map (fun i => { off := 0x2800 + 4 * i, size := 4, value := (x.q.get 0 i).toNat,
                                          poison := x.poison.q.getLsbD (i / 1024) })

/-- The results of a context in flight at a pre-emption, each with the cycles it still counts (R224). -/
def Ctx.captured (x : Ctx) : List Pend := x.replay ++ x.pend.map (fun e => { e with due := e.due - x.clock })

/-- The accumulator tiles that a command writes. -/
def MCmd.tileCount (m : MCmd) : Nat := if accFmtOf m.cfg m.mlat = .f64 then 2 else 1

/-- What a replay directory entry says of a captured result (R238): its kind; the first register index and the register count, of
tiles the context's own numbers; and what bits [31:24] hold. -/
def replayEntry (base : Nat) (cmds : List MCmd) (writes : List RegWrite) : Nat × Nat × Nat × Nat :=
  match writes with
  | .s r _ :: .p k _ :: _ => (12, r, 1, k)
  | .v r _ _ :: rest => (match rest.getLast? with
    | some (.vq k _) => (11, r, rest.length, k)
    | _ => (5, r, writes.length, 0))
  | .s r _ :: _ => (1, r, writes.length, 0)
  | .a r _ :: _ => (2, r, writes.length, 0)
  | .p r _ :: _ => (3, r, writes.length, 0)
  | .vq r _ :: _ => (4, r, writes.length, 0)
  | .q t _ false _ :: _ => (6, t, 1, 0)
  | .q t _ true _ :: _ => (7, t, 1, 0)
  | .accRow t _ _ _ :: _ => (8, t - base, 1, 0)
  | .commit id :: _ => (match cmds.find? (fun m => m.id = id) with
    | some m => (9, m.acc, m.tileCount, 0)
    | none => (0, 0, 0, 0))
  | .mzero t _ _ :: _ => (10, t - base, writes.length, 0)
  | [] => (0, 0, 0, 0)

/-- The number of an accumulator format, as MZERO gives it (R176). -/
def accCode (f : AccFmt) : Nat := match f with
  | .i32 => 0
  | .f32 => 1
  | .f64 => 2

/-- The bytes of a number, with one mark. -/
def markedBytes (v n : Nat) (bad : Bool) : List (Byte × Bool) := (bytesOf v n).map (fun b => (b, bad))

/-- The bytes of one captured destination in the variable area (R238), with their marks; those of a tile commit are its format, its
readout scale and its elements (DEDUCED, Log 41). -/
def RegWrite.image (cmds : List MCmd) (bad : Bool) (w : RegWrite) : List (Byte × Bool) :=
  match w with
  | .s _ x => markedBytes x.toNat 4 bad
  | .a _ x => markedBytes x.toNat 8 bad
  | .p _ x => markedBytes (if x then 1 else 0) 4 bad
  | .v _ x _ => markedBytes x.toNat 256 bad
  | .vq _ x => markedBytes x.toNat 8 bad
  | .q _ _ _ l => l.flatMap (fun x => markedBytes x.toNat 4 bad)
  | .accRow _ _ ty l => l.flatMap (fun x => markedBytes x (typeBytes ty) bad)
  | .mzero _ f sc => markedBytes (accCode f) 4 bad ++ markedBytes sc.toNat 4 bad
  | .commit id => match cmds.find? (fun m => m.id = id) with
    | none => []
    | some m => markedBytes (accCode (accFmtOf m.cfg m.mlat)) 4 false ++ (markedBytes m.scale.toNat 4 false
        ++ ((if m.sums = [] then List.replicate 4096 0 else m.sums).mapIdx (fun i x =>
          markedBytes x (4 * m.tileCount) (m.poison.get false i))).flatten)

/-- The bytes of a captured result: of kind 12, the s value and the condition in a word after it (R238). -/
def Pend.image (cmds : List MCmd) (e : Pend) : List (Byte × Bool) :=
  (match e.writes with
    | .s r v :: .p k c :: _ => [RegWrite.s r v, RegWrite.p k c]
    | ws => ws).flatMap (RegWrite.image cmds e.poison)

/-- The places of values one after another from an offset on: offset and length. -/
def packed (at_ : Nat) : List Nat → List (Nat × Nat)
  | [] => []
  | n :: rest => (at_, n) :: packed (at_ + n) rest

/-- The places of the captured values in the variable area: in the directory's order, one after another (DEDUCED, Log 41). -/
def Ctx.valuePlaces (x : Ctx) (cmds : List MCmd) : List (Nat × Nat) := packed 0 (x.captured.map (fun e => (e.image cmds).length))

/-- The flags that a captured result sets when it lands: its own, and those of the command that it commits (R55, R238). -/
def Pend.allFlags (cmds : List MCmd) (e : Pend) : FpFlags :=
  e.writes.foldl (fun f w => match w with
    | .commit id => match cmds.find? (fun m => m.id = id) with
      | some m => f ||| m.flags
      | none => f
    | _ => f) e.flags

/-- The replay directory's fields: an entry for every captured result, with the place of its value, its remaining count and its
flags, and kind 0 in those left over (R238). -/
def Ctx.directory (x : Ctx) (cmds : List MCmd) : List FrameField :=
  let places := x.valuePlaces cmds
  (List.range 80).flatMap (fun i =>
    let at_ := 0x6800 + 16 * i
    match x.captured[i]? with
    | none => [{ off := at_, size := 16, value := 0 }]
    | some e =>
      let k := replayEntry x.tileBase cmds e.writes
      [{ off := at_, size := 1, value := k.1 }, { off := at_ + 1, size := 1, value := k.2.1 },
        { off := at_ + 2, size := 1, value := k.2.2.1 }, { off := at_ + 3, size := 1, value := k.2.2.2 },
        { off := at_ + 4, size := 4, value := e.due }, { off := at_ + 8, size := 4, value := (places.getD i (0, 0)).1 },
        { off := at_ + 12, size := 4, value := (e.allFlags cmds).toNat }])

/-- The parts of an image whose contents R237 names without their inner layout: the header, the MLAT binding, windows and
containment, loop state and its suspended copy, and queued operations and publishes in stream order. How each is laid out is open
(Log 41). -/
def CtxImage.openParts (m : CtxImage) (launchId aBytes : Nat) : List FrameField :=
  let x := m.ctx
  let flags := (if m.rangeSaved then 1 else 0) + (if x.inTrap then 2 else 0)
  [{ off := 0, size := 64, value := Config.frameCode 0
      [1, launchId, m.rank, m.slot, flags, x.captured.length, m.events.length, m.tiles.length, aBytes] },
    { off := 0x1C0, size := 16, value := Config.frameCode 1 (mlatCopy x.mlat, mlatMode x.mlat, x.mlatBase) },
    { off := 0x220, size := 192, value := Config.frameCode 2 (x.windows, x.contain) },
    { off := 0x2E0, size := 160, value := Config.frameCode 3 (x.loop, x.owedN, x.owedB) },
    { off := 0x380, size := 160, value := Config.frameCode 3 (x.suspended, x.replayOwed, x.savedB) }]
  ++ (List.range 64).map (fun i => { off := 0x6D00 + 64 * i, size := 64, value := match m.ops[i]? with
      | some o => Config.frameCode 4 o
      | none => 0 })

/-- A launch's A range as bytes with the marks of their words. -/
def RangeImage.list (r : RangeImage) (lo hi : Nat) : List (Byte × Bool) :=
  (List.range (hi - lo)).map (fun i => (r.bytes.get 0 (lo + i), r.poison.get false ((lo + i) / 4)))

/-- The variable area of an image (R237): replay values; event records; accumulator tiles; the A range. -/
def CtxImage.variable (m : CtxImage) (range : List (Byte × Bool)) : List (Byte × Bool) :=
  m.ctx.captured.flatMap (Pend.image m.cmds)
    ++ m.events.flatMap (fun r => markedBytes r.toNat 16 false)
    ++ m.tiles.flatMap (fun t => (List.range 4096).flatMap (fun i => markedBytes (t.elems.get 0 i).toNat 4 (t.poison.get false i)))
    ++ range

/-- Write bytes with their marks from an address on. -/
def State.gPutMarked (s : State) (a : Nat) : List (Byte × Bool) → State
  | [] => s
  | b :: rest => (s.gPut a [b.1] b.2).gPutMarked (a + 1) rest

/-- Write a context's frame: the fields laid out and the variable area as far as the frame goes (Log 41), zeros where R237 reserves. -/
def State.writeFrame (s : State) (base size launchId : Nat) (m : CtxImage) (range : List (Byte × Bool)) : State :=
  let s1 := { s.discardPage base size with free := s.free + 1 }
  let s2 := (s1.gPut (base + 0x720) (List.replicate 224 0)).gPut (base + 0x7D00) (List.replicate 768 0)
  ((m.ctx.frameFields m.slot ++ m.ctx.directory m.cmds ++ m.openParts launchId range.length).foldl
    (fun t f => t.gPut (base + f.off) (bytesOf f.value f.size) f.poison) s2).gPutMarked (base + 0x8000)
      ((m.variable range).take (size - 0x8000))

/-- A register read back from a frame. -/
def State.frameAt (s : State) (base off n : Nat) : Nat := s.gNat (base + off) n

/-- A register with a byte in a poisoned line of the image is poisoned (R394). -/
def State.frameBad (s : State) (base off n : Nat) : Bool :=
  linePoison s.gpoison (base + off) || linePoison s.gpoison (base + off + n - 1)

/-- Marks of a register file read from a frame. -/
def marksOf (w n : Nat) (bad : Nat → Bool) : BitVec w :=
  (List.range n).foldl (fun m i => if bad i then setBit m i true else m) 0

/-- Restore the registers that the frame lays out (R237, R394). -/
def State.readFrame (s : State) (base : Nat) (x : Ctx) : Ctx :=
  let files : Ctx := { x with
    s := (List.range 32).foldl (fun m i => if i = 0 then m else m.write 0 i (BitVec.ofNat 32 (s.frameAt base (0x40 + 4 * i) 4))) []
    a := (List.range 16).foldl (fun m i => m.write 0 i (BitVec.ofNat 64 (s.frameAt base (0xC0 + 8 * i) 8))) []
    p := BitVec.ofNat 16 (s.frameAt base 0x140 2) &&& 0x3FFC#16
    vq := (List.range 8).foldl (fun m i => if i = 0 then m else m.write 0 i (BitVec.ofNat 64 (s.frameAt base (0x148 + 8 * i) 8))) []
    v := (List.range 32).foldl (fun m i => m.write 0 i (BitVec.ofNat 2048 (s.frameAt base (0x800 + 256 * i) 256))) []
    q := (List.range 4096).foldl (fun m i => m.write 0 i (BitVec.ofNat 32 (s.frameAt base (0x2800 + 4 * i) 4))) []
    n := (List.range 8).map (fun i => (i, (List.range 6).map (fun l =>
      let at_ := fun (o : Nat) => s.frameAt base (0x420 + 96 * i + 16 * l + o) 4
      ({ count := BitVec.ofNat 16 (at_ 0), sa := BitVec.ofNat 24 (at_ 4), sb := BitVec.ofNat 24 (at_ 8),
         sd := BitVec.ofNat 24 (at_ 12) } : NestLevel))))
    mcfg := BitVec.ofNat 32 (s.frameAt base 0x1B8 4)
    mscale := BitVec.ofNat 32 (s.frameAt base 0x1BC 4)
    poison := {
      s := marksOf 32 32 (fun i => s.frameBad base (0x40 + 4 * i) 4)
      a := marksOf 16 16 (fun i => s.frameBad base (0xC0 + 8 * i) 8)
      p := marksOf 8 8 (fun _ => s.frameBad base 0x140 8)
      v := marksOf 32 32 (fun i => s.frameBad base (0x800 + 256 * i) 256)
      vq := marksOf 8 8 (fun i => s.frameBad base (0x148 + 8 * i) 8)
      q := marksOf 4 4 (fun i => (List.range 32).any (fun k => linePoison s.gpoison (base + 0x2800 + 4096 * i + 128 * k))) } }
  frameSys.foldl (fun y f => y.sysSet f.1 (BitVec.ofNat 64 (s.frameAt base f.2.1 f.2.2))) files

/-- The variable area of a frame as it is read back: its bytes, with the marks of the poisoned lines among them; what the frame had no room
for is what was kept (R237, R394; DEDUCED, Log 41). -/
def State.readArea (s : State) (base size : Nat) (kept : List (Byte × Bool)) : List (Byte × Bool) :=
  kept.mapIdx (fun i b =>
    if i + 0x8000 < size then (s.gByte (base + 0x8000 + i), linePoison s.gpoison (base + 0x8000 + i)) else b)

/-- A number in an area. -/
def areaNat (l : List (Byte × Bool)) (off n : Nat) : Nat := natOfBytes (((l.drop off).take n).map Prod.fst)

/-- Some byte of a place in an area is poisoned. -/
def areaBad (l : List (Byte × Bool)) (off n : Nat) : Bool := ((l.drop off).take n).any Prod.snd

/-- The accumulator format of a number, as MZERO takes it (R176). -/
def accOfCode (n : Nat) : AccFmt := if n = 0 then .i32 else if n = 1 then .f32 else .f64

/-- A captured destination with the value that stands in an area (R238). -/
def RegWrite.readBack (l : List (Byte × Bool)) (off : Nat) (w : RegWrite) : RegWrite :=
  match w with
  | .s r _ => .s r (BitVec.ofNat 32 (areaNat l off 4))
  | .a r _ => .a r (BitVec.ofNat 64 (areaNat l off 8))
  | .p r _ => .p r (decide (areaNat l off 4 % 2 = 1))
  | .v r _ m => .v r (BitVec.ofNat 2048 (areaNat l off 256)) m
  | .vq r _ => .vq r (BitVec.ofNat 64 (areaNat l off 8))
  | .q t i col ws => .q t i col (ws.mapIdx (fun k _ => BitVec.ofNat 32 (areaNat l (off + 4 * k) 4)))
  | .accRow t row ty xs => .accRow t row ty (xs.mapIdx (fun k _ => areaNat l (off + typeBytes ty * k) (typeBytes ty)))
  | .mzero t _ _ => .mzero t (accOfCode (areaNat l off 4)) (BitVec.ofNat 32 (areaNat l (off + 4) 4))
  | .commit id => .commit id

/-- Destinations one after another in an area. -/
def readWrites (cmds : List MCmd) (l : List (Byte × Bool)) (off : Nat) : List RegWrite → List RegWrite
  | [] => []
  | w :: rest => w.readBack l off :: readWrites cmds l (off + (w.image cmds false).length) rest

/-- The destinations of a captured result as an area holds them: the second predicate of a pair with an s register is not the first
(R98, R238). -/
def Pend.readBack (cmds : List MCmd) (l : List (Byte × Bool)) (off : Nat) (e : Pend) : List RegWrite :=
  match e.writes with
  | .s r v :: .p k c :: rest =>
    let b := decide (areaNat l (off + 4) 4 % 2 = 1)
    (RegWrite.s r v).readBack l off :: .p k b :: rest.map (fun w => match w with
      | .p j d => if d = c then .p j b else .p j (!b)
      | w => w)
  | ws => readWrites cmds l off ws

/-- The captured results of an image as they are restored (R237, R238, R394): the value, the remaining count and the flags that the frame
holds, poisoned where the value lies in a poisoned line. -/
def State.readValues (s : State) (base : Nat) (l : List (Byte × Bool)) (x : Ctx) (cmds : List MCmd) : Ctx :=
  let places := x.valuePlaces cmds
  let back := fun (i : Nat) (from_ : Nat) (e : Pend) =>
    let p := places.getD i (0, 0)
    ({ e with
       writes := e.readBack cmds l p.1
       poison := e.poison || areaBad l p.1 p.2
       due := if i < 80 then from_ + s.frameAt base (0x6800 + 16 * i + 4) 4 else e.due
       flags := if i < 80 then BitVec.ofNat 7 (s.frameAt base (0x6800 + 16 * i + 12) 4) else e.flags } : Pend)
  { x with
    replay := x.replay.mapIdx (fun i e => back i 0 e)
    pend := x.pend.mapIdx (fun i e => back (i + x.replay.length) x.clock e) }

/-- The results held for the commands of an image (R171, R394): the elements that the frame holds, for a command that has begun its sums,
each poisoned where it lies in a poisoned line. -/
def readSums (l : List (Byte × Bool)) (x : Ctx) (cmds : List MCmd) : List MCmd :=
  (x.captured.zip (x.valuePlaces cmds)).foldl (fun ms p => ms.map (fun (m : MCmd) =>
    if p.1.writes.any (fun w => w = .commit m.id) then
      let n := 4 * m.tileCount
      let at_ := fun (i : Nat) => p.2.1 + 8 + n * i
      { m with
        sums := m.sums.mapIdx (fun i _ => areaNat l (at_ i) n)
        poison := (List.range 4096).foldl (fun b i => if areaBad l (at_ i) n then b.write false i true else b) m.poison }
    else m)) cmds

/-- The elements of a tile at a place of an area; its format and its readout scale are kept beside the frame. -/
def Tile.readBack (l : List (Byte × Bool)) (off : Nat) (t : Tile) : Tile :=
  { t with
    elems := (List.range 4096).foldl (fun m i => m.write 0 i (BitVec.ofNat 32 (areaNat l (off + 4 * i) 4))) []
    poison := (List.range 4096).foldl (fun m i => if areaBad l (off + 4 * i) 4 then m.write false i true else m) [] }

/-- An image as its frame gives it back: registers, captured results, results of commands, records and tiles (R237, R394). -/
def State.readImageBack (s : State) (size : Nat) (m : CtxImage) : CtxImage :=
  let l := s.readArea m.frame size (m.variable [])
  let at_ := ((m.ctx.captured.map (fun e => (e.image m.cmds).length)).sum, 16 * m.events.length)
  { m with
    ctx := s.readFrame m.frame (s.readValues m.frame l m.ctx m.cmds)
    cmds := readSums l m.ctx m.cmds
    events := m.events.mapIdx (fun i _ => BitVec.ofNat 128 (areaNat l (at_.1 + 16 * i) 16))
    tiles := m.tiles.mapIdx (fun i t => t.readBack l (at_.1 + at_.2 + 16384 * i)) }

/-- The A range of a launch as the frame gives it back that holds it, the last one saved with it (R236, R237). A poisoned line marks whole
words of it. -/
def State.readRange (s : State) (frame : CtxImage → Nat) (lo hi : Nat) (r : RangeImage) : RangeImage :=
  match (s.images.filter (fun m => m.launch = r.launch ∧ m.rank = r.rank ∧ m.rangeSaved ∧ m.frame ≠ 0)).getLast? with
  | none => r
  | some m =>
    let area := m.variable (r.list lo hi)
    let l := (s.readArea m.frame (frame m) area).drop (area.length - (hi - lo))
    { r with
      bytes := l.zipIdx.filterMap (fun p => if p.1.1 = 0 then none else some (lo + p.2, p.1.1))
      poison := l.zipIdx.filterMap (fun p => if p.1.2 && decide (p.2 % 4 = 0) then some (lo / 4 + p.2 / 4, true) else none) }

/-! ### Saving (R187, R236, R364) -/

/-- A request of the context that ctxS has neither retired nor escalated, which holds it (R236). -/
def Core.asking (c : Core) (slot : Nat) : Bool :=
  let mine := fun (r : SvcReq) => r.holds && decide (r.slot = slot ∧ r.tag = (c.ctx slot).tag)
  c.svcQueue.any mine || (match c.svc with
    | some r => mine r && !r.escalated
    | none => false)

/-- Another context of the launch is still on a core, and its image is not being written. -/
def State.launchStays (s : State) (rank launch slot : Nat) : Bool :=
  [0, 1, 2, 3].any (fun i =>
    let x := (s.core rank).ctx i
    decide (i ≠ slot ∧ x.life ≠ .free ∧ x.life ≠ .halted ∧ x.life ≠ .left ∧ x.life ≠ .stopped ∧ x.launch = launch)
      && !s.writing rank i)

/-- The copy addresses that an operation names. -/
def CKind.places (k : CKind) : List DWord :=
  match k with
  | .cpy w _ _ _ => [w.src, w.dst]
  | .cpyd w => [w.src]
  | .gath d a l _ _ _ => [d, a, l]
  | .scat d a l _ _ => [d, a, l]
  | .amo _ a _ _ _ _ => [a]
  | .red _ a _ _ => [a]
  | _ => []

/-- An operation of another context of the launch that has begun reaches a core's tiles, or its A-space when that is to be read out
(R321). -/
def State.reached (s : State) (rank : Nat) (x : Ctx) (last : Bool) : Bool :=
  s.cores.any (fun c => c.2.ops.any (fun o => o.begun && !o.performed && decide (o.tag ≠ x.tag ∧ o.launch = x.launch)
    && o.kind.places.any (fun a => decide (s.rankNow o.launch (copyLoc a).rank = rank)
      && (decide ((copyLoc a).space = 3) || (last && decide ((copyLoc a).space = 2))))))

/-- The A range of a launch. -/
def State.rangeOf (s : State) (launch : Nat) : Nat × Nat :=
  match s.launchOf launch with
  | some l => l.record.aRange
  | none => (0, 0)

/-- A context chosen for pre-emption is switched out, as it stands, or stands at a bundle boundary frozen in a SYNC (R236, R364); its MMAS
commands have committed, its other commands have done their work unless they wait for what an escalated request is about, its operations
that had begun reading are complete or wait only for a record, and no access that had begun reaches what is to be read out; before the
launch's A range is read out, what contexts that have ended had queued there is complete too (R187, R236, R321). -/
def State.maySave (s : State) (rank slot : Nat) : Bool :=
  let c := s.core rank
  let x := c.ctx slot
  let last := !s.launchStays rank x.launch slot
  decide (x.life = .saving ∧ (c.holder ≠ some slot ∨ c.sync ≠ []) ∧ c.entering ≠ some slot) && (decide (c.holder ≠ some slot) || !x.midBundle)
    && !c.asking slot && c.lanes.all (fun l => decide (l.ctx ≠ slot))
    && c.cmds.all (fun m => decide (m.ctx ≠ slot ∨ (m.kind ≠ .mmas ∧ (m.total ≤ m.next + m.skip ∨ x.svcHeld = true))) || m.discarded)
    && c.ops.all (fun o => decide (o.tag ≠ x.tag) || !o.begun || c.held.any (fun h => decide (h.op = some o.id)))
    && !s.reached rank x last
    && (!last || c.ops.all (fun o => decide (o.tag = x.tag ∨ o.launch ≠ x.launch)))
    && (!last || c.barriers.all (fun u => decide (u.wait = 0 ∨ u.addr < (s.rangeOf x.launch).1 ∨ (s.rangeOf x.launch).2 ≤ u.addr)))

/-- The frame that a launch holds for a context (R372). -/
def State.frameFor (s : State) (x : Ctx) : Nat × Nat :=
  match s.launchOf x.launch with
  | none => (0, 0)
  | some l => match l.frames.find? (fun f => f.rank = x.originRank ∧ f.launchCtx = x.launchCtx) with
    | some f => (f.base, f.size)
    | none => (0, 0)

/-- The SYNC that the core waits in for a context, as the image records it (R364). -/
def Core.syncSave (c : Core) (slot : Nat) : Option SyncSave :=
  (c.sync.find? (fun w => w.ctx = slot)).map (fun w =>
    { group := w.group, issued := w.issued, arrived := w.arrived, release := w.release })

/-- A launch's A range and the I-space of a core, as they are saved (R236, R404). -/
def Core.rangeImage (c : Core) (launch rank lo hi : Nat) : RangeImage :=
  let keep := fun {α : Type} (m : Map α) (lo hi : Nat) => m.filter (fun e => decide (lo ≤ e.1 ∧ e.1 < hi))
  { launch := launch, rank := rank, bytes := keep c.aspace lo hi, full := keep c.full (lo / 4) (hi / 4),
    poison := keep c.apoison (lo / 4) (hi / 4), ispace := c.ispace, ipoison := c.ipoison }

/-- Every window of a context agrees with its names again. -/
def Core.normaliseAll (c : Core) (slot : Nat) : Core := [0, 1, 2, 3].foldl (fun c w => c.normalise slot w) c

/-- The record is addressed to a slot. -/
def addressed (slot : Nat) (r : Record) : Bool := decide (Record.owner r = slot)

/-- The core in which the results that a handler holds captured are in flight again, as if B issued now (R224). -/
def Core.unheld (c : Core) (slot : Nat) : Core :=
  let x := c.ctx slot
  if !(x.inTrap || x.replayArmed) then c
  else c.setCtx slot { x with
    clock := x.replayAt, pend := x.replay.foldl (fun l e => insertPend { e with due := x.replayAt + e.due } l) x.pend }

/-- A command with the result that the engine holds for it, as far as its chunks have been consumed (R171): one that has not come to
c+12 starts from the tile as what is in flight will leave it. -/
def MCmd.heldSums (m : MCmd) (c : Core) (slot : Nat) : MCmd :=
  if m.sums = [] then m.startSums ((c.unheld slot).landAhead slot (m.issued + 12)) else m

/-- The image of a context as it stands on a core (R237): its records are those of the queue and those given that still wait. -/
def Core.imageOf (c : Core) (seq rank slot frame : Nat) (x : Ctx) (waiting : List Record) (last : Bool) : CtxImage :=
  { launch := x.launch, seq := seq, rank := rank, slot := slot, frame := frame, ctx := x
    ops := c.ops.filter (fun o => o.tag = x.tag), cmds := c.cmds.filter (fun m => m.ctx = slot ∧ m.discarded = false)
    tiles := (List.range x.tileCount).map (fun i => c.tile (x.tileBase + i))
    events := c.events.filter (addressed slot) ++ waiting, rangeSaved := last }

/-- PREEMPTION (R236): the results due at its next bundle land (R224), its records leave the queue and its completions go on (R321),
the context is captured, and its image written; the image keeps which windows are exchanged, and A-space as the names reach it (R315). A SYNC's freeze for it ends (R364). The slot and its tiles stay taken until the write
has drained, after a time that is open (DESIGN CHOICE, Log 6). -/
def State.saveCtx (s : State) (rank slot : Nat) : State :=
  let c0 := (({ s with cur := rank } : State).landCtx slot).core rank
  let waiting := (c0.held.filter (fun h => addressed slot h.record)).map (fun h => (c0.stamp s.wall h).record)
  let c := ((c0.letGo (fun h => addressed slot h.record)).barriersDue).normaliseAll slot
  let x : Ctx := { (c.ctx slot).mergeFlags with windows := (c0.ctx slot).windows, syncSaved := c.syncSave slot, svcHeld := false, svcFor := false }
  let ids := match s.launchOf x.launch with
    | some l => (l.seq, l.record.id)
    | none => (0, 0)
  let last := !s.launchStays rank x.launch slot
  let range := s.rangeOf x.launch
  let saved := c.rangeImage x.launch rank range.1 range.2
  let f := s.frameFor x
  let image := c.imageOf ids.1 rank slot f.1 { x with life := .live } waiting last
  let c1 : Core := { c with
    ops := c.ops.filter (fun o => o.tag ≠ x.tag)
    cmds := (c.cmds.filter (fun m => m.ctx ≠ slot ∨ m.discarded)).map (fun m => if m.ctx = slot then { m with ctx := 5 } else m)
    events := c.events.filter (fun r => !addressed slot r)
    sync := c.sync.filter (fun w => w.ctx ≠ slot) }
  let c2 := c1.setCtx slot { x with windows := (c.ctx slot).windows, wait := none, pend := [], replay := [], after := .none, afterNow := false, engineTraps := [] }
  let s1 := s.setCore rank (if c2.holder = some slot then c2.depart slot else c2)
  let s2 := if f.2 = 0 then s1 else s1.writeFrame f.1 f.2 ids.2 { image with cmds := image.cmds.map (fun m => m.heldSums c slot) } (if last then saved.list range.1 range.2 else [])
  { s2 with
    free := s2.free + 1
    images := s2.images ++ [image]
    ranges := if last then s2.ranges ++ [saved] else s2.ranges
    imageWrites := s2.imageWrites ++ [{ rank := rank, slot := slot, left := Config.freeNat s2.free }] }

/-- Contexts that can be saved are saved. -/
def State.saves (s : State) : State :=
  s.cores.foldl (fun t c => [0, 1, 2, 3].foldl (fun t i =>
    if t.maySave c.1 i && !t.writing c.1 i then t.saveCtx c.1 i else t) t) s

/-- IMAGE_WRITE_DRAINED (R236): the slot and the tiles are free. -/
def State.drainWrites (s : State) : State :=
  let done := s.imageWrites.filter (fun w => w.left = 0)
  let s1 := { s with imageWrites := (s.imageWrites.filter (fun w => w.left ≠ 0)).map (fun (w : ImageWrite) => { w with left := w.left - 1 }) }
  done.foldl (fun t w => t.setCore w.rank ((t.core w.rank).setCtx w.slot {})) s1

/-! ### Resuming (R237, R364) -/

/-- The tile ranges held on a core by contexts that the predicate keeps. -/
def Core.tilesHeld (c : Core) (keeps : Nat → Bool) : List (Nat × Nat) :=
  ([0, 1, 2, 3].filter (fun i => c.holdsTiles i && keeps i && decide ((c.ctx i).tileCount ≠ 0))).map (fun i =>
    ((c.ctx i).tileBase, (c.ctx i).tileCount))

/-- The lowest even tile at which `n` tiles are free (R249). -/
def freeTiles (held : List (Nat × Nat)) (n : Nat) : Option Nat :=
  ((List.range 32).map (fun i => 2 * i)).find? (fun b =>
    decide (b + n ≤ 64) && held.all (fun h => decide (h.1 + h.2 ≤ b ∨ b + n ≤ h.1)))

/-- Ranges for `k` contexts of `n` tiles each. -/
def tilePlan (held : List (Nat × Nat)) (n : Nat) : Nat → Option (List Nat)
  | 0 => some []
  | k + 1 =>
    if n = 0 then (tilePlan held n k).map (fun l => 0 :: l)
    else match freeTiles held n with
      | none => none
      | some b => (tilePlan ((b, n) :: held) n k).map (fun l => b :: l)

/-- The A ranges that placed launches hold on a core; a launch all of whose contexts have been saved from it holds none
there, nor does one that the predicate drops. -/
def State.rangesHeld (s : State) (rank : Nat) (drops : Nat → Bool) : List (Nat × Nat) :=
  (s.launches.filter (fun l => l.cores.contains rank && decide (l.phase ≠ .pool) && !s.rangeAway l.key rank && !drops l.key)).map
    (fun l => l.record.aRange)

/-- An A range is disjoint from others. -/
def rangeFree (r : Nat × Nat) (l : List (Nat × Nat)) : Bool := l.all (fun h => decide (h.2 ≤ r.1 ∨ r.2 ≤ h.1))

/-- A core can serve: neither leased nor retired (R372). -/
def State.inService (s : State) (rank : Nat) : Bool :=
  let u := s.unit (coreUnit rank)
  !u.leased && decide (u.state ≠ .retired)

/-- A core belongs to a partition (R372, R409). -/
def State.coreOf (s : State) (part rank : Nat) : Bool := (s.part part).cores.getLsbD (rank / 8)

/-- The free slot and the tiles for an image on a core, if it can resume there. -/
def State.resumePlace (s : State) (m : CtxImage) (l : Launch) (rank : Nat) : Option (Nat × Nat) :=
  let c := s.core rank
  let away := s.rangeAway l.key m.rank
  match [0, 1, 2, 3].find? (fun i => decide ((c.ctx i).life = .free)), tilePlan (c.tilesHeld (fun _ => true)) l.record.accn 1 with
  | some slot, some (b :: _) =>
    if s.inService rank && (!away || rangeFree l.record.aRange (s.rangesHeld rank (fun k => decide (k = l.key)))) then some (slot, b)
    else none
  | _, _ => none

/-- Where a launch's context that left a rank runs now. -/
def Launch.home (l : Launch) (rank : Nat) : Nat := if l.cores.contains rank then rank else l.moves.get rank rank

/-- The slots of CO_GROUPS that hold groups of a launch on a core. -/
def State.slotsOf (s : State) (key rank : Nat) : List Nat :=
  (List.range 4).filter (fun i =>
    let g := groupSlot (s.core rank).groups i
    decide (g ≠ 255 ∧ (s.group g).launch = key))

/-- A spare core for what a launch had at a rank: the lowest of the partition that it does not use and that can take the
image and the group slots (R237, R364). -/
def State.spareCore (s : State) (m : CtxImage) (l : Launch) : Option Nat :=
  let mine := s.slotsOf l.key (l.home m.rank)
  (List.range 512).find? (fun r => s.coreOf l.part r && !l.cores.contains r && (s.resumePlace m l r).isSome
    && mine.all (fun i => decide (groupSlot (s.core r).groups i = 255)))

/-- The group memberships of a launch's rank move to the same slots of another core in one cycle (R364). -/
def State.moveGroups (s : State) (key from_ to_ : Nat) : State :=
  (s.slotsOf key from_).foldl (fun t i =>
    let g := groupSlot (t.core from_).groups i
    let e := t.group g
    let move := fun (b : BitVec 512) => setBit (setBit b to_ (b.getLsbD from_)) from_ false
    let t1 := t.setGroup g { e with members := move e.members, arrived := move e.arrived }
    let t2 := t1.setCore from_ { t1.core from_ with groups := clearGroup (t1.core from_).groups g }
    t2.setCore to_ { t2.core to_ with groups := putGroup (t2.core to_).groups i g }) s

/-- A launch has moved what it had at a rank to a spare core. -/
def Launch.move (l : Launch) (from_ to_ : Nat) : Launch :=
  { l with
    cores := l.cores.map (fun r => if r = from_ then to_ else r)
    moves := Map.put (l.moves.map (fun (e : Nat × Nat) => if e.2 = from_ then (e.1, to_) else e)) from_ to_ }

/-- Put back a launch's A range and the I-space of its core (R236, R404). -/
def Core.restoreRange (c : Core) (r : RangeImage) (lo hi : Nat) : Core :=
  let back := fun {α : Type} (m old : Map α) (lo hi : Nat) => old.foldl (fun m e => m.put e.1 e.2) (m.clearRange lo hi)
  { c with
    aspace := back c.aspace r.bytes lo hi, full := back c.full r.full (lo / 4) (hi / 4)
    apoison := back c.apoison r.poison (lo / 4) (hi / 4), ispace := r.ispace, ipoison := r.ipoison, fetchBuf := [] }

/-- The frames of a window that was exchanged change places as it is restored: every name reaches what it reached (R315). -/
def Core.exchange (c : Core) (slot w : Nat) : Core :=
  match (c.ctx slot).windows.find w with
  | none => c
  | some v =>
    if !v.exchanged then c
    else { c with aspace := swapRange c.aspace v.base v.partner v.size
                  full := swapRange c.full (v.base / 4) (v.partner / 4) (v.size / 4)
                  apoison := swapRange c.apoison (v.base / 4) (v.partner / 4) (v.size / 4) }

/-- A record readdressed to another slot. -/
def Record.toSlot (r : Record) (slot : Nat) : Record :=
  (r &&& ~~~(0x700#128)) ||| (BitVec.ofNat 128 (slot % 8) <<< 8)

/-- Numbers of results and commands moved past those a core has given. -/
def Pend.shift (e : Pend) (k : Nat) : Pend :=
  { e with seq := e.seq + k, writes := e.writes.map (fun w => match w with
      | .commit i => RegWrite.commit (i + k)
      | w => w) }

/-- The number after the last a context's results and commands bear. -/
def lastSeq (es : List Pend) (ms : List MCmd) : Nat :=
  (es.map Pend.seq ++ ms.map MCmd.id).foldl (fun n k => max n (k + 1)) 0

/-- The tile numbers of results in flight, for a context whose range begins elsewhere now. -/
def RegWrite.retile (w : RegWrite) (old new_ : Nat) : RegWrite :=
  match w with
  | .accRow t row ty ls => .accRow (t - old + new_) row ty ls
  | .mzero t f sc => .mzero (t - old + new_) f sc
  | w => w

/-- An operation that copies into the I-space of its own core does so where it is issued again (R187, R189). A WPROG or WHASH of plain rows
keeps the W-space that it named when it issued (DESIGN CHOICE, Log 65). -/
def CKind.onCore (k : CKind) (from_ to_ : Nat) : CKind :=
  match k with
  | .cpy w sh crc true =>
    if (copyLoc w.dst).rank = from_ then
      .cpy { w with dst := (w.dst &&& ~~~(0x1FF#64 <<< 51)) ||| (BitVec.ofNat 64 to_ <<< 51) } sh crc true
    else k
  | k => k

/-- CONTEXT_RESUME (R237): the image is restored in a slot of a core, its operations are issued again in their order before
any bundle, and the context becomes ready; a SYNC it waited in freezes the core again (R364). The operations take their places in the
engines' queues whether or not 32 are there (R184; DESIGN CHOICE, Log 65). -/
def State.resumeCtx (s : State) (m : CtxImage) (l : Launch) (rank slot tile : Nat) : State :=
  let size := fun (i : CtxImage) => (s.frameFor i.ctx).2
  let away := s.ranges.find? (fun r => r.launch = l.key ∧ r.rank = m.rank)
  let c0 := s.core rank
  let c1 := match away with
    | some r => c0.restoreRange (s.readRange size l.record.aRange.1 l.record.aRange.2 r) l.record.aRange.1 l.record.aRange.2
    | none => c0
  let m := if m.frame = 0 then m else s.readImageBack (size m) m
  let x0 := m.ctx
  let k := c1.seq
  let fix := fun (l : List Pend) => l.map (fun e =>
    let d := Pend.shift e k
    ({ d with writes := d.writes.map (fun w => w.retile m.ctx.tileBase tile) } : Pend))
  let ops := m.ops.mapIdx (fun i (o : COp) => ({ o with
    id := c1.nextOp + i, ctx := slot, issued := s.wall, pages := [], kind := o.kind.onCore m.rank rank } : COp))
  let before := c1.nextOp + m.ops.length
  let earlier := (m.ops.filter (fun o => decide (o.id < m.ctx.trapOp))).length
  let x : Ctx := { x0 with
    life := .live, tileBase := tile, pend := fix x0.pend, replay := fix x0.replay, syncSaved := none
    trapOp := c1.nextOp + earlier, trapSeq := m.ctx.trapSeq + k
    wait := match m.ctx.wait with
      | some (.wprogs _) => some (.wprogs before)
      | some (.ifence _ n) => some (.ifence before n)
      | w => w }
  let sync := c1.sync ++ (m.ctx.syncSaved.map (fun v =>
    ({ group := v.group, ctx := slot, issued := v.issued, arrived := v.arrived, release := v.release } : SyncWait))).toList
  let c2 : Core := { c1.setCtx slot x with
    seq := k + lastSeq (m.ctx.pend ++ m.ctx.replay) m.cmds
    ops := c1.ops ++ ops, nextOp := before
    cmds := c1.cmds ++ m.cmds.map (fun (d : MCmd) =>
      { d with id := d.id + k, ctx := slot, pages := [], tile := d.tile - m.ctx.tileBase + tile })
    sync := sync }
  let c3 := (m.tiles.zipIdx).foldl (fun c t => c.setTile (tile + t.2) t.1) c2
  let c4 := (m.events ++ m.late).foldl (fun (c : Core) r => c.enqueue { record := Record.toSlot r slot, upd := none, op := none }) c3
  let s1 := s.setCore rank ([3, 2, 1, 0].foldl (fun c w => c.exchange slot w) c4)
  { s1 with
    images := s1.images.filter (fun i => i.ctx.tag ≠ m.ctx.tag)
    ranges := s1.ranges.filter (fun r => ¬ (r.launch = l.key ∧ r.rank = m.rank)) }

/-- Resume an image where it can, on its core or, when that one is leased or retired, on a spare core; `none` where it must
wait. What the streams of every context of the rank wrote on the core it leaves is visible before the first resumes elsewhere (R187,
R321; DEDUCED, Log 62). -/
def State.resumeImage (s : State) (m : CtxImage) (l : Launch) : Option State :=
  let home := l.home m.rank
  if s.inService home then (s.resumePlace m l home).map (fun p => s.resumeCtx m l home p.1 p.2)
  else match s.spareCore m l with
    | none => none
    | some r =>
      let mine := s.images.filter (fun i => i.launch = l.key ∧ l.home i.rank = home)
      let keys := mine.flatMap (fun i => (List.range 16).map (fun k => i.ctx.tag * 16 + k))
      let s1 := (s.flushStreams home keys).moveGroups l.key home r
      let l1 := l.move home r
      let s2 := { s1 with launches := s1.launches.map (fun (k : Launch) => if k.key = l.key then l1 else k) }
      (s2.resumePlace m l1 r).map (fun (p : Nat × Nat) => s2.resumeCtx m l1 r p.1 p.2)

end Sys2Proof.Machine
end

