-- ==== Sys2Proof/Machine/Pavilion.lean ====
section
/-! DEFINITION. The Pavilion (R217, R218, R249, R353, R368 to R375): what fits, the choice of victims, placement, the start of
contexts, completion and release. -/
namespace Sys2Proof.Machine
open Sys2Proof

/-! ### What fits (R372, R373) -/

/-- A launch's contexts on a core are all dropped or have ended. -/
def Core.launchGone (c : Core) (key : Nat) (drop : Nat → Bool) : Bool :=
  [0, 1, 2, 3].any (fun i => decide ((c.ctx i).launch = key ∧ (c.ctx i).life ≠ .free))
    && [0, 1, 2, 3].all (fun i => decide ((c.ctx i).life = .free ∨ (c.ctx i).launch ≠ key) || (c.ctx i).ended || drop i)
    && [0, 1, 2, 3].any (fun i => drop i && decide ((c.ctx i).launch = key))

/-- The slots that are free, or would be without the contexts dropped. -/
def Core.slotsFor (c : Core) (drop : Nat → Bool) : List Nat :=
  [0, 1, 2, 3].filter (fun i => decide ((c.ctx i).life = .free) || drop i)

/-- Slots, tiles and A range of a record are to be had on a core, without the contexts dropped. -/
def State.coreFits (s : State) (r : LaunchRec) (rank : Nat) (drop : Nat → Bool) : Bool :=
  let c := s.core rank
  decide (r.ctxs ≤ (c.slotsFor drop).length) && (tilePlan (c.tilesHeld (fun i => !drop i)) r.accn r.ctxs).isSome
    && rangeFree r.aRange (s.rangesHeld rank (fun k => c.launchGone k drop))

/-- A core is being saved from, in a slot: the slot counts as one that will be free. -/
def Core.savingSlot (c : Core) (i : Nat) : Bool := decide ((c.ctx i).life = .saving)

/-- `a` is a victim before `b` (R236, R284): lower priority, later start, lower slot. -/
def victimBefore (c : Core) (a b : Nat) : Bool :=
  let x := c.ctx a
  let y := c.ctx b
  decide (x.prio.toNat < y.prio.toNat ∨ (x.prio.toNat = y.prio.toNat ∧ (y.startedAt < x.startedAt
    ∨ (y.startedAt = x.startedAt ∧ a < b))))

/-- Insert in the order of victims. -/
def insertVictim (c : Core) (a : Nat) : List Nat → List Nat
  | [] => [a]
  | b :: rest => if victimBefore c a b then a :: b :: rest else b :: insertVictim c a rest

/-- The contexts that a launch of a priority may pre-empt on a core, in order. -/
def Core.candidates (c : Core) (prio : Nat) : List Nat :=
  ([0, 1, 2, 3].filter (fun i => decide ((c.ctx i).life = .live ∧ (c.ctx i).prio.toNat < prio))).foldl
    (fun l i => insertVictim c i l) []

/-- The shortest run of candidates whose pre-emption lets the record fit on a core. -/
def State.victimsOn (s : State) (r : LaunchRec) (rank : Nat) : Option (List Nat) :=
  let c := s.core rank
  let cand := c.candidates r.prio
  ((List.range (cand.length + 1)).map (fun n => cand.take n)).find? (fun v =>
    s.coreFits r rank (fun i => v.contains i || c.savingSlot i))

/-- The frames in use in a partition's image pool: position and size in units of 64 KiB. -/
def State.framesUsed (s : State) (part : Nat) : List (Nat × Nat) :=
  (s.launches.filter (fun l => l.part = part)).flatMap (fun l => l.frames.map (fun f =>
    ((f.base - (s.part part).imgpool.toNat) / 65536, f.size / 65536)))

/-- The lowest free position of a pool for a run of units. -/
def freeRun (used : List (Nat × Nat)) (total n : Nat) : Option Nat :=
  ((0 :: used.map (fun u => u.1 + u.2)).filter (fun b =>
    decide (b + n ≤ total) && used.all (fun u => decide (u.1 + u.2 ≤ b ∨ b + n ≤ u.1)))).foldl
      (fun r b => match r with
        | none => some b
        | some m => some (min m b)) none

/-- Frames for a list of contexts (R372). -/
def State.framePlan (s : State) (part units : Nat) : List (Nat × Nat) → List (Nat × Nat) → Option (List Frame)
  | [], _ => some []
  | k :: rest, used =>
    match freeRun used (s.part part).imgsize.toNat units with
    | none => none
    | some b => (s.framePlan part units rest ((b, units) :: used)).map (fun l =>
        { rank := k.1, launchCtx := k.2, base := (s.part part).imgpool.toNat + b * 65536, size := units * 65536 } :: l)

/-- The contexts of a launch on cores: rank and launch context number. -/
def LaunchRec.contexts (r : LaunchRec) (cores : List Nat) : List (Nat × Nat) :=
  cores.flatMap (fun k => (List.range r.ctxs).map (fun i => (k, i)))

/-- What the Pavilion finds for a launch that it considers. -/
inductive Fit where
  | invalid
  | place (cores : List Nat) (frames : List Frame)
  | preempt (victims : List (Nat × Nat))
  | wait
  deriving DecidableEq, Repr

/-- The core it takes for a record that names none: the lowest of the partition that meets the conditions. -/
def State.anyCore (s : State) (r : LaunchRec) : List Nat :=
  ((List.range 512).find? (fun k => s.coreOf r.part k && s.inService k && s.coreFits r k (fun _ => false))).toList

/-- R372 and R373 for one launch. -/
def State.fit (s : State) (r : LaunchRec) : Fit :=
  let units := r.frameSize / 65536
  let count := if r.free then 1 else r.named.length
  if !r.free && r.named.any (fun k => !s.coreOf r.part k || decide ((s.unit (coreUnit k)).state = .retired)) then .invalid
  else if (s.part r.part).imgsize.toNat < count * r.ctxs * units then .invalid
  else
    let cores := if r.free then s.anyCore r else r.named
    if cores = [] then .wait
    else if !cores.all s.inService then .wait
    else match s.framePlan r.part units (r.contexts cores) (s.framesUsed r.part) with
      | none => .wait
      | some frames =>
        if cores.all (fun k => s.coreFits r k (fun _ => false)) then .place cores frames
        else if cores.all (fun k => (s.victimsOn r k).isSome) then
          .preempt (cores.flatMap (fun k => ((s.victimsOn r k).getD []).map (fun i => (k, i))))
        else .wait

/-! ### Placement (R218, R353, R374) -/

/-- A launch is replaced. -/
def State.setLaunch (s : State) (l : Launch) : State :=
  { s with launches := s.launches.map (fun (k : Launch) => if k.key = l.key then l else k) }

/-- A context as its launch places it (R218): every other register and binding holds its value at the start of a context. -/
def LaunchRec.context (r : LaunchRec) (key rank i tile tag : Nat) : Ctx :=
  let entry := 4 * r.entries.getD i 0
  { a := if r.sps.getD i 0 = 0 then [] else [(0, BitVec.ofNat 64 (r.sps.getD i 0))]
    stkLim := BitVec.ofNat 32 (r.stklims.getD i 0) &&& 0x7FFFF0#32
    heapBase := r.heapBase &&& 0x000FFFFFFFFF0000#64, heapLim := r.heapLim &&& 0x000FFFFFFFFF0000#64
    heapOff := r.heapOff &&& 0x000FFFFFFFFF0000#64
    prio := BitVec.ofNat 32 r.prio, priv := r.priv, pc := entry, liveHalf := entry / 0x20000, life := .placed
    launch := key, launchCtx := i, originRank := rank, part := r.part, tileBase := tile, tileCount := r.accn, tag := tag }

/-- A launch's contexts take the lowest free slots and tiles of a core, in ascending order. -/
def State.placeOn (s : State) (l : Launch) (rank : Nat) : State :=
  let c := s.core rank
  let slots := c.slotsFor (fun _ => false)
  let tiles := (tilePlan (c.tilesHeld (fun _ => true)) l.record.accn l.record.ctxs).getD []
  (List.range l.record.ctxs).foldl (fun t i =>
    ({ t with nextTag := t.nextTag + 1 } : State).setCore rank ((t.core rank).setCtx (slots.getD i 0)
      (l.record.context l.key rank i (tiles.getD i 0) t.nextTag))) s

/-- Fill the group table and the cores' slots from a definition (R353, R361). -/
def State.defineGroup (s : State) (key id : Nat) (d : DefEntry) : State :=
  let s1 := s.setGroup d.number { launch := key, id := id, valid := true, timeout := d.timeout, expn := (membersOf d.members).length,
                                  members := d.members }
  (membersOf d.members).foldl (fun t r => t.setCore r { t.core r with groups := addGroup (t.core r).groups d.number }) s1

/-- A launch that is refused leaves the pool with status INVALID, or CANCELLED. -/
def State.refuse (s : State) (l : Launch) (status : Nat) : State :=
  { s.complete l.part l.record.id status l.record.noticeq with launches := s.launches.filter (fun k => k.key ≠ l.key) }

/-- Place a launch on cores (R374): what it takes is reserved, its groups are filled, and its contexts start at the end of the
placement; a launch with a bad definition or schedule is INVALID (R316, R353). -/
def State.place (s : State) (l : Launch) (cores : List Nat) (frames : List Frame) : State :=
  let r := l.record
  match s.readDefs r with
  | none => s.refuse l 3
  | some defs =>
    if !s.defsOk defs cores then s.refuse l 3
    else match s.readSchedule r defs cores with
      | none => s.refuse l 3
      | some sched =>
        let l1 := { l with
          phase := .placing (s.wall + 64 + (r.imglen + 63) / 64 + 16 * r.ngrp), cores := cores, frames := frames
          groups := (groupsDefined defs).map DefEntry.number, schedule := sched }
        let s1 := (groupsDefined defs).foldl (fun t d => t.defineGroup l.key r.id d) (s.setLaunch l1)
        cores.foldl (fun t k => t.placeOn l1 k) s1

/-! ### Completion and release (R369, R375) -/

/-- A context that has given up its slot: its registers hold what they held (R213, R324), and nothing else of it is left. -/
def Ctx.vacated (x : Ctx) : Ctx :=
  { s := x.s, a := x.a, p := x.p, v := x.v, vq := x.vq, q := x.q, n := x.n, fmt := x.fmt, lfmt := x.lfmt, mcfg := x.mcfg,
    mscale := x.mscale, mlat := x.mlat, mlatBase := x.mlatBase, trapVec := x.trapVec, trapCause := x.trapCause, trapPc := x.trapPc,
    trapInfo := x.trapInfo, stkLim := x.stkLim, fpFlags := x.fpFlags, fpPend := x.fpPend, heapBase := x.heapBase,
    heapLim := x.heapLim, heapOff := x.heapOff, rowProg := x.rowProg, prio := x.prio, inTrap := x.inTrap, priv := x.priv,
    poison := x.poison, pc := x.pc, clock := x.clock, returns := x.returns }

/-- A slot of a core is freed: its windows agree with their names, its records go (R99), and only its registers keep their
values, until a context starts there (R375). -/
def Core.freeSlot (c : Core) (slot : Nat) : Core :=
  let c1 := c.normaliseAll slot
  { c1.setCtx slot (c1.ctx slot).vacated with
    cmds := c1.cmds.map (fun m => if m.ctx = slot then { m with ctx := 5, discarded := true } else m)
    events := c1.events.filter (fun r => !addressed slot r), held := c1.held.filter (fun h => !addressed slot h.record) }

/-- Release what a launch holds, in one step (R375). -/
def State.release (s : State) (l : Launch) : State :=
  let s1 := l.groups.foldl (fun t g =>
    { t with
      groups := Map.erase t.groups g
      groupUpds := t.groupUpds.filter (fun u => match u with
        | .arrive k _ => decide (k ≠ g)
        | .drop k _ => decide (k ≠ g)
        | .withdraw k _ => decide (k ≠ g))
      cores := t.cores.map (fun (c : Nat × Core) =>
        if (t.group g).launch = l.key then (c.1, { c.2 with groups := clearGroup c.2.groups g }) else c) }) s
  { s1 with
    cores := s1.cores.map (fun (c : Nat × Core) => (c.1, [0, 1, 2, 3].foldl (fun d i =>
      if (d.ctx i).life ≠ .free ∧ (d.ctx i).launch = l.key then d.freeSlot i else d) c.2))
    launches := s1.launches.filter (fun k => k.key ≠ l.key)
    images := s1.images.filter (fun m => m.launch ≠ l.key)
    ranges := s1.ranges.filter (fun m => m.launch ≠ l.key)
    imageWrites := s1.imageWrites.filter (fun w => ((s1.core w.rank).ctx w.slot).launch ≠ l.key)
    staging := s1.staging.filter (fun e => e.launch ≠ l.key)
    cursors := s1.cursors.filter (fun e => e.launch ≠ l.key) }

/-- Every context of a launch has halted, left or stopped, and has drained (R369). -/
def State.launchEnded (s : State) (l : Launch) : Bool :=
  s.images.all (fun m => decide (m.launch ≠ l.key))
    && s.cores.all (fun c => [0, 1, 2, 3].all (fun i =>
      let x := c.2.ctx i
      decide (x.life = .free ∨ x.launch ≠ l.key) || (decide (x.life = .halted ∨ x.life = .left ∨ x.life = .stopped) && s.ctxDrained c.1 i)))

/-- Some context of a launch is stopped. -/
def State.launchStopped (s : State) (l : Launch) : Bool :=
  s.cores.any (fun c => [0, 1, 2, 3].any (fun i => decide ((c.2.ctx i).life = .stopped ∧ (c.2.ctx i).launch = l.key)))

/-- LAUNCH_COMPLETION (R369): DONE, or FAULT while any context is stopped; what it held is released in that cycle. -/
def State.completeLaunch (s : State) (l : Launch) : State :=
  (s.complete l.part l.record.id (if s.launchStopped l then 2 else 1) l.record.noticeq).release l

/-- A scrub of a launch's partition is under way: its record comes with the scrub's end (R416). -/
def State.scrubbing (s : State) (l : Launch) : Bool := (s.part l.part).scrub

/-- Every launch that has ended. -/
def State.completions (s : State) : State :=
  s.launches.foldl (fun t l => if l.phase = .running ∧ t.scrubbing l = false ∧ t.launchEnded l then t.completeLaunch l else t) s

/-! ### The start of contexts (R218, R249, R374) -/

/-- Load an image into a core's I-space from offset 0, word by word, each with its own poison (R217, R408). -/
def Core.loadImage (c : Core) (bs : List (Byte × Bool)) : Core :=
  { (List.range ((bs.length + 3) / 4)).foldl (fun c i => c.iStore (4 * i) ((bs.drop (4 * i)).take 4)) c with fetchBuf := [] }

/-- The bytes of a launch's image with their poison, or `none` where it cannot be read in full. -/
def State.readImage (s : State) (r : LaunchRec) : Option (List (Byte × Bool)) :=
  ((List.range r.imglen).map (fun i => s.pageAddr r.part (r.image + i))).foldr (fun a rest => match a, rest with
    | some pa, some l => some ((s.gByte pa, linePoison s.gpoison pa) :: l)
    | _, _ => none) (some [])

/-- The contexts of a launch on a core start (R218, R249): tiles cleared, ready. -/
def Core.startSlots (c : Core) (key wall : Nat) : Core :=
  [0, 1, 2, 3].foldl (fun c i =>
    let x := c.ctx i
    if x.life = .placed ∧ x.launch = key then
      let c1 := (List.range x.tileCount).foldl (fun c t => c.setTile (x.tileBase + t) {}) c
      c1.setCtx i { x with life := .live, startedAt := wall }
    else c) c

/-- CONTEXT_START (R284, R374): at the end of its placement all contexts of a launch start in one cycle; where its image
cannot be read none does, and it is INVALID. -/
def State.startLaunch (s : State) (l : Launch) : State :=
  match s.readImage l.record with
  | none => (s.complete l.part l.record.id 3 l.record.noticeq).release l
  | some bs =>
    (l.cores.foldl (fun t k => t.setCore k (((t.core k).loadImage bs).startSlots l.key (t.wall + 1))) s).setLaunch
      { l with phase := .running }

/-- Launches whose placement ends with this cycle: their contexts are ready in the next, `p` (R374). -/
def State.starts (s : State) : State :=
  s.launches.foldl (fun t l => match l.phase with
    | .placing p => if p ≤ t.wall + 1 ∧ t.scrubbing l = false then t.startLaunch l else t
    | _ => t) s

/-! ### The placement pass (R370, R371, R373) -/

/-- `a` is considered before `b`: higher priority, then lower sequence number. -/
def Launch.before (a b : Launch) : Bool :=
  decide (b.record.prio < a.record.prio ∨ (b.record.prio = a.record.prio ∧ a.seq < b.seq))

/-- Insert in the order of consideration. -/
def insertLaunch (a : Launch) : List Launch → List Launch
  | [] => [a]
  | b :: rest => if a.before b then a :: b :: rest else b :: insertLaunch a rest

/-- The launches that the Pavilion considers: those in the pool, and those of which it holds images. -/
def State.considered (s : State) : List Launch :=
  (s.launches.filter (fun l => !s.scrubbing l && (decide (l.phase = .pool) || s.images.any (fun m => decide (m.launch = l.key))))).foldl
    (fun r l => insertLaunch l r) []

/-- Choose contexts for pre-emption. -/
def State.markVictims (s : State) (vs : List (Nat × Nat)) : State :=
  vs.foldl (fun t v => t.setCore v.1 ((t.core v.1).setCtx v.2 { (t.core v.1).ctx v.2 with life := .saving })) s

/-- Resume the images of a launch that can be; whether any is left. -/
def State.resumeLaunch (s : State) (key : Nat) : State × Bool :=
  let r := (s.images.filter (fun m => m.launch = key)).foldl (fun (p : State) m =>
    if p.writing m.rank m.slot then p
    else match p.launchOf key with
      | none => p
      | some l => (p.resumeImage m l).getD p) s
  (r, r.images.any (fun m => decide (m.launch = key)))

/-- Consider one launch; `blocked` is the priority at and below which nothing is placed. -/
def State.consider (s : State) (blocked : Option Nat) (l : Launch) : State × Option Nat :=
  if (match blocked with
      | some p => decide (l.record.prio ≤ p)
      | none => false) then (s, blocked)
  else if l.phase = .pool then
    if s.depFailed l then (s, blocked)
    else if !s.depsMet l then (s, blocked)
    else match s.fit l.record with
      | .invalid => (s.refuse l 3, blocked)
      | .place cores frames => (s.place l cores frames, blocked)
      | .preempt vs => (s.markVictims vs, some l.record.prio)
      | .wait => (s, some l.record.prio)
  else
    let r := s.resumeLaunch l.key
    (r.1, if r.2 then some l.record.prio else blocked)

/-- PLACEMENT_PASS (R371): launches with a failed dependence are CANCELLED (R370), and the others are considered in order. -/
def State.placementPass (s : State) : State :=
  let s1 := s.pool.foldl (fun t l => if t.scrubbing l = false ∧ t.depFailed l then t.refuse l 4 else t) s
  (s1.considered.foldl (fun p l => p.1.consider p.2 l) (s1, none)).1

/-- The Pavilion's part of a cycle (R371): it considers every 256 cycles, once the start has completed (R277). -/
def State.pavilionCycle (s : State) : State :=
  let s1 := s.starts.completions
  let s2 := if s1.launchQueues = [] then s1
    else { (if Config.freeBool s1.free then s1.popDescriptor else s1) with free := s1.free + 1 }
  if s2.wall % 256 = 0 then s2.placementPass else s2

end Sys2Proof.Machine
end

