-- ==== Sys2Proof/Machine/Lodge.lean ====
section
/-! DEFINITION. The Lodge (R354, R376 to R390): the rotation and early leases, the limits, notices, grants, the scrub and the
test of a unit, its return and its retirement. -/
namespace Sys2Proof.Machine
open Sys2Proof

/-! ### The limits (R378) -/

/-- The units under lease. -/
def State.leasedUnits (s : State) : List Nat := (s.units.filter (fun u => u.2.leased)).map Prod.fst

/-- No group that holds a core has another member under lease, or returned and not yet IDLE (R378, R400). -/
def State.groupSpares (s : State) (rank : Nat) : Bool :=
  s.groups.all (fun g => !g.2.valid || !g.2.members.getLsbD rank
    || s.units.all (fun u => !(u.2.leased || u.2.state == .returned) || decide (unitKind u.1 ≠ 0 ∨ u.1 = rank) || !g.2.members.getLsbD u.1))

/-- A lease of a unit breaks no limit of R378. -/
def State.mayLease (s : State) (id : Nat) : Bool :=
  let others := s.leasedUnits.filter (fun u => unitKind u = unitKind id)
  let clear := match unitKind id with
    | 0 => others.all (fun u => decide (unitDie u ≠ unitDie id)) && s.groupSpares id
    | 1 => others.all (fun u => decide (unitIndex u / 16 ≠ unitIndex id / 16))
    | 2 => others.all (fun u => decide (unitDie u ≠ unitDie id))
    | _ => decide (others = [])
  decide ((s.unit id).state = .idle) && clear

/-! ### Notices (R354, R381, R384) -/

/-- A capacity record: direction 0 OUT, 1 IN, 2 RETIRED. -/
def capacityRecord (dir unit deadline number ctx : Nat) : Record :=
  recordOf (recordWord (dir + 4 * unitKind unit) ctx 3) unit deadline number

/-- The contexts a core holds for a launch, or for any: those that have not ended. -/
def Core.liveSlots (c : Core) (key : Option Nat) : List Nat :=
  [0, 1, 2, 3].filter (fun i => !(c.ctx i).ended && (match key with
    | some k => decide ((c.ctx i).launch = k)
    | none => true))

/-- The launches with a context on a core. -/
def State.launchesOn (s : State) (rank : Nat) : List Nat :=
  dedupNat (((s.core rank).liveSlots none).map (fun i => ((s.core rank).ctx i).launch))

/-- The cores of a launch's groups that hold a core, and the core itself. -/
def State.noticedCores (s : State) (key rank : Nat) : List Nat :=
  dedupNat (rank :: (s.groups.filter (fun g => g.2.valid && decide (g.2.launch = key) && g.2.members.getLsbD rank)).flatMap
    (fun g => membersOf g.2.members))

/-- The contexts that an OUT notice of a core goes to: rank and slot. -/
def State.noticedCtxs (s : State) (rank : Nat) : List (Nat × Nat) :=
  (s.launchesOn rank).flatMap (fun k => (s.noticedCores k rank).flatMap (fun r =>
    ((s.core r).liveSlots (some k)).map (fun i => (r, i))))

/-- A partition owns a core of a die. -/
def State.onDie (s : State) (p die : Nat) : Bool := decide ((s.part p).cores.extractLsb' (8 * die) 8 ≠ 0)

/-- A partition uses a unit that is no core (R384, R419, R425): a W-bank of a core it owns; an L2 slice of a die on which it owns ways; a
channel, with its time slots; a UCIe module of a die on which it owns a core, or of an I/O die; a port, when it reaches another package. -/
def State.partUses (s : State) (p id : Nat) : Bool :=
  let b := s.part p
  let i := unitIndex id
  match unitKind id with
  | 1 => s.coreOf p (i / 16)
  | 2 => decide (b.l2ways ≠ 0) && s.onDie p (i / 16)
  | 3 => decide (b.memslot ≠ 0 ∧ b.mem.extractLsb' 16 11 ≠ 0)
  | 4 => decide (48 ≤ i) || s.onDie p (i / 6)
  | 5 => b.fabpkg.any (fun w => decide (w.2 ≠ 0))
  | _ => false

/-- The launches of the partitions that use a unit that is no core (R384). -/
def State.launchesUsing (s : State) (id : Nat) : List Nat :=
  (s.launches.filter (fun l => decide (l.phase ≠ .pool) && s.partUses l.part id)).map Launch.key

/-- The notice queue of a launch, if it gave one: the name of the queue that has its number. -/
def State.noticeQueue (s : State) (key : Nat) : Option Nat := ((s.launchOf key).bind (fun l => l.record.noticeq)).map s.handleOf

/-- An item for a notice queue (R354). -/
def State.noticeTo (s : State) (q : Nat) (r : Record) : State :=
  { s with notices := s.notices ++ [{ queue := q, bytes := bytesOf r.toNat 16 ++ List.replicate 48 0 }] }

/-- A record for the context of a tag that is in an image, or whose image is being written (R321, R354). -/
def State.recordToImage (s : State) (r : Nat → Record) (tag : Nat) : State :=
  { s with images := s.images.map (fun (m : CtxImage) => if m.ctx.tag = tag then { m with late := m.late ++ [r m.slot] } else m) }

/-- A record for the context in a slot of a core. -/
def State.recordTo (s : State) (r : Nat → Record) (rank slot : Nat) : State :=
  if s.writing rank slot then s.recordToImage r ((s.core rank).ctx slot).tag else s.sendRecord rank slot r

/-- A record for the context of a tag, where it is now: on a core, or in an image. -/
def State.recordToTag (s : State) (r : Nat → Record) (tag : Nat) : State :=
  (s.cores.foldl (fun t c => [0, 1, 2, 3].foldl (fun t i =>
    if (c.2.ctx i).tag = tag ∧ (c.2.ctx i).life ≠ .free ∧ s.writing c.1 i = false then t.sendRecord c.1 i r else t) t) s).recordToImage r tag

/-- The notice at the end of a lease: to every context and every notice queue that had the OUT notice, though the queue's launch has
completed since. -/
def State.endNotice (s : State) (l : Lease) (dir : Nat) : State :=
  let r := fun i => capacityRecord dir l.unit 0 l.number i
  l.queues.foldl (fun t q => t.noticeTo q (r 7)) (l.ctxs.foldl (fun t g => t.recordToTag r g) s)

/-- The service request of a capacity notice (R234): kind 3, of no user slot. No rule gives its details (DEDUCED, Log 40). -/
def State.leaseRequest (s : State) : SvcReq :=
  { kind := 3, slot := 4, s3 := BitVec.ofNat 32 (Config.freeNat s.free), s4 := BitVec.ofNat 32 (Config.freeNat (s.free + 1)),
    s5 := BitVec.ofNat 32 (Config.freeNat (s.free + 2)), s6 := BitVec.ofNat 32 (Config.freeNat (s.free + 3)),
    a2 := BitVec.ofNat 64 (Config.freeNat (s.free + 4)) }

/-- Ask a core's ctxS about the lease of its core; `none` when its queue is full. -/
def State.askLease (s : State) (rank : Nat) : Option State :=
  (s.askService rank s.leaseRequest).map (fun t => { t with free := s.free + 5 })

/-- The Lodge's requests that have waited for room (R234). -/
def State.leaseAsks (s : State) : State :=
  s.leases.foldl (fun t l => if l.asks then
    match t.askLease (unitIndex l.unit) with
    | some u => { u with leases := u.leases.map (fun m => if m.unit = l.unit then { m with asks := false } else m) }
    | none => t
    else t) s

/-! ### The start of a lease (R377, R379, R388) -/

/-- LEASE_START (R377, R379, R380): the lease number is taken and the unit is NOTICED from the next cycle, the notice cycle, in which
the OUT notice is written (R354). How long the preparation of a unit that is no core takes is open (DESIGN CHOICE, Log 6). -/
def State.leaseStart (s : State) (id : Nat) : State :=
  let u := s.unit id
  let lease : Lease := {
    unit := id, number := s.leaseCounter, since := s.wall + 1, deadline := s.wall + 1 + 1250000, left := Config.freeNat s.free
    scrubbed := false, retire := decide (2048 ≤ u.score), queues := [], ctxs := [] }
  { s.setUnit id { u with state := .noticed, lease := s.leaseCounter } with
    free := s.free + 1, leaseCounter := (s.leaseCounter + 1) % 2 ^ 32, leases := s.leases ++ [lease]
    noticesDue := s.noticesDue ++ [{ lease := lease, dir := 0 }] }

/-- The OUT notice of a lease is written (R354), and the ctxS of a leased core is asked. -/
def State.writeOut (s : State) (l : Lease) : State :=
  let core := decide (unitKind l.unit = 0)
  let ctxs := if core then s.noticedCtxs (unitIndex l.unit) else []
  let queues := (if core then s.launchesOn (unitIndex l.unit) else s.launchesUsing l.unit).filterMap s.noticeQueue
  let r := fun i => capacityRecord 0 l.unit (if core then l.deadline else 0) l.number i
  let s1 := { s with leases := s.leases.map (fun (m : Lease) => if m.unit = l.unit then { m with
    queues := queues, ctxs := ctxs.map (fun p => ((s.core p.1).ctx p.2).tag)
    asks := core && decide (16 ≤ (s.core (unitIndex l.unit)).svcQueue.length) } else m) }
  let s2 := queues.foldl (fun t q => t.noticeTo q (r 7)) (ctxs.foldl (fun t p => t.recordTo r p.1 p.2) s1)
  if core then (s2.askLease (unitIndex l.unit)).getD s2 else s2

/-- The capacity notices of this cycle are written. -/
def State.writeNotices (s : State) : State :=
  s.noticesDue.foldl (fun t d => if d.dir = 0 then t.writeOut d.lease else t.endNotice d.lease d.dir) { s with noticesDue := [] }

/-- The notice at the end of a lease, in the cycle in which the unit is RETURNED or RETIRED. -/
def State.noticeEnd (s : State) (l : Lease) (dir : Nat) : State := { s with noticesDue := s.noticesDue ++ [{ lease := l, dir := dir }] }

/-- The limits allow a lease, and for a channel the reserve can take it now (R384); when it can is open (DESIGN CHOICE, Log 6). -/
def State.leaseFits (s : State) (id : Nat) : Bool := s.mayLease id && (decide (unitKind id ≠ 3) || Config.freeBool s.free)

/-- Start the leases of a list that the limits allow now; the others are held back. -/
def State.leaseThose (s : State) (l : List Nat) : State × List Nat :=
  l.foldl (fun p id => if p.1.leaseFits id then (p.1.leaseStart id, p.2) else (p.1, p.2 ++ [id])) (s, [])

/-- Early leases (R377, R388): units with EARLY set, ahead of the rotation. -/
def State.earlyLeases (s : State) : State :=
  (s.leaseThose ((s.units.filter (fun u => u.2.early && decide (u.2.state = .idle ∧ unitKind u.1 < 6))).map Prod.fst)).1

/-- Routine leases that R378 has delayed; a unit that has been retired since is passed over. -/
def State.delayedLeases (s : State) : State :=
  let r := s.leaseThose (s.rotDelayed.filter (fun id => (s.unit id).state ≠ .retired))
  { r.1 with rotDelayed := r.2 }

/-- Units of kinds 0 to 5 that are not retired. -/
def State.rotationSize (s : State) : Nat :=
  leasable - (s.units.filter (fun u => decide (u.2.state = .retired ∧ unitKind u.1 < 6))).length

/-- The place of the next unit that is not retired, from a place on. -/
def State.rotationFind (s : State) (n : Nat) : Nat → Option Nat
  | 0 => none
  | fuel + 1 => if leasable ≤ n then none
    else if (s.unit (unitNth n)).state = .retired then s.rotationFind (n + 1) fuel else some n

/-- The cycles between two starts (R377), at 1.25 GHz. -/
def State.rotationStep (s : State) : Nat := s.leasePeriod.toNat * 1250000000 / s.rotUnits

/-- The rotation begins, or begins again (R377). -/
def State.rotationBegin (s : State) : State := { s with rotNext := 0, rotUnits := s.rotationSize }

/-- The next routine lease of the rotation, if its time has come. While PERIOD is 0 none starts, and the next start is due at the end of
that time. -/
def State.rotation (s : State) : State :=
  if s.rotUnits = 0 ∨ s.wall < s.rotAt then s
  else if s.leasePeriod = 0 then { s with rotAt := s.wall + 1 }
  else
    let s1 := match s.rotationFind s.rotNext 9000 with
      | some _ => s
      | none => s.rotationBegin
    match s1.rotationFind s1.rotNext 9000 with
    | none => s1
    | some n => { s1 with rotDelayed := s1.rotDelayed ++ [unitNth n], rotNext := n + 1, rotAt := s1.rotAt + s1.rotationStep }

/-! ### Retirement and return (R385, R388, R390) -/

/-- A lane is retired: its port runs at half width from now on (R385). -/
def State.laneRetired (s : State) (id : Nat) : State :=
  let p := unitIndex id / 4
  (s.portWidth p true).setPort p { (s.portWidth p true).port p with retired := (s.port p).retired ++ [unitIndex id % 4] }

/-- A unit is retired: its record is written, and a lane's port runs at half width from now on (R385, R390). -/
def State.retireUnit (s : State) (id cause lease pattern signature : Nat) : State :=
  let s1 := (s.setUnit id { s.unit id with state := .retired }).addRetirement
    { unit := id, cause := cause, score := (s.unit id).score, lease := lease, pattern := pattern, signature := signature,
      time := s.ageMs }
  if unitKind id = 6 then s1.laneRetired id else s1

/-- A lane whose score reaches 2,048 is retired: no lease tests it by itself (R376, R388). -/
def State.lanes (s : State) : State :=
  s.units.foldl (fun t u => if unitKind u.1 = 6 ∧ 2048 ≤ u.2.score ∧ u.2.state ≠ .retired then t.retireUnit u.1 2 0 0 0 else t) s

/-- A lease is over: the unit's state is RETURNED or RETIRED, its port runs at full width again unless a lane is retired. -/
def State.leaseOver (s : State) (l : Lease) : State :=
  let s1 := { s with leases := s.leases.filter (fun m => m.unit ≠ l.unit) }
  if unitKind l.unit = 5 then
    let p := unitIndex l.unit
    let t := s1.portWidth p (!(s1.port p).retired.isEmpty)
    t.setPort p { t.port p with testing := none }
  else s1

/-- The unit returns: the IN notice is written. -/
def State.leaseReturn (s : State) (l : Lease) (u : HealthUnit) : State :=
  ((s.setUnit l.unit { u with state := .returned, tested := true }).noticeEnd l 1).leaseOver l

/-- The unit is retired at the end of its lease: its notice has direction RETIRED. -/
def State.leaseRetire (s : State) (l : Lease) (cause pattern signature : Nat) : State :=
  ((s.retireUnit l.unit cause l.number pattern signature).noticeEnd l 2).leaseOver l

/-- The patterns that test a unit (R389), as the pattern rows of a bank hold them: of its own bank, or of bank 0 of its core; of bank 0
of rank 0 for a unit of the package (DESIGN CHOICE, Log 59). -/
def patternsOf (id : Nat) : List (Nat × List Byte × List Byte) :=
  let i := unitIndex id
  Config.patternsIn (unitKind id)
    (if unitKind id = 0 then Config.patternRow i 0 else if unitKind id = 1 then Config.patternRow (i / 16) (i % 16) else Config.patternRow 0 0)

/-- The runs of a pattern: every slot of a core, V0, V1, C0 and C1 each separately, and once for any other unit (R389). -/
def patternRuns (id : Nat) : Nat := if unitKind id = 0 then 8 else 1

/-- The patterns that a unit fails (R389): the digest of its outputs differs from the expected one in some run; each with its number and
its signature, the first 8 bytes of the digest obtained. What a unit puts out is its own (free). -/
def State.patternFailures (s : State) (id : Nat) : List (Nat × Nat) :=
  (patternsOf id).filterMap (fun p =>
    ((List.range (patternRuns id)).findSome? (fun run =>
      let d := sha384 (Config.testOutput s.free id run p.2.1)
      if d = p.2.2 then none else some (natOfBytes (d.take 8)))).map (fun sig => (p.1 % 65536, sig)))

/-- LEASE_TEST_END (R387, R388): the patterns have run. -/
def State.leaseTestEnd (s : State) (l : Lease) : State :=
  let fails := s.patternFailures l.unit
  let failed := fails.length
  let pattern := (fails.headD (0, 0)).1
  let signature := (fails.headD (0, 0)).2
  let s0 : State := { s with free := s.free + 1 }
  if failed = 0 then
    let u := s0.unit l.unit
    if 2048 ≤ u.score then s0.leaseRetire l 2 0 0
    else s0.leaseReturn l { u with score := u.score / 2, fails := 0, early := false }
  else
    let s1 := s0.addScore l.unit (1024 * failed)
    let u := s1.unit l.unit
    if u.fails ≠ 0 then s1.leaseRetire l 3 pattern signature
    else if 2048 ≤ u.score then s1.leaseRetire l 2 pattern signature
    else s1.leaseReturn l { u with fails := 1 }

/-! ### The lease of a core (R379, R380) -/

/-- Nothing of a user context is left on a core: the last has left, halted, stopped or been pre-empted (R379). -/
def State.coreClear (s : State) (rank : Nat) : Bool :=
  s.imageWrites.all (fun w => decide (w.rank ≠ rank)) && [0, 1, 2, 3].all (fun i =>
    let x := (s.core rank).ctx i
    decide (x.life = .free) || (decide (x.life = .halted ∨ x.life = .left ∨ x.life = .stopped) && s.ctxDrained rank i))

/-- GRANT_DEADLINE (R380): every user context still on the core is pre-empted. -/
def State.deadlinePassed (s : State) (rank : Nat) : State :=
  let c := s.core rank
  s.setCore rank ([0, 1, 2, 3].foldl (fun c i =>
    if (c.ctx i).life = .live then c.setCtx i { c.ctx i with life := .saving } else c) c)

/-- What a scrub leaves of a context slot: its registers are zero; that its context has ended, and whose it was, stays. -/
def Ctx.scrubbed (x : Ctx) : Ctx :=
  { life := x.life, launch := x.launch, launchCtx := x.launchCtx, originRank := x.originRank, part := x.part, tag := x.tag
    dumped := x.dumped, mscale := 0 }

/-- What a scrub leaves of ctxS while it serves a request: its registers are zero like those of every slot, and it goes on from where it
stands (DEDUCED, Log 69). -/
def Ctx.scrubbedServing (x : Ctx) : Ctx :=
  { x.scrubbed with
    priv := x.priv, pc := x.pc, liveHalf := x.liveHalf, owedN := x.owedN, owedB := x.owedB, bubbles := x.bubbles, clock := x.clock,
    wait := x.wait, waitOver := x.waitOver, inTrap := x.inTrap }

/-- LEASE_SCRUB_DONE (R380): lines are written back, and the core's memories, full bits, registers, event queue and replay
buffers are zero; no barrier update of a copy that has completed is left (R418). A request that ctxS serves is not lost. -/
def Core.scrub (c : Core) : Core :=
  { c with
    ctxs := c.ctxs.map (fun (x : Nat × Ctx) => (x.1, if x.1 = 4 ∧ c.svc.isSome = true then x.2.scrubbedServing else x.2.scrubbed))
    barriers := [], ispace := [], ipoison := [], fetchBuf := [], aspace := [], full := [], apoison := [], tiles := [], port := [], cmds := []
    dirty := [], events := [], held := [], handleWait := none, holder := none, entering := none, switchLeft := 0 }

/-- Every write of a core is visible. -/
def State.coreWriteBack (s : State) (rank : Nat) : State :=
  s.flushStreams rank ((s.core rank).gbuf.flatMap GWrite.streams)

/-- The scrub of a core. -/
def State.scrubCore (s : State) (rank : Nat) : State :=
  let t := s.coreWriteBack rank
  t.setCore rank (t.core rank).scrub

/-- A lease with a change. -/
def State.setLease (s : State) (l : Lease) : State :=
  { s with leases := s.leases.map (fun m => if m.unit = l.unit then l else m) }

/-- A lease moves to another state. -/
def State.leaseTo (s : State) (l : Lease) (st : LeaseState) : State := s.setUnit l.unit { s.unit l.unit with state := st }

/-- NOTICED: a core waits for its contexts and its deadline; another unit for its preparation, a W-bank also for the rows that
have started. -/
def State.leaseNoticed (s : State) (l : Lease) : State :=
  let rank := unitIndex l.unit
  if unitKind l.unit = 0 then
    if s.coreClear rank then s.leaseTo l .granted
    else if l.deadline ≤ s.wall then s.deadlinePassed rank else s
  else if l.left ≠ 0 then s.setLease { l with left := l.left - 1 }
  else if unitKind l.unit = 1 ∧ (s.jobAt (rank / 16) (rank % 16)).isSome = true then s
  else s.leaseTo l .granted

/-- GRANTED lasts one cycle; a port then runs at half width. How long the patterns of a unit that is no core take is open. -/
def State.leaseGranted (s : State) (l : Lease) : State :=
  let s1 := { (s.setLease { l with since := s.wall + 1, left := if unitKind l.unit = 5 then 4 else Config.freeNat s.free }).leaseTo l
    .testing with free := s.free + 1 }
  if unitKind l.unit = 5 then
    let t := s1.portWidth (unitIndex l.unit) true
    t.setPort (unitIndex l.unit) { t.port (unitIndex l.unit) with testing := some 0 }
  else s1

/-- A row leaves its bank's correction log. -/
def State.unlog (s : State) (rank row : Nat) : State :=
  let c := s.core rank
  s.setCore rank { c with corrLog := c.corrLog.filter (fun r => r ≠ row) }

/-- TESTING of a W-bank (R270, R384): its patterns run as phases at its arbiter for a number of cycles that is open, on rows that serve no
logical row; then each logged row is programmed anew with its corrected contents, one after another, each once the MMVs that were
outstanding when it fell due need not read it (R262). A row that reads poisoned has no corrected contents: it leaves the log as it is
(DESIGN CHOICE, Log 59). -/
def State.bankTesting (s : State) (l : Lease) : State :=
  let rank := unitIndex l.unit / 16
  let bank := unitIndex l.unit % 16
  let s1 := if l.left = 0 then s else s.setLease { l with left := l.left - 1 }
  if (s.jobAt rank bank).isSome || !s.bankReady rank bank then s1
  else if l.left ≠ 0 then s1.startRow (rowJob rank (Config.wRows + 16 * 100000 + bank) 514 0 0 false) false
  else match (s.core rank).corrLog.find? (fun r => bankOf r = bank) with
    | none => s.leaseTestEnd l
    | some row =>
      let reads := fun (m : MCmd) => m.stillReads row
      let waits := match l.rewrite with
        | some w => if w.1 = row then w.2 else (s.core rank).readersNow reads
        | none => (s.core rank).readersNow reads
      if (s.core rank).rowPoisoned row then s.unlog rank row
      else if (s.core rank).awaits (some waits) reads then s.setLease { l with rewrite := some (row, waits) }
      else ((s.startRow (rowJob rank row 513 0 ((s.core rank).wRow row) false) false).unlog rank row).setLease { l with rewrite := none }

/-- TESTING: the scrub of 8,192 cycles and the patterns of 2,097,152 for a core; they come after a scrub of its partition (R430). -/
def State.leaseTesting (s : State) (l : Lease) : State :=
  let finish := fun (t : State) (m : Lease) => if m.retire then t.leaseRetire m 2 0 0 else t.leaseTestEnd m
  if unitKind l.unit = 0 then
    if s.parts.any (fun q => q.2.scrub && s.coreOf q.1 (unitIndex l.unit)) then s
    else if l.scrubbed then (if l.since + 8192 + 2097152 ≤ s.wall + 1 then s.leaseTestEnd l else s)
    else if l.since + 8192 ≤ s.wall + 1 then
      let m := { l with scrubbed := true }
      let s1 := (s.setLease m).scrubCore (unitIndex l.unit)
      if l.retire then s1.leaseRetire m 2 0 0 else s1
    else s
  else if unitKind l.unit = 1 ∧ l.retire = false then s.bankTesting l
  else if l.left = 0 ∨ l.retire = true then finish s l
  else if unitKind l.unit = 5 then
    let s1 := { s with free := s.free + 1 }
    if Config.freeBool s.free then
      (s1.setLease { l with left := l.left - 1 }).setPort (unitIndex l.unit)
        { s1.port (unitIndex l.unit) with testing := some (5 - l.left) }
    else s1
  else s.setLease { l with left := l.left - 1 }

/-- One cycle of a lease. -/
def State.leaseStep (s : State) (l : Lease) : State :=
  match (s.unit l.unit).state with
  | .noticed => s.leaseNoticed l
  | .granted => s.leaseGranted l
  | .testing => s.leaseTesting l
  | _ => s

/-- RETURNED lasts one cycle (R379): the units that a state found RETURNED are IDLE from the next cycle on. -/
def State.returnedIdle (s s0 : State) : State :=
  { s with units := s.units.map (fun (u : Nat × HealthUnit) =>
      (u.1, if u.2.state = .returned ∧ (s0.unit u.1).state = .returned then { u.2 with state := .idle } else u.2)) }

/-- One cycle of the Lodge, once the start has completed. -/
def State.lodgeCycle (s : State) : State :=
  let s0 := s.writeNotices.leaseAsks
  let s1 := s0.leases.foldl State.leaseStep s0
  let s2 := s1.lanes.earlyLeases.rotation.delayedLeases.returnedIdle s
  { s2 with free := s2.free + 1 }

end Sys2Proof.Machine
end

