-- ==== Sys2Proof/Machine/Ecc.lean ====
section
/-! DEFINITION. The rows of the weight tier that carry no logical number (R254), the two stored copies of the unit table (R387), and the
errors of cells: what each does where it is found (R147, R270, R387, R392, R408). -/
namespace Sys2Proof.Machine
open Sys2Proof

/-! ### The unit table (R387) -/

/-- An entry of the unit table: 8 bytes. -/
def HealthUnit.bytes (u : HealthUnit) : List Byte :=
  bytesOf u.score 2 ++ bytesOf u.state.code 1 ++ bytesOf (u.fails % 4 + (if u.early then 4 else 0) + (if u.tested then 8 else 0)) 1
    ++ bytesOf u.lease 4

/-- The units of every kind. -/
def allUnits : List Nat := (List.range 9064).map unitNth

/-- The 256 rows of a copy: its entries, zeros, its sequence number, and the SHA-384 check of all that. -/
def UnitCopy.bytes (k : UnitCopy) : List Byte :=
  let table := allUnits.flatMap (fun id => (k.units.get {} id).bytes)
  let body := table ++ List.replicate (256 * 512 - 52 - 9064 * 8) 0 ++ bytesOf k.seq 4
  body ++ sha384 body

/-- The valid copy with the higher sequence number. -/
def State.newestUnits (s : State) : Option UnitCopy :=
  (s.unitCopies.filter (fun k => !k.bad)).foldl (fun b k => match b with
    | none => some k
    | some m => if m.seq < k.seq then some k else b) none

/-- The entries as they are stored. -/
def State.unitEntries (s : State) : Map HealthUnit := s.units.map (fun (u : Nat × HealthUnit) => (u.1, { u.2 with corrected := 0 }))

/-- The Lodge writes the two copies alternately (R387): a change of the table is stored in the cycle in which it is made, in the older
copy or the one that cannot be read (DESIGN CHOICE, Log 59). Once both are lost it stores no more: that is a fatal error (R398). -/
def State.saveUnits (s : State) : State :=
  match s.unitCopies with
  | [a, b] =>
    if (s.newestUnits.map UnitCopy.units).all (fun u => decide (u = s.unitEntries)) then s
    else
      let n : UnitCopy := { seq := max a.seq b.seq + 1, units := s.unitEntries }
      { s with unitCopies := if a.bad || (!b.bad && decide (a.seq ≤ b.seq)) then [n, b] else [a, n] }
  | _ => s

/-- Both copies of the Lodge's table are lost: a fatal error (R398). -/
def State.lodgeLost (s : State) : Bool := s.newestUnits.isNone

/-! ### Reserved rows (R254, R264, R387, R389, R390) -/

/-- A row of a run of bytes; zeros beyond its end. -/
def rowOf (bs : List Byte) (i : Nat) : Row := BitVec.ofNat 4096 (natOfBytes ((bs.drop (512 * i)).take 512))

/-- The 16 rows of a copy of a bank's remap table (R264): an entry of 4 bytes for each spare, and the sequence number at the end. -/
def RemapCopy.bytes (k : RemapCopy) (bank : Nat) : List Byte :=
  (List.range 1966).flatMap (fun i => bytesOf (match k.remaps.find? (fun r => r.spare = spareId bank i) with
    | some r => r.row
    | none => if k.dead.contains (spareId bank i) then 0xFFFFFFFE else 0xFFFFFFFF) 4)
    ++ List.replicate (16 * 512 - 4 - 1966 * 4) 0 ++ bytesOf k.seq 4

/-- A retirement record's 32 bytes (R390). -/
def RetireRecord.bytes (r : RetireRecord) : List Byte :=
  bytesOf r.unit 4 ++ bytesOf r.cause 1 ++ bytesOf 0 1 ++ bytesOf r.score 2 ++ bytesOf r.lease 4 ++ bytesOf r.pattern 2 ++ bytesOf 0 2
    ++ bytesOf r.signature 8 ++ bytesOf r.time 8

/-- What reserved row `k` of a bank holds: test patterns, the two copies of the bank's remap table, and in rows 48 to 63 the retirement
records on ranks 0 and 511, the copies of the unit table on ranks 1 and 510, and zeros on every other core. -/
def State.reservedRow (s : State) (rank bank k : Nat) : Row :=
  let p := (s.core rank).copiesOf bank
  if k < 16 then Config.patternRow rank bank k
  else if k < 32 then rowOf (p.1.bytes bank) (k - 16)
  else if k < 48 then rowOf (p.2.bytes bank) (k - 32)
  else
    let i := bank * 16 + (k - 48)
    if rank = 0 ∨ rank = 511 then rowOf (s.retirements.flatMap RetireRecord.bytes) i
    else if rank = 1 then rowOf (s.unitCopies.headD {}).bytes i
    else if rank = 510 then rowOf ((s.unitCopies.drop 1).headD {}).bytes i
    else 0

/-! ### Errors of cells (R147, R270, R387, R392, R408) -/

/-- The logical row that a physical row of a bank serves, if it serves one. -/
def Core.servedRow (c : Core) (bank index : Nat) : Option Nat :=
  if index < 98304 then
    let row := index * 16 + bank
    if c.remaps.any (fun r => r.row = row) then none else some row
  else if index < 100270 then (c.remaps.find? (fun r => r.spare = spareId bank (index - 98304))).map Remap.row
  else none

/-- A physical row that serves no logical row has been retired: one that a spare serves for, or a spare (R264). -/
def Core.rowRetired (c : Core) (bank index : Nat) : Bool :=
  decide (index < 98304) || (decide (index < 100270) && c.deadSpares.contains (spareId bank (index - 98304)))

/-- A reserved row cannot be read: the copy it belongs to is not valid. -/
def State.loseReserved (s : State) (rank bank k : Nat) : State :=
  let c := s.core rank
  let p := c.copiesOf bank
  let drop := fun (i : Nat) => { s with unitCopies := s.unitCopies.mapIdx (fun j (u : UnitCopy) => if j = i then { u with bad := true } else u) }
  if k < 16 then s
  else if k < 32 then s.setCore rank { c with remapCopies := c.remapCopies.put bank ({ p.1 with bad := true }, p.2) }
  else if k < 48 then s.setCore rank { c with remapCopies := c.remapCopies.put bank (p.1, { p.2 with bad := true }) }
  else if rank = 1 then drop 0
  else if rank = 510 then drop 1
  else s

/-- An error is charged to the unit that holds the data: 512 for one beyond correction, and 1, rate-limited, for a corrected one. -/
def State.chargeError (s : State) (id : Nat) (hard : Bool) : State := if hard then s.addScore id 512 else s.correctedError id

/-- The number under which a physical row of a bank that serves no logical row is kept: it lies above the logical rows (R254). -/
def physicalRow (bank index : Nat) : Nat := index * 16 + bank

/-- Cells of a quarter of a physical row have failed. A corrected row of the tier keeps its error until it is programmed, and each read
of it is a corrected one (R270). A spare or reserved row keeps such an error under its physical number and is found by the scan of a cold
start (R277, R278); a retired row is never read again (R264; DESIGN CHOICE, Log 59). -/
def State.quarterFails (s : State) (rank bank index quarter : Nat) (hard : Bool) : State :=
  let c := s.core rank
  match c.servedRow bank index with
  | some row =>
    if hard then (s.setCore rank { c with wpoison := c.wpoison.write false (row * 4 + quarter % 4) true }).chargeError (bankUnit rank bank) true
    else s.setCore rank { c with wErr := c.wErr.filter (fun r => r ≠ row) ++ [row] }
  | none =>
    if hard then (if 100270 ≤ index then s.loseReserved rank bank (index - 100270) else s).chargeError (bankUnit rank bank) true
    else if c.rowRetired bank index then s
    else s.setCore rank { c with wErr := c.wErr.filter (fun r => r ≠ physicalRow bank index) ++ [physicalRow bank index] }

/-- Every word of a line of 128 bytes is bad, until it is written anew (R392). -/
def badLine (m : Map Bool) (line : Nat) : Map Bool := (List.range 32).foldl (fun m i => m.write false (line * 32 + i) true) m

/-- CELL ERRORS: an uncorrectable one marks the data it is found in, and every one is charged to the unit that holds the data. -/
def State.upset (s : State) (u : Upset) : State :=
  match u.cell with
  | .aWord rank word =>
    let c := s.core rank
    (if u.hard then s.setCore rank { c with apoison := c.apoison.write false word true } else s).chargeError (coreUnit rank) u.hard
  | .iWord rank word =>
    let c := s.core rank
    (if u.hard then s.setCore rank { c with ipoison := c.ipoison.write false word true } else s).chargeError (coreUnit rank) u.hard
  | .acc rank tile elem =>
    let c := s.core rank
    (if u.hard then s.setCore rank (c.setTile tile { c.tile tile with poison := (c.tile tile).poison.write false elem true }) else s).chargeError
      (coreUnit rank) u.hard
  | .wQuarter rank bank index quarter => s.quarterFails rank bank index quarter u.hard
  | .gLine line unit => (if u.hard then { s with gpoison := badLine s.gpoison line } else s).chargeError unit u.hard
  | .hLine line => if u.hard then { s with hpoison := badLine s.hpoison line } else s
  | .unit id => s.chargeError id u.hard
  | .vital _ => s

/-- The errors of a wall cycle that are found in it. -/
def State.errorsCycle (s : State) : State :=
  if s.upsets = [] then s
  else
    let due := fun (u : Upset) => decide (u.at_ ≤ s.wall) && (match u.cell with
      | .vital _ => false
      | _ => true)
    (s.upsets.filter due).foldl State.upset { s with upsets := s.upsets.filter (fun u => !due u) }

/-- A structure whose loss is fatal has an uncorrectable error now: its code (R398). -/
def State.vitalNow (s : State) : Option Nat :=
  s.upsets.findSome? (fun u => match u.cell with
    | .vital k => if u.at_ ≤ s.wall ∧ u.hard = true then some k else none
    | _ => none)

end Sys2Proof.Machine
end

