-- ==== Sys2Proof/Machine/Dump.lean ====
section
/-! DEFINITION. Launch dumps and package dumps (R233, R398): their header, their sections, and what each section holds. -/
namespace Sys2Proof.Machine
open Sys2Proof

/-! ### What the sections hold -/

/-- A group table entry's 160 bytes (R360). -/
def Group.bytes (e : Group) : List Byte :=
  bytesOf e.id 4 ++ bytesOf ((if e.valid then 1 else 0) + (if e.parity then 2 else 0)) 4 ++ bytesOf e.timeout 4 ++ bytesOf e.expn 2
    ++ bytesOf e.arrn 2 ++ bytesOf e.drops 2 ++ List.replicate 14 0 ++ bytesOf e.members.toNat 64 ++ bytesOf e.arrived.toNat 64

/-- What a dump is about: a launch, by its key, or the package (DESIGN CHOICE, Log 60: a launch dump holds what is the launch's). -/
abbrev DumpOf := Option Nat

/-- A launch is in the dump. -/
def DumpOf.has (d : DumpOf) (key : Nat) : Bool := match d with
  | some k => decide (k = key)
  | none => true

/-- The contexts on cores that a dump holds: rank and slot. -/
def State.dumpCtxs (s : State) (d : DumpOf) : List (Nat × Nat) :=
  s.cores.flatMap (fun c => ([0, 1, 2, 3].filter (fun i =>
    decide ((c.2.ctx i).life ≠ .free) && d.has (c.2.ctx i).launch && !s.writing c.1 i)).map (fun i => (c.1, i)))

/-- The bytes of a frame (R237) as the image would be written, with the A range of its launch and core. -/
def State.imageBytes (s : State) (m : CtxImage) : List (Byte × Bool) :=
  match s.launchOf m.launch with
  | none => []
  | some l =>
    let r := l.record.aRange
    let range := match s.ranges.find? (fun g => decide (g.launch = m.launch ∧ g.rank = m.rank)) with
      | some g => g
      | none => (s.core m.rank).rangeImage m.launch m.rank r.1 r.2
    let t := ({} : State).writeFrame 0 l.record.frameSize l.record.id m (range.list r.1 r.2)
    (List.range l.record.frameSize).map (fun i => (t.gByte i, linePoison t.gpoison i))

/-- Section 1: the images of the contexts, those on cores as they stand, and those already saved. -/
def State.dumpImages (s : State) (d : DumpOf) : List (Byte × Bool) :=
  (((s.dumpCtxs d).map (fun p =>
      let x := (s.core p.1).ctx p.2
      (s.core p.1).imageOf ((s.launchOf x.launch).elim 0 Launch.seq) p.1 p.2 0 x [] true))
    ++ s.images.filter (fun m => d.has m.launch)).flatMap s.imageBytes

/-- The trap record of a context: rank, slot, cause, pc and information. -/
def Ctx.trapBytes (x : Ctx) (rank slot : Nat) : List Byte :=
  bytesOf rank 2 ++ bytesOf slot 2 ++ bytesOf x.trapCause.toNat 4 ++ bytesOf x.trapPc.toNat 8 ++ bytesOf x.trapInfo.toNat 8

/-- The units of a dump: all of them, or the cores and banks of the launch. -/
def State.dumpUnits (s : State) (d : DumpOf) : List Nat :=
  match d with
  | none => allUnits
  | some k => match s.launchOf k with
    | some l => l.cores.flatMap (fun r => coreUnit r :: (List.range 16).map (bankUnit r))
    | none => []

/-- The contents of the 14 sections, in order (R398). The spec lays out sections 1, 3, 4, 6 and 11; the others' encodings are open
(DESIGN CHOICE, Log 60). -/
def State.dumpSections (s : State) (d : DumpOf) : List (List (Byte × Bool)) :=
  let plain := fun (l : List Byte) => l.map (fun b => (b, false))
  let ops := s.cores.flatMap (fun c => c.2.ops.filter (fun o => d.has o.launch))
  let mine := fun (c : Nat × Core) => [0, 1, 2, 3].filter (fun i => decide ((c.2.ctx i).life ≠ .free) && d.has (c.2.ctx i).launch)
  let tags := (s.dumpCtxs d).map (fun p => ((s.core p.1).ctx p.2).tag)
    ++ (s.images.filter (fun m => d.has m.launch)).map (fun m => m.ctx.tag)
  [ s.dumpImages d,
    plain ((s.dumpCtxs d).flatMap (fun p => ((s.core p.1).ctx p.2).trapBytes p.1 p.2)),
    plain ((List.range 256).flatMap (fun g => if d.has (s.group g).launch then (s.group g).bytes else Group.bytes {})),
    plain ((s.dumpUnits d).flatMap (fun u => (s.unit u).bytes)),
    plain ((s.dumpUnits d).flatMap (fun u => bytesOf (s.unit u).score 2)),
    plain ((s.retirements.filter (fun r => (s.dumpUnits d).contains r.unit)).flatMap RetireRecord.bytes),
    plain (ops.flatMap (Config.dumpCode 7)),
    plain (s.cores.flatMap (fun c => (mine c).flatMap (fun i => Config.dumpCode 8 (c.2.cmds.filter (fun m => m.ctx = i))))),
    plain ((s.jobs.filter (fun j => (s.dumpUnits d).contains (coreUnit j.core))).flatMap (Config.dumpCode 9)),
    plain ((s.launches.filter (fun l => d.has l.key)).flatMap (Config.dumpCode 10)),
    plain (s.cores.flatMap (fun c => (c.2.events.filter (fun r => (mine c).contains (Record.owner r))).flatMap (fun r => bytesOf r.toNat 16))),
    plain ((s.kvReads.filter (fun k => (s.core k.rank).ops.any (fun o => decide (o.id = k.op) && d.has o.launch))).flatMap
      (Config.dumpCode 12)),
    plain ((s.staged.filter (fun w => tags.contains w.tag)).flatMap (Config.dumpCode 13)),
    [] ]

/-! ### The dump -/

/-- A partition's memory, from and to. -/
def Partition.range (b : Partition) : Nat × Nat :=
  ((b.mem.extractLsb' 0 11).toNat * 2 ^ 30, ((b.mem.extractLsb' 0 11).toNat + (b.mem.extractLsb' 16 11).toNat) * 2 ^ 30)

/-- The first 32 bytes of a dump: magic, version and kind, cause, cycle, launch. -/
def dumpHeader (kind cause wall id : Nat) : List Byte :=
  bytesOf 0x504D5544 4 ++ bytesOf (1 + kind * 256) 4 ++ bytesOf cause 8 ++ bytesOf wall 8 ++ bytesOf id 8

/-- The bytes of a dump: its header, the place of each section from the beginning of the dump, and the sections one after another (DESIGN
CHOICE, Log 60). -/
def State.dumpBytes (s : State) (kind cause id : Nat) (d : DumpOf) : List (Byte × Bool) :=
  let sections := s.dumpSections d
  let places := packed 0x100 (sections.map List.length)
  ((dumpHeader kind cause s.wall id ++ places.flatMap (fun p => bytesOf p.1 8 ++ bytesOf p.2 8)).map (fun b => (b, false))) ++ sections.flatten

/-- A dump at an address, as far as a limit. -/
def State.dump (s : State) (base limit kind cause id : Nat) (d : DumpOf) : State :=
  let bs := (s.dumpBytes kind cause id d).take (limit - base)
  ({ s with gpoison := s.gpoison.clearRange (base / 4) ((base + bs.length) / 4) } : State).gPutMarked base bs

/-- A context that has stopped gives its launch dump (R233, R398), in the partition's dump area and within its memory. -/
def State.dumpStops (s : State) : State :=
  s.cores.foldl (fun t c => [0, 1, 2, 3].foldl (fun t i =>
    let x := (t.core c.1).ctx i
    if x.life = .stopped ∧ x.dumped = false then
      let b := t.part x.part
      (t.dump b.dumpbase.toNat b.range.2 1 x.trapCause.toNat ((t.launchOf x.launch).elim 0 (fun l => l.record.id)) (some x.launch)).setCore c.1
        ((t.core c.1).setCtx i { x with dumped := true })
    else t) t) s

end Sys2Proof.Machine
end

