-- ==== Sys2Proof/Machine/Start.lean ====
section
/-! DEFINITION. Starting the package (R240, R241, R266, R274, R276 to R281, R398): what power and resets keep, the start steps,
the roots of the weight images, and the package dump. -/
namespace Sys2Proof.Machine
open Sys2Proof

/-! ### Weight images (R273, R279, R280) -/

/-- The member pages of an image: rank and page, ascending. -/
def State.members (s : State) (image : Nat) : List (Nat × Nat) :=
  s.cores.flatMap (fun c => (c.2.wattr.filter (fun a => attrImage a.2 = image)).map (fun a => (c.1, a.1)))

/-- A page's attribute word. -/
def State.pageAttr (s : State) (rank page : Nat) : Word := (s.core rank).wattr.get 0 page

/-- The bytes of a page's attribute word in its digest: SEALED is taken as 0 (R273, R279). -/
def State.attrBytes (s : State) (rank page : Nat) : List Byte := bytesOf (s.pageAttr rank page &&& 0x7FFFFFFF#32).toNat 4

/-- A page's digest (R279): its rows in ascending order, and its attribute word. -/
def State.pageDigest (s : State) (rank page : Nat) : List Byte :=
  let h := (List.range 2048).foldl (fun h i => shaBlocks h (rowList ((s.core rank).wRow (page * 2048 + i))) 4) shaInit
  shaFinish h (s.attrBytes rank page) 1048580

/-- A page holds a row that reads poisoned. -/
def State.pagePoisoned (s : State) (rank page : Nat) : Bool :=
  (List.range 2048).any (fun i => (s.core rank).rowPoisoned (page * 2048 + i))

/-- The input of an image's root: its number, the count of member pages, and each page with its digest (R280). -/
def rootInput (image : Nat) (pages : List ((Nat × Nat) × List Byte)) : List Byte :=
  bytesOf image 1 ++ bytesOf pages.length 4 ++ pages.flatMap (fun p => bytesOf p.1.1 2 ++ bytesOf p.1.2 2 ++ p.2)

/-- Set SEALED of a page. -/
def State.seal (s : State) (p : Nat × Nat) : State :=
  let c := s.core p.1
  s.setCore p.1 { c with wattr := c.wattr.write 0 p.2 (c.wattr.get 0 p.2 ||| 0x80000000#32) }

/-- IMAGE_ROOT_FORMED (R274, R278, R280, R281): the root of an image is formed from the digests of its member pages, and the pages are
sealed in that cycle, but for those programmed since their hashing began. A poisoned member row leaves no root. -/
def State.formRoot (s : State) (image : Nat) (ps : List PageHash) : State :=
  if ps = [] then { s with roots := Map.erase s.roots image }
  else if ps.any PageHash.bad then { s with roots := s.roots.put image { bytes := List.replicate 48 0, valid := false } }
  else
    let root := sha384 (rootInput image (ps.map (fun p => ((p.rank, p.page), p.digest.getD []))))
    (ps.filter (fun p => !p.dirty)).foldl (fun t p => t.seal (p.rank, p.page))
      { s with roots := s.roots.put image { bytes := root, valid := true } }

/-- One cycle of the hash engine for a page: a row at the arbiter, then 64 cycles for it; the digest at the end (R260, R279). -/
def State.hashPage (s : State) (p : PageHash) : State × PageHash :=
  let c := s.core p.rank
  let row := p.page * 2048 + p.row
  if 0 < p.delay then (s, { p with delay := p.delay - 1 })
  else if 2048 ≤ p.row then (s, { p with digest := some (shaFinish p.hash (s.attrBytes p.rank p.page) 1048580) })
  else if s.bankReady p.rank (bankOf row) then
    (s.grantRead p.rank row, { p with
      row := p.row + 1, delay := if c.wErr.contains row then 65 else 63
      hash := shaBlocks (if p.row = 0 then shaInit else p.hash) (rowList (s.rowSeen p.rank row)) 4
      bad := p.bad || c.rowPoisoned row })
  else (s.askBank p.rank (bankOf row), p)

/-- One cycle of the pages of a measurement, in order: a core's hash engine takes one page at a time, and none while a WHASH uses it. -/
def State.hashPages (s : State) (busy : List Nat) : List PageHash → State × List PageHash
  | [] => (s, [])
  | p :: rest =>
    let goes := p.digest.isNone && !busy.contains p.rank && !(s.core p.rank).hashing
    let r := if goes then s.hashPage p else (s, p)
    let q := r.1.hashPages (if p.digest.isNone then p.rank :: busy else busy) rest
    (q.1, r.2 :: q.2)

/-- The measurements whose digests have all arrived end (R280, R281, R424). -/
def State.measureEnds (s : State) : State :=
  (s.measures.filter (fun m => m.pages.all (fun p => p.digest.isSome))).foldl (fun t m =>
    { t.formRoot m.image m.pages with
      measures := t.measures.filter (fun k => k.image ≠ m.image), remeas := t.remeas &&& 0x7FFFFFFF#32 }) s

/-- A page whose hashing has not begun, and that is no longer a member of the image, leaves the measurement: it is not in the root (R280).
The pages of a measurement are otherwise those of the request (DESIGN CHOICE, Log 59). -/
def State.dropMoved (s : State) : State :=
  { s with measures := s.measures.map (fun (m : Measure) => { m with pages := m.pages.filter (fun p =>
      decide (p.row ≠ 0) || p.digest.isSome || decide (attrImage (s.pageAttr p.rank p.page) = m.image)) }) }

/-- A cycle of the measurements that the host has asked for. -/
def State.measureCycle (s0 : State) : State :=
  let s := s0.dropMoved
  (s.measures.foldl (fun t m =>
    let r := t.hashPages [] m.pages
    { r.1 with measures := r.1.measures.map (fun (k : Measure) => if k.image = m.image then { k with pages := r.2 } else k) }) s).measureEnds

/-! ### What a reset and a loss of power leave (R240, R266, R276, R277, R379) -/

/-- Bytes that the spec leaves undefined. -/
def State.freeRow (s : State) : Row :=
  BitVec.ofNat 4096 (natOfBytes ((List.range 512).map (fun i => Config.freeByteAt s.free i)))

/-- A row that had started and not committed holds undefined contents, which may read poisoned; a scan will find it (R266, R278). -/
def State.unfinishedRow (s : State) (j : RowJob) : State :=
  if j.committed ∨ j.opRank = 514 then s
  else
    let c := (s.core j.core).setRow j.row s.freeRow
    { s.setCore j.core { c with
        unfinished := c.unfinished ++ [j.row]
        wpoison := if Config.freeBool (s.free + 1) then c.wpoison.put (j.row * 4) true else c.wpoison } with free := s.free + 2 }

/-- What a start finds of a core (R240): its weight tier, with the mapping that its remap tables hold; in a warm start its memories too.
Every register is lost. -/
def Core.kept (c : Core) (warm : Bool) : Core :=
  let w : Core := { wspace := c.wspace, wattr := c.wattr, wear := c.wear, remaps := c.remaps, deadSpares := c.deadSpares,
                    failedRows := c.failedRows, remapCopies := c.remapCopies, unfinished := c.unfinished, wpoison := c.wpoison, wErr := c.wErr }
  (if warm then
    { w with ispace := c.ispace, ipoison := c.ipoison, aspace := c.aspace, full := c.full, apoison := c.apoison, tiles := c.tiles
             corrLog := c.corrLog }
  else w).loadRemaps

/-- Every start makes a unit IDLE or RETIRED, and clears the tested mark of one that it finds under lease (R379). -/
def HealthUnit.restarted (u : HealthUnit) : HealthUnit :=
  { u with state := if u.state = .retired then .retired else .idle, tested := u.tested && !u.leased, early := false, corrected := 0 }

/-- The ports of the retired lanes of the unit table run at half width (R385). -/
def State.retiredLanes (s : State) : State :=
  s.units.foldl (fun t u => if unitKind u.1 = 6 ∧ u.2.state = .retired then t.laneRetired u.1 else t) s

/-- The core rows of the partitions that had not stopped, or whose scrub had not ended. -/
def State.rowsLeft (s : State) : List Nat :=
  (s.rowOwner.filter (fun r => decide (r.2 ≠ 0 ∧ ((s.part (r.2 - 1)).state ≠ 0 ∨ (s.part (r.2 - 1)).scrub = true)))).map Prod.fst

/-- The state in which a start begins, cold or warm; without power only what R240 keeps is left, and a cold start finds no more than
that. The unit table is the newer valid copy of the stored one (R387); where both are
lost it is what the Lodge held last, and both copies are written anew (DESIGN CHOICE, Log 59). -/
def State.restart (s : State) (cold power : Bool) : State :=
  let t := s.jobs.foldl State.unfinishedRow s
  let warm := power && !cold
  let units := (t.newestUnits.map UnitCopy.units).getD t.units
  { powered := power
    cores := t.cores.map (fun (c : Nat × Core) => (c.1, c.2.kept warm))
    gmem := if warm then t.gmem else [], gpoison := if warm then t.gpoison else []
    hmem := t.hmem, hpoison := t.hpoison
    units := units.map (fun (u : Nat × HealthUnit) => (u.1, u.2.restarted))
    unitCopies := if t.lodgeLost then [{ seq := 1, units := t.unitEntries }, { units := t.unitEntries }] else t.unitCopies
    leaseCounter := t.leaseCounter, retirements := t.retirements, lifeMs := t.ageMs
    roots := if warm then t.roots else []
    rowOwner := if warm then t.rowOwner else [], unscrubbed := if warm then t.unscrubbed ++ t.rowsLeft else []
    free := t.free, inbox := t.inbox, outbox := t.outbox, asks := t.asks, accesses := t.accesses.filter (fun a => decide (t.wall < a.at_))
    mgReads := t.mgReads.filter (fun r => decide (t.wall < r.at_))
    upsets := t.upsets.filter (fun u => decide (t.wall < u.at_))
    start := { cold := cold } : State }.retiredLanes

/-- POWER_LOSS (R240). -/
def State.powerLoss (s : State) : State := if s.powered then s.restart true false else s

/-- POWER_ON (R276): a cold start. -/
def State.powerOn (s : State) : State := if s.powered then s else { s with powered := true, start := {} }

/-- The start has completed: every step is done. -/
def State.started (s : State) : Bool := decide (8 < s.start.step)

/-- RESET (R276): a warm start if the start before it completed, and otherwise a cold one. -/
def State.resetNow (s : State) : State := if s.powered then s.restart (!s.started) true else s

/-! ### The start steps (R277, R278) -/

/-- The images with member pages. -/
def State.imagesHeld (s : State) : List Nat := ((List.range 16).map (fun i => 16 + i)).filter (fun n => s.members n ≠ [])

/-- The images that step 6 rehashes: all of them, or in a warm start those with a page not sealed or without a valid retained
root. -/
def State.toRehash (s : State) : List Nat :=
  s.imagesHeld.filter (fun n => s.start.full || (match s.roots.find n with
    | some r => !r.valid
    | none => true) || (s.members n).any (fun p => !(s.pageAttr p.1 p.2).getLsbD 31))

/-- The member pages of the busiest core among some images. -/
def State.busiest (s : State) (images : List Nat) : Nat :=
  let ps := images.flatMap s.members
  s.cores.foldl (fun n c => max n (ps.filter (fun p => p.1 = c.1)).length) 0

/-- The cycles of a step (R277); where none are given their number is open (DESIGN CHOICE, Log 6). -/
def State.stepLength (s : State) : Nat :=
  match s.start.step with
  | 5 => if s.start.full then 401336 else Config.freeNat s.free
  | 6 => if s.start.full then 100663296 else 131072 * s.busiest s.start.images
  | _ => Config.freeNat s.free

/-- A step begins: its length and, at step 6, its images are found; a warm start finds at step 4 whether the check of the
retained roots is broken. -/
def State.stepBegin (s : State) : State :=
  let full := if s.start.step = 4 then s.start.cold || Config.freeBool (s.free + 1) else s.start.full
  let s1 := { s with start := { s.start with begun := true, full := full } }
  let s2 := if s1.start.step = 6 then { s1 with start := { s1.start with images := s1.toRehash } } else s1
  { s2 with start := { s2.start with left := s2.stepLength }, free := s2.free + 2 }

/-- Step 4 ends (R278): a unit that fails a pattern is retired; every other that was tested has its tested mark. -/
def State.selfTest (s : State) : State :=
  let t := allUnits.foldl (fun (t : State) id =>
    let u := t.unit id
    if (t.start.full || !u.tested) && decide (u.state ≠ .retired) then
      match t.patternFailures id with
      | [] => t.setUnit id { u with tested := true }
      | f :: _ => t.retireUnit id 1 0 f.1 f.2
    else t) s
  { t with free := s.free + 1 }

/-- Clear SEALED of a page. -/
def Core.unsealPage (c : Core) (page : Nat) : Core := { c with wattr := c.wattr.write 0 page (c.wattr.get 0 page &&& 0x7FFFFFFF#32) }

/-- The rows a scan reads on a core: every row, the spare and the reserved rows among them, or the rows of pages that are not sealed
(R277). -/
def State.scans (s : State) (rank row : Nat) : Bool :=
  s.start.full || (decide (row < Config.wRows) && !((s.core rank).attrOf row).getLsbD 31)

/-- The rows of a core that a start reads and that need correction enter their banks' logs and scores (R270). -/
def State.readErrors (s : State) (rank : Nat) (reads : Nat → Bool) : State :=
  ((s.core rank).wErr.filter reads).foldl (fun (u : State) row => u.grantRead rank row) s

/-- Step 5 ends (R278): corrected rows enter their banks' correction logs and scores; a row left unfinished stays poisoned, and a page
with a row that reads poisoned loses SEALED. -/
def State.tierScan (s : State) : State :=
  s.cores.foldl (fun t c =>
    let logs := t.readErrors c.1 (s.scans c.1)
    let lost := c.2.unfinished.filter (s.scans c.1)
    let bad := (dedupNat (lost ++ c.2.failedRows ++ c.2.wpoison.map (fun q => q.1 / 4))).filter (s.scans c.1)
    let d := logs.core c.1
    logs.setCore c.1 (bad.foldl (fun k row => k.unsealPage (row / 2048)) { d with
      bankRead := [], failedRows := d.failedRows.filter (fun r => !lost.contains r) ++ lost
      unfinished := d.unfinished.filter (fun r => !lost.contains r) })) s

/-- A member page as a start hashes it: nothing is programmed meanwhile. -/
def State.pageHashed (s : State) (p : Nat × Nat) : PageHash :=
  { rank := p.1, page := p.2, row := 2048, bad := s.pagePoisoned p.1 p.2, digest := some (s.pageDigest p.1 p.2) }

/-- Step 6 ends: the rows of the member pages have been read and the roots are formed; the pages of an image with a poisoned member row stay
unsealed (R270, R278). -/
def State.rehash (s : State) : State :=
  s.start.images.foldl (fun t n =>
    let ps := (t.members n).map t.pageHashed
    let u := (ps.foldl (fun u p => u.readErrors p.rank (fun row => decide (row / 2048 = p.page))) t).formRoot n ps
    if ps.any PageHash.bad then ps.foldl (fun u p => u.setCore p.rank ((u.core p.rank).unsealPage p.page)) u else u) s

/-- Step 7 ends: FMT0 to FMT7 and LFMT0 to LFMT3 of every context slot are cleared. -/
def State.clearFormats (s : State) : State :=
  { s with cores := s.cores.map (fun (c : Nat × Core) => (c.1, { c.2 with
      ctxs := c.2.ctxs.map (fun (x : Nat × Ctx) => (x.1, { x.2 with fmt := [], lfmt := [] })) })) }

/-- Step 8 ends: the group table is cleared, the Pavilion starts taking launches, and the rotation of leases begins; when its
first lease starts is open (DESIGN CHOICE, Log 6). -/
def State.openForLaunches (s : State) : State :=
  { ({ s with groups := [] } : State).rotationBegin with rotAt := s.wall + Config.freeNat s.free, free := s.free + 1 }

/-- What a step does when it completes: step 3 loads PK_LEASEPERIOD from the firmware's configuration record (R283); at step 2 whether the firmware's signature is valid is open (DESIGN CHOICE, Log 6). -/
def State.stepWork (s : State) : State :=
  match s.start.step with
  | 2 => { s with start := { s.start with stopped := !Config.freeBool s.free }, free := s.free + 1 }
  | 3 => { s with leasePeriod := Config.configPeriod }
  | 4 => s.selfTest
  | 5 => s.tierScan
  | 6 => s.rehash
  | 7 => s.clearFormats
  | 8 => s.openForLaunches
  | _ => s

/-- START_STEP_COMPLETE (R277): the next step begins when this one completes. -/
def State.stepComplete (s : State) : State :=
  let t := s.stepWork
  { t with start := { t.start with step := t.start.step + 1, begun := false } }

/-- One cycle of a start. A start that has ended with the outcome "stop" goes no further (R278). -/
def State.startCycle (s : State) : State :=
  if s.started || s.start.stopped then s
  else
    let t := if s.start.begun then s else s.stepBegin
    if t.start.left ≤ 1 then t.stepComplete else { t with start := { t.start with left := t.start.left - 1 } }

/-! ### The package dump (R398) -/

/-- ctxS of a core has taken a trap while it serves a request: a fatal error. -/
def Core.fatal (c : Core) : Bool := c.svc.isSome && ((c.ctx 4).inTrap || decide ((c.ctx 4).life = .stopped))

/-- PACKAGE_DUMP (R398): the dump is written, every launch ends with FAULT, and the package takes a warm start, or a cold one where the
start before had not completed (R276). -/
def State.packageDump (s : State) (cause : Nat) : State :=
  let t := s.dump 0x17FC0000000 0x18000000000 0 cause 0 none
  (t.launches.foldl (fun u l => u.complete l.part l.record.id 2 none) t).restart (!s.started) true

/-- A fatal error of any core's ctxS, of a structure of the package, or of both copies of the Lodge's table; its code for the last is
open (DESIGN CHOICE, Log 6). -/
def State.fatalCycle (s : State) : State :=
  match s.cores.find? (fun c => c.2.fatal) with
  | some c => s.packageDump (c.2.ctx 4).trapCause.toNat
  | none => match s.vitalNow with
    | some k => s.packageDump k
    | none => if s.lodgeLost then s.packageDump (Config.freeNat s.free) else s

end Sys2Proof.Machine
end

