-- ==== Sys2Proof/Machine/Attest.lean ====
section
/-! DEFINITION. The SPDM responder (R241, R242, R275, R282, R283, R390): measurements, and the answers to requests. -/
namespace Sys2Proof.Machine
open Sys2Proof

/-- The package answers. -/
def State.reply (s : State) (r : Reply) : State := { s with outbox := r :: s.outbox }

/-- The package answers a request with an error. -/
def State.spdmFail (s : State) (endpoint : Nat) (e : SpdmError) : State := s.reply (.spdmError endpoint e)

/-- Bytes of an SPDM message that the spec leaves to SPDM or to secrets (DESIGN CHOICE, Log 6). -/
def State.freeBytes (s : State) (n : Nat) : List Byte := (List.range n).map (fun i => Config.freeByteAt s.free i)

/-- The responder is up: power is applied. After the outcome "stop" the boot ROM alone answers (R278). -/
def State.romOnly (s : State) : Bool := s.start.stopped

/-! ### Measurements (R242, R283) -/

/-- The value of index 32 (R283). -/
def State.retireSummary (s : State) : List Byte :=
  sha384 (bytesOf s.retirements.length 4 ++ s.retirements.flatMap RetireRecord.bytes)

/-- The indices present, ascending (R283). -/
def State.indices (s : State) : List Nat :=
  if s.romOnly then [1, 2] else [1, 2, 3] ++ s.imagesHeld ++ [32]

/-- The value of an image's index, once it is available (R241, R283): after step 6, or where a warm start keeps a valid root
of sealed pages. -/
def State.imageValue (s : State) (n : Nat) : Option (List Byte) :=
  if 6 < s.start.step ∨ (¬ s.start.cold ∧ ¬ s.start.full ∧ ¬ s.toRehash.contains n) then (s.roots.find n).map ImageRoot.bytes
  else none

/-- The value of a present index, or `none` while it is not available (R241, R283). -/
def State.measurement (s : State) (n : Nat) : Option (List Byte) :=
  if n = 1 then if 2 < s.start.step then some ((List.range 48).map (Config.measured 1)) else none
  else if n = 2 then
    if 3 < s.start.step ∨ s.romOnly then some ((List.range 48).map (Config.measured 2)) else none
  else if n = 3 then if 3 < s.start.step then some ((List.range 48).map (Config.measured 3)) else none
  else if n = 32 then if 4 < s.start.step then some s.retireSummary else none
  else s.imageValue n

/-- The value type of an index (R283). -/
def measurementType (n : Nat) : Nat := if n = 1 then 0 else if n = 3 then 3 else if n = 32 then 2 else 1

/-- A measurement block (R242). -/
def measurementBlock (n : Nat) (v : List Byte) : List Byte :=
  bytesOf n 1 ++ [0x01] ++ bytesOf 0x33 2 ++ bytesOf (measurementType n) 1 ++ bytesOf 0x30 2 ++ v

/-- The device's leaf key, derived from the fused identity key at step 1 (R282). -/
def leafKey : List Byte := Config.leafKeyOf Config.identityKey

/-- The certificate chain of slot 0, fixed for the device (R282). -/
def certChain : List Byte := Config.chainOf leafKey

/-- A signature of a message by the leaf key: 96 bytes (R242). -/
def State.sign (s : State) (msg : List Byte) : List Byte := (List.range 96).map (Config.signature s.free leafKey msg)

/-- The negotiated state of an endpoint. -/
def State.endpoint (s : State) (e : Nat) : Endpoint := s.endpoints.get {} e
/-- Replace it. -/
def State.setEndpoint (s : State) (e : Nat) (x : Endpoint) : State := { s with endpoints := s.endpoints.put e x }

/-- A request that asks for no measurement: the messages of measurements before it are no part of a later signature (R242; PRESUMED, the
rule of SPDM 1.2 and 1.3, Log 71). -/
def State.unmeasured (s : State) (e : Nat) : State :=
  if (s.endpoint e).measured = [] then s else s.setEndpoint e { s.endpoint e with measured := [] }

/-- A field of `n` bytes. -/
def field (n : Nat) (l : List Byte) : List Byte := (List.range n).map (fun i => l.getD i 0)

/-- The version byte of a request of measurements. -/
def MeasureAsk.version (a : MeasureAsk) : Byte := if a.v13 then 0x13 else 0x12
/-- The requester's context, which the response echoes: SPDM 1.3 alone has it. -/
def MeasureAsk.echo (a : MeasureAsk) : List Byte := if a.v13 then field 8 a.context else []

/-- GET_MEASUREMENTS as SPDM lays it out (R242; PRESUMED, Log 71). -/
def MeasureAsk.request (a : MeasureAsk) (n : Nat) : List Byte :=
  [a.version, 0xE0, if a.sign then 1 else 0] ++ bytesOf n 1 ++ (if a.sign then field 32 a.nonce ++ bytesOf a.slot 1 else []) ++ a.echo

/-- MEASUREMENTS as SPDM lays it out, without its signature (R242; PRESUMED, Log 71). -/
def MeasureAsk.response (a : MeasureAsk) (count : Nat) (blocks : List (List Byte)) (nonce data : List Byte) : List Byte :=
  [a.version, 0x60] ++ bytesOf count 1 ++ bytesOf (if a.sign then a.slot else 0) 1 ++ bytesOf blocks.length 1
    ++ bytesOf blocks.flatten.length 3 ++ blocks.flatten ++ nonce ++ bytesOf data.length 2 ++ data ++ a.echo

/-- What stands before the digest that a signature of measurements covers, 100 bytes: the version four times, and what is signed
(R242; PRESUMED, Log 71). -/
def MeasureAsk.signing (a : MeasureAsk) : List Byte :=
  let text := fun (s : String) => s.toList.map (fun c => BitVec.ofNat 8 c.toNat)
  let once := text (if a.v13 then "dmtf-spdm-v1.3.*" else "dmtf-spdm-v1.2.*")
  once ++ once ++ once ++ once ++ List.replicate 6 0 ++ text "responder-measurements signing"

/-- GET_MEASUREMENTS (R241, R242, R283): index 0 the count, 0xFF every block. The response carries the responder's nonce and opaque data
(free, the latter of at most 1,024 bytes), the requester's context, and where the request asks for it a signature with the leaf key of slot
0; this covers, as SPDM has it, the endpoint's negotiation and its messages of measurements up to this response. Before step 1 has derived
that key the responder is not ready (DEDUCED, Log 20). -/
def State.getMeasurements (s0 : State) (e n : Nat) : State :=
  let ask := s0.asks.headD {}
  let s : State := { s0 with asks := s0.asks.drop 1 }
  let ns := if n = 0 then [] else if n = 255 then s.indices else [n]
  let fail := fun c => (s.unmeasured e).spdmFail e c
  if ask.sign = true ∧ ask.slot ≠ 0 then fail .invalidRequest
  else if ask.sign = true ∧ s.start.step ≤ 1 then fail .responseNotReady
  else if !ns.all s.indices.contains then fail .invalidRequest
  else if ns.any (fun k => (s.measurement k).isNone) then fail .responseNotReady
  else
    let x := s.endpoint e
    let own := s.freeBytes 32
    let data := (List.range (Config.freeNat (s.free + 1) % 1025)).map (fun i => Config.freeByteAt (s.free + 1) i)
    let blocks := ns.map (fun k => measurementBlock k ((s.measurement k).getD []))
    let count := if n = 0 then s.indices.length else 0
    let heard := x.measured ++ ask.request n ++ ask.response count blocks own data
    let t := ({ s with free := s.free + 2 } : State).setEndpoint e { x with measured := if ask.sign then [] else heard }
    let sig := if ask.sign then some (t.sign (ask.signing ++ sha384 (x.vca ++ heard))) else none
    t.reply (if n = 0 then .measurementCount e count own data ask.echo sig else .measurements e blocks own data ask.echo sig)

/-! ### The other requests (R282) -/

/-- The bytes of an exchange of the negotiation: what the request holds is not given (R242; DESIGN CHOICE, Log 73). -/
def State.exchange (s : State) (kind : Nat) : List Byte := Config.spdmCode (kind, s.wall, s.outbox.length)

/-- GET_VERSION: SPDM 1.2 and 1.3; the endpoint negotiates anew. -/
def State.getVersion (s : State) (e : Nat) : State :=
  (s.setEndpoint e { versioned := true, vca := s.exchange 0 }).reply (.versions e [0x12, 0x13])

/-- GET_CAPABILITIES. -/
def State.getCapabilities (s : State) (e : Nat) : State :=
  let x := s.endpoint e
  (s.setEndpoint e { x with capable := true, vca := x.vca ++ s.exchange 1, measured := [] }).reply
    (.capabilities e true true true true true true false)

/-- NEGOTIATE_ALGORITHMS: a requester that offers none of one kind is refused. -/
def State.negotiate (s : State) (e : Nat) (offers : List Bool) : State :=
  let x := s.endpoint e
  if offers.all id then
    (s.setEndpoint e { x with negotiated := true, vca := x.vca ++ s.exchange 2, measured := [] }).reply (.algorithms e)
  else (s.unmeasured e).spdmFail e .invalidRequest

/-- A request that the boot ROM does not answer (R278), and that needs the leaf key: before step 1 has derived it, the responder is not
ready (R282; DEDUCED, Log 20). -/
def State.beyondRom (s0 : State) (e : Nat) (f : State → State) : State :=
  let s := s0.unmeasured e
  if s.romOnly then s.spdmFail e .unsupportedRequest
  else if s.start.step ≤ 1 then s.spdmFail e .responseNotReady
  else f s

/-- GET_DIGESTS: slot 0 alone holds a chain. -/
def State.getDigests (s : State) (e : Nat) : State := s.reply (.digests e [0] (sha384 certChain))

/-- GET_CERTIFICATE of a slot. -/
def State.getCertificate (s : State) (e slot : Nat) : State :=
  if slot = 0 then s.reply (.certificate e 0 certChain) else s.spdmFail e .invalidRequest

/-- CHALLENGE of a slot: the response names the chain, and is signed with its leaf key. -/
def State.challenge (s : State) (e slot : Nat) : State :=
  if slot = 0 then
    let body := sha384 certChain ++ s.freeBytes 32
    ({ s with free := s.free + 1 } : State).reply (.challengeAuth e 0 (body ++ s.sign body))
  else s.spdmFail e .invalidRequest

/-- KEY_EXCHANGE: at most 17 sessions are open at once; the response holds the responder's exchange data (free), signed. -/
def State.keyExchange (s : State) (e slot : Nat) : State :=
  if slot ≠ 0 then s.spdmFail e .invalidRequest
  else if 17 ≤ s.sessions.length then s.spdmFail e .sessionLimitExceeded
  else
    let n := s.nextSession
    ({ s with
        free := s.free + 1, nextSession := n + 1
        sessions := s.sessions ++ [{ id := n, endpoint := e, established := false, bound := none }] } : State).reply
      (.keyExchangeRsp e n (s.freeBytes 96 ++ s.sign (s.freeBytes 96)))

/-- An open session. -/
def State.session (s : State) (n : Nat) : Option Session := s.sessions.find? (fun x => x.id = n)

/-- FINISH of a session. -/
def State.finish (s : State) (n : Nat) : State :=
  match s.session n with
  | none => s.spdmFail 0 .invalidRequest
  | some x => { s with sessions := s.sessions.map (fun (y : Session) => if y.id = n then { y with established := true } else y) }.reply
      (.finishRsp x.id)

/-- SESSION_END (R422): its partition is unbound and keeps its state. -/
def State.sessionEnd (s : State) (n : Nat) : State :=
  match s.session n with
  | none => s
  | some _ => { s with sessions := s.sessions.filter (fun x => x.id ≠ n) }.reply (.sessionEnded n)

end Sys2Proof.Machine
end

