-- ==== Sys2Proof/Machine/Partitions.lean ====
section
/-! DEFINITION. Partitions (R409 to R416, R419, R422): the configuration block, the lock, the interface messages and report, and
the scrub of a partition. -/
namespace Sys2Proof.Machine
open Sys2Proof

/-! ### The configuration block (R409) -/

/-- Replace a partition's block. -/
def State.setPart (s : State) (p : Nat) (b : Partition) : State := { s with parts := s.parts.put p b }

/-- The registers that the lock freezes: offset and bytes. -/
def frozenRegs : List (Nat × Nat) :=
  [(0x010, 8), (0x018, 4), (0x01C, 4), (0x020, 4), (0x024, 4), (0x028, 8), (0x030, 8), (0x038, 4), (0x040, 8), (0x048, 8),
   (0x050, 8), (0x058, 8), (0x060, 8), (0x068, 4)]
    ++ (List.range 8).map (fun i => (0x080 + 8 * i, 8)) ++ [(0x0C0, 4)] ++ (List.range 64).map (fun i => (0x200 + 8 * i, 8))

/-- Write one register; bits that the block reserves read zero. -/
def Partition.put (b : Partition) (off v : Nat) : Partition :=
  let w := BitVec.ofNat 32 v
  let d := BitVec.ofNat 64 v
  let win : DWord := d &&& 0x000FFFFFFFFF0000#64
  if 0x080 ≤ off ∧ off < 0x0C0 then
    let i := (off - 0x080) / 16
    if off % 16 = 0 then { b with bases := b.bases.set i win } else { b with sizes := b.sizes.set i win }
  else if 0x200 ≤ off then { b with fabpkg := b.fabpkg.write 0 ((off - 0x200) / 8) d }
  else match off with
    | 0x010 => { b with cores := d }
    | 0x018 => { b with l2ways := w &&& 0xFFFF#32 }
    | 0x01C => { b with kvten := w &&& 0xFFFF#32 }
    | 0x020 => { b with mem := w &&& 0x07FF07FF#32 }
    | 0x024 => { b with memslot := w &&& 0xFFFF#32 }
    | 0x028 => { b with ptroot := d }
    | 0x030 => { b with htbase := d }
    | 0x038 => { b with htcount := w }
    | 0x040 => { b with kvptbase := d }
    | 0x048 => { b with cmpbase := d }
    | 0x050 => { b with dumpbase := d }
    | 0x058 => { b with imgpool := d &&& 0xFFFFFFFFFFFF0000#64 }
    | 0x060 => { b with lq := d &&& 0x8FFF8FFF8FFF8FFF#64 }
    | 0x068 => { b with imgsize := w }
    | 0x0C0 => { b with fabwt := w &&& 0xFF#32 }
    | _ => b

/-- PT_STATE (R409). -/
def Partition.stateWord (b : Partition) : Word := BitVec.ofNat 32 (b.state + (if b.scrub then 8 else 0))

/-- The registers of the block: offset and bytes. -/
def blockRegs : List (Nat × Nat) := [(0x000, 4), (0x004, 4)] ++ frozenRegs

/-- The value of a register. -/
def Partition.reg (b : Partition) (off : Nat) : Nat :=
  if 0x080 ≤ off ∧ off < 0x0C0 then
    let i := (off - 0x080) / 16
    if off % 16 = 0 then (b.bases.getD i 0).toNat else (b.sizes.getD i 0).toNat
  else if 0x200 ≤ off then (b.fabpkg.get 0 ((off - 0x200) / 8)).toNat
  else match off with
    | 0x000 => b.stateWord.toNat
    | 0x004 => b.err.toNat
    | 0x010 => b.cores.toNat
    | 0x018 => b.l2ways.toNat
    | 0x01C => b.kvten.toNat
    | 0x020 => b.mem.toNat
    | 0x024 => b.memslot.toNat
    | 0x028 => b.ptroot.toNat
    | 0x030 => b.htbase.toNat
    | 0x038 => b.htcount.toNat
    | 0x040 => b.kvptbase.toNat
    | 0x048 => b.cmpbase.toNat
    | 0x050 => b.dumpbase.toNat
    | 0x058 => b.imgpool.toNat
    | 0x060 => b.lq.toNat
    | 0x068 => b.imgsize.toNat
    | 0x0C0 => b.fabwt.toNat
    | _ => 0

/-- The aligned word of the block at an offset; zero where the block holds no register. -/
def Partition.blockWord (b : Partition) (off : Nat) : Nat :=
  match blockRegs.find? (fun r => decide (r.1 ≤ off ∧ off < r.1 + r.2)) with
  | some r => b.reg r.1 / 2 ^ (8 * (off - r.1)) % 2 ^ 32
  | none => 0

/-- A read of 4 or 8 bytes of the block (R409, R413). -/
def Partition.read (b : Partition) (off : Nat) (wide : Bool) : Nat :=
  if wide then b.blockWord (off / 8 * 8) + 2 ^ 32 * b.blockWord (off / 8 * 8 + 4) else b.blockWord (off / 4 * 4)

/-- The registers that a store of 4 or 8 bytes reaches: a 64-bit register is written only by 8 bytes. -/
def regsHit (off : Nat) (wide : Bool) : List (Nat × Nat) :=
  frozenRegs.filter (fun r => if r.2 = 8 then decide (r.1 / 8 = off / 8) else decide (r.1 = off ∨ (wide = true ∧ r.1 / 8 = off / 8)))

/-! ### The scrub (R416) -/

/-- A context of a core stops without record or dump: its copies that have not begun are cancelled, and it neither holds the width nor
waits in a SYNC any more. -/
def Core.stopSlot (c : Core) (i : Nat) : Core :=
  let x := c.ctx i
  let d := (({ c with
    ops := c.ops.filter (fun o => decide (o.tag ≠ x.tag) || o.begun)
    sync := c.sync.filter (fun w => decide (w.ctx ≠ i))
    lanes := c.lanes.filter (fun l => decide (l.ctx ≠ i)) } : Core).setCtx i { x.stop with dumped := true }).dropCommits i
  if d.holder = some i then { d with holder := none, lastHolder := i }
  else if d.entering = some i then { d with entering := none, switchLeft := 0 } else d

/-- Step 1: every context of the partition's launches stops, those in images too: none of them resumes, and nothing waits for what was
saved with them. What its launches hold is released with their records (R375). -/
def State.stopPart (s : State) (p : Nat) : State :=
  let stopCore := fun (c : Core) => [0, 1, 2, 3].foldl (fun c i =>
    if (c.ctx i).life = .free ∨ (c.ctx i).part ≠ p then c else c.stopSlot i) c
  { s with
    images := s.images.filter (fun m => decide (m.ctx.part ≠ p))
    ranges := s.ranges.filter (fun r => (s.launchOf r.launch).all (fun l => decide (l.part ≠ p)))
    cores := s.cores.map (fun (c : Nat × Core) => (c.1, stopCore c.2)) }

/-- Begin the scrub of a partition (R416, steps 1 and 2); how long it takes beyond that of a core is open (DESIGN CHOICE, Log 6). -/
def State.scrubBegin (s : State) (p : Nat) : State :=
  let t := s.stopPart p
  let b := t.part p
  { t.setPart p { b with scrub := true, scrubLeft := 8192 + Config.freeNat s.free } with free := s.free + 1 }

/-- Zero a range of memory, with every write to it that is not yet visible. -/
def State.zeroRange (s : State) (lo hi : Nat) : State :=
  let out := fun (a : Nat) => decide (a < lo ∨ hi ≤ a)
  { s with
    gmem := s.gmem.clearRange lo hi, gpoison := s.gpoison.clearRange (lo / 4) (hi / 4)
    amoHeld := s.amoHeld.filter (fun h => out h.addr), staged := s.staged.filter (fun w => out w.addr)
    cores := s.cores.map (fun (c : Nat × Core) => (c.1, { c.2 with
      gbuf := c.2.gbuf.filter (fun w => out w.addr)
      dirty := c.2.dirty.filter (fun d => out d.1) })) }

/-- Every owned core is scrubbed. -/
def State.scrubRows (s : State) (p : Nat) : State :=
  s.cores.foldl (fun t c => if t.coreOf p c.1 then t.setCore c.1 (t.core c.1).scrub else t) s

/-- STOP takes effect: the registers unfreeze, PT_ERR is cleared, and STATE is 0. -/
def State.unlockPart (s : State) (p session : Nat) : State :=
  let b := s.part p
  (s.setPart p { b with state := 0, err := 0, stopAfter := none }).reply (.partition session [0x10, 0x85, BitVec.ofNat 8 p, 0])

/-- The records that ERROR leaves, with the release of what each launch held (R375, R416): FAULT where it was placed, CANCELLED in the
pool. -/
def State.endLaunches (s : State) (p : Nat) : State :=
  (s.launches.filter (fun l => l.part = p)).foldl (fun t l =>
    (t.complete p l.record.id (if l.phase = .pool then 4 else 2) none).release l) s

/-- The leases of a partition's cores that are past their grant make their scrub, and their test, after the partition's (R430). -/
def State.leasesAgain (s : State) (p : Nat) : State :=
  { s with leases := s.leases.map (fun (l : Lease) =>
      if unitKind l.unit = 0 ∧ s.coreOf p (unitIndex l.unit) = true ∧ (s.unit l.unit).state = .testing then
        { l with scrubbed := false, since := s.wall + 1 } else l) }

/-- The scrub has ended (R416): cores and memory are zero, the completion records are written, and SCRUB is clear. -/
def State.scrubEnd (s : State) (p : Nat) : State :=
  let b := s.part p
  let s1 := ((s.scrubRows p).zeroRange b.range.1 b.range.2).leasesAgain p
  let s2 := ({ s1 with queues := s1.queues.filter (fun q => q.2.part ≠ p) } : State).endLaunches p
  s2.setPart p { b with scrub := false }

/-- Something of a partition is still running: an operation, a KVLD's hold on a page, or ctxS of an owned core. -/
def State.partBusy (s : State) (p : Nat) : Bool :=
  s.cores.any (fun c => c.2.ops.any (fun o => decide (o.part = p)) || (s.coreOf p c.1 && (c.2.svc.isSome || !c.2.svcQueue.isEmpty)))
    || s.kvReads.any (fun r => decide (r.part = p))

/-! ### Register writes (R411, R413) -/

/-- PT_REGISTER_WRITE: in CONFIG_UNLOCKED the register is written; else the write is discarded, and in CONFIG_LOCKED and RUN it
sets PT_ERR and enters ERROR. -/
def State.ptWrite (s : State) (p off : Nat) (wide : Bool) (v : Nat) : State :=
  let b := s.part p
  let hit := regsHit off wide
  if hit = [] then s
  else if b.state = 0 ∧ !b.scrub then
    s.setPart p (hit.foldl (fun b r =>
      if r.2 = 8 then (if wide && off % 8 = 0 then b.put r.1 v else b)
      else b.put r.1 (if r.1 = off then v else v / 2 ^ 32)) b)
  else if b.state = 1 ∨ b.state = 2 then
    let first := (hit.headD (0, 0)).1
    let s1 := s.setPart p { b with state := 3, err := BitVec.ofNat 32 (first * 2 ^ 16 + 1) }
    if b.scrub then s1 else s1.scrubBegin p
  else s

/-! ### LOCK (R412) -/

/-- The dies that hold an owned core. -/
def Partition.dies (b : Partition) : List Nat := (List.range 8).filter (fun d => decide (b.cores.extractLsb' (8 * d) 8 ≠ 0))

/-- Two ranges overlap. -/
def spansMeet (a n b m : Nat) : Bool := decide (n ≠ 0 ∧ m ≠ 0 ∧ a < b + m ∧ b < a + n)

/-- The used windows: base and size. -/
def Partition.windows (b : Partition) : List (Nat × Nat) :=
  ((List.range 4).map (fun i => ((b.bases.getD i 0).toNat, (b.sizes.getD i 0).toNat))).filter (fun w => w.2 ≠ 0)

/-- A resource of one block is a resource of another (R412, R419); ways are owned on a die, host memory by the windows. -/
def Partition.conflicts (b q : Partition) : Bool :=
  decide (b.cores &&& q.cores ≠ 0) || decide (b.memslot &&& q.memslot ≠ 0)
    || (decide (b.l2ways &&& q.l2ways ≠ 0) && b.dies.any q.dies.contains)
    || spansMeet (b.mem.extractLsb' 0 11).toNat (b.mem.extractLsb' 16 11).toNat (q.mem.extractLsb' 0 11).toNat
         (q.mem.extractLsb' 16 11).toNat
    || spansMeet (b.kvten.extractLsb' 0 8).toNat (b.kvten.extractLsb' 8 8).toNat (q.kvten.extractLsb' 0 8).toNat
         (q.kvten.extractLsb' 8 8).toNat
    || b.windows.any (fun w => q.windows.any (fun v => spansMeet w.1 w.2 v.1 v.2))

/-- The used windows are aligned powers of two. -/
def Partition.windowsAligned (b : Partition) : Bool :=
  b.windows.all (fun w => decide (w.1 % w.2 = 0 ∧ 2 ^ w.2.log2 = w.2))

/-- The used windows do not overlap. -/
def Partition.windowsApart (b : Partition) : Bool :=
  (List.range 4).all (fun i => (List.range i).all (fun j =>
    !spansMeet (b.bases.getD i 0).toNat (b.sizes.getD i 0).toNat (b.bases.getD j 0).toNat (b.sizes.getD j 0).toNat))

/-- A range of bytes lies in the partition's memory. -/
def Partition.holds (b : Partition) (a n : Nat) : Bool := decide (b.range.1 ≤ a ∧ a + n ≤ b.range.2)

/-- The base tables lie in the partition's memory: the page table's root, the handle table, the KV page table's header, the
completion area, the first bytes of the dump area, and the image pool. -/
def Partition.tablesInside (b : Partition) : Bool :=
  b.holds b.ptroot.toNat 16384 && b.holds b.htbase.toNat (64 * b.htcount.toNat) && b.holds b.kvptbase.toNat 16
    && b.holds b.cmpbase.toNat 65536 && b.holds b.dumpbase.toNat 256
    && (decide (b.imgsize = 0) || b.holds b.imgpool.toNat (65536 * b.imgsize.toNat))

/-- A row may be taken: no other partition owned it before, or none of its cores and W-banks is under lease (R386; DESIGN CHOICE, Log 60:
a LOCK that would move a unit meanwhile fails with reason 3). -/
def State.rowMoves (s : State) (p row : Nat) : Bool :=
  decide (s.rowOwner.get 0 row = p + 1 ∨ s.rowOwner.get 0 row = 0) || s.units.all (fun u =>
    !(u.2.leased || decide (u.2.state = .returned)) || !(decide (unitKind u.1 = 0 ∧ unitIndex u.1 / 8 = row)
      || decide (unitKind u.1 = 1 ∧ unitIndex u.1 / 128 = row)))

/-- The core rows that a block owns. -/
def Partition.rows (b : Partition) : List Nat := (List.range 64).filter (fun i => b.cores.getLsbD i)

/-- No move takes a W-page from the partition or to it: both stay in CONFIG_UNLOCKED while MG_WPMOVE is busy (R420; DESIGN CHOICE, Log 60:
a LOCK meanwhile fails with reason 3). -/
def State.noMove (s : State) (p : Nat) : Bool :=
  match s.move with
  | some m => decide (m.target ≠ p ∧ attrPart (s.pageAttr m.rank m.page) ≠ p)
  | none => true

/-- The checks of LOCK (R386, R412, R420). -/
def State.lockOk (s : State) (p : Nat) : Bool :=
  let b := s.part p
  s.noMove p && b.rows.all (s.rowMoves p) && s.parts.all (fun q => decide (q.1 = p ∨ q.2.state = 0) || !b.conflicts q.2)
    && b.windowsAligned && b.windowsApart && b.tablesInside
    && decide ((b.mem.extractLsb' 16 11).toNat = 0
      ∨ (b.mem.extractLsb' 0 11).toNat + (b.mem.extractLsb' 16 11).toNat ≤ 1535)

/-- The launch queues that PT_LQ names. -/
def Partition.launchQueues (b : Partition) : List Nat :=
  ((List.range 4).filter (fun i => b.lq.getLsbD (16 * i + 15))).map (fun i => (b.lq.extractLsb' (16 * i) 12).toNat)

/-- A launch queue of a partition; where its memory lies and its size are not given (DESIGN CHOICE, Log 6). Its header says what it is,
where its memory is mapped; HEAD and TAIL stay (R365, R368; DESIGN CHOICE, Log 60: written at LOCK). -/
def State.addLaunchQueue (s : State) (p q : Nat) : State :=
  let r : QueueReg := { base := 4096 * Config.freeNat s.free, log2 := 4 + Config.freeNat (s.free + 1) % 13, part := p, launch := true,
                         gen := s.queueGen }
  let t : State := { s with free := s.free + 2, queueGen := s.queueGen + 1, queues := s.queues.put q r }
  t.queuePut r 8 (bytesOf q 2 ++ bytesOf r.log2 1 ++ [3] ++ bytesOf p 1 ++ List.replicate 51 0)

/-- The rows that a partition takes from another, which a warm start kept from its scrub, are scrubbed as they move (R386; DESIGN
CHOICE, Log 60). -/
def State.scrubMoved (s : State) (p : Nat) : State :=
  let rows := (s.part p).rows
  let moved := rows.filter (fun i => s.unscrubbed.contains i && decide (s.rowOwner.get 0 i ≠ p + 1))
  s.cores.foldl (fun t c => if moved.contains (c.1 / 8) then t.setCore c.1 (t.core c.1).scrub else t)
    { s with unscrubbed := s.unscrubbed.filter (fun i => !rows.contains i) }

/-- LOCK (R412): the registers freeze, with the lock time and a fresh nonce, in one step. -/
def State.lockPart (s0 : State) (p : Nat) : State :=
  let s := s0.scrubMoved p
  let b := s.part p
  let s1 := s.setPart p { b with
    state := 1, lockTime := BitVec.ofNat 64 s.wall, nonce := BitVec.ofNat 64 (Config.freeNat s.free) }
  b.launchQueues.foldl (fun t q => t.addLaunchQueue p q) { s1 with
    free := s.free + 1, apertureLocked := true, rowOwner := b.rows.foldl (fun m i => m.put i (p + 1)) s.rowOwner }

/-! ### Messages (R410, R414, R422) -/

/-- The weight images with a page of a partition, ascending. -/
def State.partImages (s : State) (p : Nat) : List Nat :=
  s.imagesHeld.filter (fun n => (s.members n).any (fun m => decide (attrPart (s.pageAttr m.1 m.2) = p)))

/-- An image in the report; a root that has not been formed is reported as zeros. -/
def State.imageReport (s : State) (n : Nat) : List Byte :=
  let ms := s.members n
  let root := match s.imageValue n with
    | some r => r
    | none => List.replicate 48 0
  bytesOf n 1 ++ [0] ++ bytesOf ms.length 2 ++ bytesOf 0 4 ++ root ++ ms.flatMap (fun m => bytesOf m.1 2 ++ bytesOf m.2 2)

/-- The interface report (R414). -/
def State.report (s : State) (p : Nat) : List Byte :=
  let b := s.part p
  bytesOf p 1 ++ [0x10, 0, 0] ++ bytesOf b.stateWord.toNat 4 ++ bytesOf b.lockTime.toNat 8 ++ bytesOf b.cores.toNat 8
    ++ bytesOf b.l2ways.toNat 4 ++ bytesOf b.kvten.toNat 4 ++ bytesOf b.mem.toNat 4 ++ bytesOf b.memslot.toNat 4
    ++ (List.range 4).flatMap (fun i => bytesOf (b.bases.getD i 0).toNat 8 ++ bytesOf (b.sizes.getD i 0).toNat 8)
    ++ bytesOf (s.partImages p).length 4 ++ (s.partImages p).flatMap s.imageReport

/-- A response to a partition-interface message. -/
def State.partReply (s : State) (session code p : Nat) (payload : List Byte) : State :=
  s.reply (.partition session ([0x10, BitVec.ofNat 8 code, BitVec.ofNat 8 p, 0] ++ payload))

/-- A message that is turned away, with its reason: 1 state, 2 partition, 3 configuration, 4 nonce. -/
def State.partRefuse (s : State) (session p reason : Nat) : State := s.partReply session 0x7F p [BitVec.ofNat 8 reason]

/-- Change an open session. -/
def State.setSession (s : State) (session : Nat) (f : Session → Session) : State :=
  { s with sessions := s.sessions.map (fun (y : Session) => if y.id = session then f y else y) }

/-- The session of a message and its binding (R422): a first message binds it. One session is not bound and reads every report: it is the
one that begins with GET_REPORT while no other open session is that (DEDUCED, Log 20). `none`: there is no such session. -/
def State.sessionFor (s : State) (session p : Nat) (report : Bool) : Option (Option State) :=
  match s.session session with
  | none => none
  | some x =>
    if !x.established then none
    else if 16 ≤ p then some none
    else match x.bound with
      | some q => some (if q = p then some s else none)
      | none =>
        if x.manager then some (if report then some s else none)
        else if report && s.sessions.all (fun y => !y.manager) then some (some (s.setSession session (fun y => { y with manager := true })))
        else if s.sessions.any (fun y => decide (y.bound = some p)) then some none
        else some (some (s.setSession session (fun y => { y with bound := some p })))

/-- Serve a partition-interface message: its session and partition are checked, then the state that it needs. -/
def State.message (s : State) (session p : Nat) (report : Bool) (states : List Nat) (f : State → State) : State :=
  match s.sessionFor session p report with
  | none => s
  | some none => s.partRefuse session p 2
  | some (some t) => if states.contains (t.part p).state then f t else t.partRefuse session p 1

/-- GET_STATE. -/
def State.getState (s : State) (session p : Nat) : State :=
  s.message session p false [0, 1, 2, 3] (fun t => t.partReply session 0x81 p (bytesOf (t.part p).stateWord.toNat 4))

/-- LOCK. -/
def State.lock (s : State) (session p : Nat) : State :=
  s.message session p false [0] (fun t =>
    if t.lockOk p then
      let u := t.lockPart p
      u.partReply session 0x82 p (bytesOf (u.part p).nonce.toNat 8)
    else t.partRefuse session p 3)

/-- GET_REPORT. -/
def State.getReport (s : State) (session p : Nat) : State :=
  s.message session p true [1, 2] (fun t => t.partReply session 0x83 p (t.report p))

/-- START. -/
def State.startPart (s : State) (session p : Nat) (nonce : DWord) : State :=
  s.message session p false [1] (fun t =>
    if nonce = (t.part p).nonce then (t.setPart p { t.part p with state := 2 }).partReply session 0x84 p []
    else t.partRefuse session p 4)

/-- STOP: in ERROR it waits for the scrub; in CONFIG_LOCKED and RUN it makes one first. -/
def State.stopPartition (s : State) (session p : Nat) : State :=
  s.message session p false [1, 2, 3] (fun t =>
    let b := t.part p
    if b.state = 3 ∧ !b.scrub then t.unlockPart p session
    else
      let u := t.setPart p { b with stopAfter := some session }
      if b.scrub then u else u.scrubBegin p)

/-! ### Service in order (R411, R413) -/

/-- The block serves a register write or a request. -/
def State.servePart (s : State) (p : Nat) (r : PartRequest) : State :=
  match r with
  | .write off wide v => s.ptWrite p off wide v
  | .getState n => s.getState n p
  | .lock n => s.lock n p
  | .getReport n => s.getReport n p
  | .start n nonce => s.startPart n p nonce
  | .stop n => s.stopPartition n p

/-- A write or a request arrives: one at a time is served, so it waits while a STOP waits for its scrub. -/
def State.askPart (s : State) (p : Nat) (r : PartRequest) : State :=
  let b := s.part p
  if b.stopAfter.isSome then s.setPart p { b with waiting := b.waiting ++ [r] } else s.servePart p r

/-- What has waited is served in order. -/
def State.serveWaiting (s : State) (p : Nat) : State :=
  let b := s.part p
  b.waiting.foldl (fun t r => t.askPart p r) (s.setPart p { b with waiting := [] })

/-- PARTITION_SCRUB_DONE (R416): the scrub ends, and a STOP that waited for it takes effect. -/
def State.scrubDone (s : State) (p : Nat) : State :=
  let t := s.scrubEnd p
  match (s.part p).stopAfter with
  | some n => (t.unlockPart p n).serveWaiting p
  | none => t

/-- A cycle of the scrubs. -/
def State.scrubsCycle (s : State) : State :=
  s.parts.foldl (fun t q =>
    let b := t.part q.1
    if !b.scrub then t
    else if b.scrubLeft ≠ 0 then t.setPart q.1 { b with scrubLeft := b.scrubLeft - 1 }
    else if t.partBusy q.1 then t
    else t.scrubDone q.1) s

/-- A host access to a block: a read is served at once (R413). -/
def State.blockAccess (s : State) (a : BlockAccess) : State :=
  match a.value with
  | some v => s.askPart a.part (.write a.off a.wide v)
  | none => s.reply (.partRegister a.part a.off ((s.part a.part).read a.off a.wide))

/-- The host's accesses to the blocks that arrive in a cycle: they are served before a request of that cycle (R411). -/
def State.blockCycle (s : State) : State :=
  if s.accesses = [] ∨ s.powered = false then s
  else (s.accesses.filter (fun a => decide (a.at_ ≤ s.wall))).foldl State.blockAccess
    { s with accesses := s.accesses.filter (fun a => decide (s.wall < a.at_)) }

end Sys2Proof.Machine
end

