-- ==== Sys2Proof/Machine/HostLink.lean ====
section
/-! DEFINITION. The host's and the board's side (R366, R385, R420, R423, R424, R426, R428): the aperture, the management block,
heat and power, and flits from other packages. -/
namespace Sys2Proof.Machine
open Sys2Proof

/-! ### The aperture (R366, R423) -/

/-- An address lies in a range of a partition in RUN or CONFIG_LOCKED. -/
def State.hostRange (s : State) (pa : Nat) : Bool :=
  decide (pa < gEnd) && s.parts.any (fun q => decide (q.2.state = 1 ∨ q.2.state = 2) && s.inPart q.1 pa)

/-- The G-physical address that a host-physical address reaches through the aperture of 2 TiB at MG_APERTURE (R423). -/
def State.throughAperture (s : State) (hpa : Nat) : Option Nat :=
  if s.aperture.toNat ≤ hpa ∧ hpa < s.aperture.toNat + 2 ^ 41 then some (hpa - s.aperture.toNat) else none

/-- A byte as the host reads it at a host-physical address, and whether its line reaches it marked poisoned (R392): coherent with the
cores (R310), and zero in every other range. -/
def State.hostByte (s : State) (hpa : Nat) : Byte × Bool :=
  match s.throughAperture hpa with
  | some pa => if s.hostRange pa then s.gSeen Config.cores 0 pa else (0, false)
  | none => (0, false)

/-- The host's store of one aligned word: it takes its place in the word's coherence order (R311, R366, R423). -/
def State.hostWord (s : State) (w : Nat × BitVec 4 × Word × Bool) : State :=
  match s.throughAperture w.1 with
  | some pa => if s.hostRange pa then s.gWord none pa w.2.1 w.2.2.1 false else s
  | none => s

/-- HOST_APERTURE_ACCESS (R423) at a host-physical address: a read gives as many bytes as are named. -/
def State.hostAccess (s : State) (hpa : Nat) (write : Bool) (bytes : List Byte) : State :=
  if write then (splitWords hpa (bytes.map (fun b => (b, false)))).foldl State.hostWord s
  else s.reply (.hostRead hpa ((List.range bytes.length).map (fun i => s.hostByte (hpa + i))))

/-- HOST_TAIL_WRITE (R366): one aligned store of a queue's TAIL, accepted or refused at the home slice. -/
def State.hostTail (s : State) (hpa : Nat) (v : Word) : State := if hpa % 4 = 0 then s.hostWord (hpa, 15, v, false) else s

/-! ### The management block (R420, R423, R424, R428) -/

/-- A partition is in CONFIG_UNLOCKED. -/
def State.unlocked (s : State) (p : Nat) : Bool := decide ((s.part p).state = 0)

/-- MG_WPMOVE_WRITE (R420): the write starts a move, or is refused. -/
def State.writeWpmove (s : State) (v : Word) : State :=
  let page := (v.extractLsb' 0 10).toNat
  let rank := (v.extractLsb' 10 9).toNat
  let target := (v.extractLsb' 19 4).toNat
  if s.wpmove.getLsbD 31 then { s with wpmove := s.wpmove ||| 0x40000000#32 }
  else if 768 ≤ page ∨ ¬ s.unlocked target = true ∨ ¬ s.unlocked (attrPart (s.pageAttr rank page)) = true then
    { s with wpmove := (v &&& 0x7FFFFF#32) ||| 0x40000000#32 }
  else { s with wpmove := (v &&& 0x7FFFFF#32) ||| 0x80000000#32, move := some { rank := rank, page := page, target := target, row := 0 } }

/-- MG_REMEAS_WRITE (R424): a measurement of an image begins, with the pages that are its members then (R281). What is written to BUSY and
to the reserved bits is ignored (R11, R12); an IMAGE below 16 starts nothing. -/
def State.writeRemeas (s : State) (v : Word) : State :=
  let image := v.extractLsb' 0 5
  if s.remeas.getLsbD 31 ∨ image.toNat < 16 then s
  else { s with
    remeas := image.setWidth 32 ||| 0x80000000#32
    measures := s.measures ++ [{ image := image.toNat, pages := (s.members image.toNat).map (fun p => { rank := p.1, page := p.2 }) }] }

/-- TMAX: the hottest core sensor (R428). -/
def State.thermMax (s : State) : Nat := s.sensors.foldl (fun m t => max m t.2) 0

/-- MG_THERM (R428). -/
def State.thermWord (s : State) : Word := BitVec.ofNat 32 (s.thermEvents * 65536 + s.thermLim % 256 * 256 + s.thermMax % 256)

/-- MG_THERM_READ: the count of events is cleared. -/
def State.readTherm (s : State) : State := { s with thermEvents := 0 }.reply (.register 0x10020 s.thermWord.toNat)

/-- MG_APERTURE (R423): written only before a partition leaves CONFIG_UNLOCKED. -/
def State.writeAperture (s : State) (v : DWord) : State :=
  if s.apertureLocked then s else { s with aperture := v &&& 0x000FFE0000000000#64 }

/-- TLIM of MG_THERM (R428): 85 to 105. -/
def State.writeTherm (s : State) (v : Nat) : State :=
  if 85 ≤ v ∧ v ≤ 105 then { s with thermLim := v } else s

/-- MANAGEMENT_WRITE: a register of the management block; no other offset holds one. -/
def State.writeManagement (s : State) (off : Nat) (v : DWord) : State :=
  match off with
  | 0x10000 => s.writeAperture v
  | 0x10008 => s.writeRemeas (v.extractLsb' 0 32)
  | 0x10010 => s.writeWpmove (v.extractLsb' 0 32)
  | 0x10020 => s.writeTherm (v.extractLsb' 8 8).toNat
  | _ => s

/-- A read of a register of the management block (R12); no other offset holds one, and reads as zero. -/
def State.readManagement (s : State) (off : Nat) : State :=
  match off with
  | 0x10000 => s.reply (.register off s.aperture.toNat)
  | 0x10008 => s.reply (.register off s.remeas.toNat)
  | 0x10010 => s.reply (.register off s.wpmove.toNat)
  | 0x10020 => s.readTherm
  | _ => s.reply (.register off 0)

/-- The reads of the management block that arrive in a cycle. -/
def State.managementCycle (s : State) : State :=
  if s.mgReads = [] ∨ s.powered = false then s
  else (s.mgReads.filter (fun r => decide (r.at_ ≤ s.wall))).foldl (fun t r => t.readManagement r.off)
    { s with mgReads := s.mgReads.filter (fun r => decide (s.wall < r.at_)) }

/-! ### Heat and power (R428) -/

/-- The cycles for which a core is frozen in an interval. -/
def stretchOf (lim temp : Nat) : Nat := if lim + 5 ≤ temp then 768 else if lim ≤ temp then 256 else 0

/-- A core is frozen for the first `n` cycles of the interval, as far as they are still to come. -/
def State.stretchCore (s : State) (rank n : Nat) : State :=
  let c := s.core rank
  let left := n - s.wall % 1024
  if left ≤ c.stretch then s else s.setCore rank { c with stretch := left }

/-- Heat and power make the stretches of this interval, as far as its first cycles are still to come (R428): each core whose sensor reads at
or above TLIM, and while the package draws too much every core. EVENTS counts an interval once. -/
def State.stretches (s : State) : State :=
  let hot := s.sensors.filter (fun t => decide (t.1 < Config.cores ∧ s.wall % 1024 < stretchOf s.thermLim t.2))
  let power := s.overPower && decide (s.wall % 1024 < 128)
  let s1 := hot.foldl (fun u t => u.stretchCore t.1 (stretchOf s.thermLim t.2)) s
  let s2 := if power then (List.range Config.cores).foldl (fun u r => u.stretchCore r 128) s1 else s1
  if (hot = [] ∧ power = false) ∨ s.thermMark = s.wall / 1024 + 1 then s2
  else { s2 with thermEvents := Nat.min 65535 (s.thermEvents + 1), thermMark := s.wall / 1024 + 1 }

/-- The beginning of an interval of 1,024 cycles (R428). -/
def State.intervalCycle (s : State) : State := if s.wall % 1024 = 0 then s.stretches else s

/-- CLOCK_STRETCH (R428): sensors' readings (rank and °C), and whether the package draws more than 2,000 W; both stand until the next
report. A reading of 115 °C removes power. -/
def State.clockStretch (s : State) (temps : List (Nat × Nat)) (overPower : Bool) : State :=
  if temps.any (fun t => decide (115 ≤ t.2)) then s.powerLoss
  else ({ s with sensors := temps.foldl (fun m t => m.put t.1 t.2) s.sensors, overPower := overPower } : State).stretches

/-! ### The fabric (R385, R426, R427) -/

/-- A lease of a port is testing its lanes. -/
def State.portLeased (s : State) (p : Nat) : Bool := decide ((s.unit (unitId 5 p)).state = .testing)

/-- LANE_WIDTH_CHANGE (R385): half width while a lane is tested, or retired; full width once none is. While the port's own lease tests
its lanes, the width and the lane are the lease's. -/
def State.laneWidth (s : State) (p lane : Nat) (half : Bool) : State :=
  if s.portLeased p then s
  else if half then
    let t := s.portWidth p true
    t.setPort p { t.port p with testing := some lane }
  else
    let t := if (s.port p).retired.isEmpty then s.portWidth p false else s
    t.setPort p { t.port p with testing := none }

/-- What a header names (R426); its layout is not given. -/
def flitHeader (h : BitVec 128) : FlitHeader :=
  { source := Config.flitField h 0 % 4096, dest := Config.flitField h 1 % 4096, part := Config.flitField h 2 % 16,
    cls := Config.flitField h 3, stream := Config.flitField h 4 % 16 }

/-- FABRIC_FLIT_RECEIVED (R426, R427): a flit of another package reads 64 bytes or writes bytes of a partition that names that package,
and a read is answered by a flit; one for a third package goes on its way. -/
def State.flitReceived (s : State) (source : Nat) (header : BitVec 128) (payload : BitVec 512) : State :=
  let h := flitHeader header
  let pa := Config.flitAddr payload
  let data := (Config.flitData payload).take 64
  if h.dest ≠ Config.packageNumber then
    { s with flitsDue := s.flitsDue ++ [{ header := { h with source := source }, payload := bytesOf payload.toNat 64 }] }
  else if s.fabricAllows h.part source = false ∨ (s.checkRange h.part pa (pa + 63)).isSome = true then s
  else if h.cls = 0 then
    { s with flitsDue := s.flitsDue ++ [{
        header := { source := Config.packageNumber, dest := source, part := h.part, cls := 2, stream := h.stream }
        payload := flitPayload 2 pa ((List.range 64).map (fun i => (s.gSeen Config.cores 0 (pa + i)).1)) }] }
  else if h.cls = 1 then
    (splitWords pa (data.map (fun b => (b, false)))).foldl (fun t w => t.gWord none w.1 w.2.1 w.2.2.1 false) s
  else s

end Sys2Proof.Machine
end

