-- ==== Sys2Proof/Machine/Package.lean ====
section
/-! DEFINITION. A wall cycle of the package (R14, R113): its cores, their engines, and what the package's own units do (DESIGN CHOICE, Log 5). -/
namespace Sys2Proof.Machine
open Sys2Proof

/-- The ranks that the state lists. -/
def State.ranks (s : State) : List Nat := s.cores.map Prod.fst

/-- The cores' part of a cycle. -/
def State.coresCycle (s : State) : State :=
  let s1 := s.ranks.foldl State.beginCore s
  let s2 := s1.ranks.foldl State.corePhase s1
  (s2.ranks.foldl State.enginesCycle s2).containmentPublish.containmentDiscard

/-- Translation and the walks (R294 to R298). -/
def State.walksCycle (s : State) : State := s.walksComplete.walksAdvance.walksRetry.monitorsWake.dropWalks

/-- The package's units. -/
def State.unitsCycle (s : State) : State :=
  let s1 := (s.ranks.foldl State.endLeavers s).reductionApply.shedsCycle.walksCycle.groupsCycle.serveQueues
  let s2 := s1.saves.drainWrites
  if s2.started then s2.flitsCycle.scrubsCycle.pavilionCycle.dumpStops.lodgeCycle.noticeItems.measureCycle else s2.startCycle

/-- The end of the cycle on every core. -/
def State.finishCycle (s : State) : State :=
  let s2 := { s with cores := s.cores.map (fun (c : Nat × Core) => (c.1, c.2.endCycle s.wall)) }.kvLeave.chargeFailures.saveUnits
  { s2 with wall := s.wall + 1, cur := 0, who := 0 }

/-- One wall cycle; without power none passes. -/
def State.wallCycle (s : State) : State := if s.powered then s.intervalCycle.errorsCycle.coresCycle.unitsCycle.finishCycle.fatalCycle else s

/-- What the outside may ask of the package: power, resets, messages, host accesses, flits and sensor readings. Every other
step happens of itself (DESIGN CHOICE, Log 5). -/
def fromOutside (i : Instr) : Bool :=
  match i with
  | .clockStretch .. | .thermalShutdown | .powerOn | .reset | .powerLoss | .packageDump => true
  | .getVersion _ | .getCapabilities _ | .negotiateAlgorithms .. | .getDigests _ | .getCertificate .. | .challenge .. => true
  | .getMeasurements .. | .keyExchange .. | .finish _ | .unsupportedRequest .. | .sessionEnd _ => true
  | .getState .. | .lock .. | .getReport .. | .start .. | .stop .. | .ptRegisterWrite .. => true
  | .hostTailWrite .. | .hostApertureAccess .. | .mgWpmoveWrite _ | .mgRemeasWrite _ | .mgThermRead | .managementWrite .. => true
  | .fabricAck .. | .laneWidthChange .. | .fabricFlitReceived .. => true
  | _ => false

/-! ### Placing a program (DESIGN CHOICE, Log 3) -/

/-- A context that holds the issue width of its core and has nothing under way but its next bundle. -/
def Ctx.atBundle (x : Ctx) : Ctx :=
  { x with
    life := .live, owedN := 0, owedB := 0, bubbles := 0, wait := none, waitOver := false, after := .none, afterNow := false, engineTraps := []
    loop := {}, replayArmed := false, svcHeld := false, xfer := .none, liveHalf := x.pc / 0x20000 }

/-- A core on which context 0 issues the bundle at its program counter in its next cycle: the stored bundle is a header and one
word, in the slot of its class. -/
def Core.withBundle (c : Core) (slot : Nat) (w : Word) : Core :=
  let x := (c.ctx 0).atBundle
  { (c.iStore x.pc ((bytesOf (headerOf slot).toNat 4 ++ bytesOf w.toNat 4).map (fun b => (b, false)))).setCtx 0 x with
    holder := some 0, switchLeft := 0, entering := none, freeze := 0, stretch := 0, sync := [], svc := none, svcQueue := []
    fetchBuf := [], cmds := [] }

/-- The package, started, with that core as rank 0. -/
def State.withBundle (s : State) (slot : Nat) (w : Word) : State :=
  { s.setCore 0 ((s.core 0).withBundle slot w) with
    powered := true, inbox := [], accesses := [], mgReads := [], start := { s.start with step := 9, stopped := false } }

end Sys2Proof.Machine
end

