-- ==== Sys2Proof/Machine/Events.lean ====
section
/-! DEFINITION. The steps that no bundle asks for: each does what of its kind is due in the package now, and nothing when none
is. A wall cycle does them in its own order (DESIGN CHOICE, Log 5). -/
namespace Sys2Proof.Machine
open Sys2Proof

/-! ### Helpers -/

/-- Something done on every core that the state lists, each acting in turn. -/
def State.eachCore (s : State) (f : State → State) : State :=
  { s.ranks.foldl (fun t r => f ({ t with cur := r } : State)) s with cur := s.cur }

/-- Something done to every core. -/
def State.mapCores (s : State) (f : Core → Core) : State :=
  { s with cores := s.cores.map (fun (c : Nat × Core) => (c.1, f c.2)) }

/-- Something done for every operation of every core that has begun and not performed. -/
def State.eachOp (s : State) (f : State → Nat → COp → State) : State :=
  s.cores.foldl (fun t c => c.2.ops.foldl (fun u o => match u.findOp c.1 o.id with
    | some p => if p.begun && !p.performed && p.fault.isNone then f u c.1 p else u
    | none => u) t) s

/-- An answer to the outside needs power. -/
def State.ifPowered (s : State) (f : State → State) : State := if s.powered then f s else s

/-! ### Bundles and contexts -/

/-- EXPOSED_RESULT_LAND (R36). -/
def execExposedResultLand (s : State) : Out := .next (s.eachCore State.landUsers)

/-- WAIT_END (R75, R97, R98, R206). -/
def execWaitEnd (s : State) : Out := .next (s.mapCores (fun c => (c.endWaits c).endWprogWaits))

/-- The holder of the acting core waits for a word after 16 frozen cycles. -/
def State.feTimeout (s : State) : State :=
  match s.me.holder with
  | none => s
  | some h =>
    let t := ({ s with who := h } : State)
    match t.issueCycle.1 with
    | some (.word a f) =>
      if 16 ≤ t.ctx.feFrozen then { t.updCtx (fun x => { x with wait := some (.word a f) }) with who := s.who } else s
    | _ => s

/-- FE_FREEZE_TIMEOUT (R153). -/
def execFeFreezeTimeout (s : State) : Out := .next (s.eachCore State.feTimeout)

/-- QUANTUM_EXPIRY (R221). -/
def execQuantumExpiry (s : State) : Out := .next (s.mapCores (fun c => match c.holder with
  | some h => c.setCtx h (c.ctx h).quantumTick
  | none => c))

/-- CONTEXT_SWITCH (R220): one cycle of the selector of every core. -/
def execContextSwitch (s : State) : Out := .next (s.mapCores Core.selectNow)

/-- SERVICE_REQUEST (R234). -/
def execServiceRequest (s : State) : Out := .next (s.mapCores Core.startService)

/-- PREEMPTION (R236). -/
def execPreemption (s : State) : Out := .next s.saves

/-- CONTEXT_RESUME (R237). -/
def execContextResume (s : State) : Out :=
  .next (s.considered.foldl (fun t l => if l.phase = .pool then t else (t.resumeLaunch l.key).1) s)

/-- IMAGE_WRITE_DRAINED (R236). -/
def execImageWriteDrained (s : State) : Out :=
  let done := s.imageWrites.filter (fun w => w.left = 0)
  .next (done.foldl (fun t w => t.setCore w.rank ((t.core w.rank).setCtx w.slot {}))
    { s with imageWrites := s.imageWrites.filter (fun w => w.left ≠ 0) })

/-- SYNC_RESTART (R102, R104). -/
def execSyncRestart (s : State) : Out := .next (s.ranks.foldl State.syncRestart s)

/-- SYNC_TIMEOUT (R363). -/
def execSyncTimeout (s : State) : Out := .next s.syncTimeouts.savedTimeouts

/-! ### The matrix engine -/

/-- A result in flight is a tile's commit. -/
def Pend.isCommit (e : Pend) : Bool := e.writes.any (fun w => match w with
  | .commit _ => true
  | _ => false)

/-- Land the commits of a context that are due. -/
def Core.landCommits (c : Core) (i : Nat) : Core :=
  let x := c.ctx i
  let due := fun (e : Pend) => e.isCommit && decide (e.due ≤ x.clock)
  let r := c.landNow { x with pend := x.pend.filter (fun e => !due e) } (x.pend.filter due)
  r.1.setCtx i r.2

/-- The commits of every user context of the acting core, unless they are late. -/
def State.commitsNow (s : State) : State :=
  [0, 1, 2, 3].foldl (fun t i => if t.commitLate i then t else t.updCore (fun c => c.landCommits i)) s

/-- MATRIX_COMMIT (R170). -/
def execMatrixCommit (s : State) : Out := .next (s.eachCore State.commitsNow)

/-- MMAS_COMMIT (R175). -/
def execMmasCommit (s : State) : Out := .next (s.eachCore State.mmasCommits)

/-- COMMAND_ABANDON (R179). -/
def execCommandAbandon (s : State) : Out := .next (s.eachCore State.matrixFaults)

/-- LOAD_PIPE_DATA_ARRIVAL (R247). -/
def execLoadPipeDataArrival (s : State) : Out := .next (s.eachCore State.loadPipes)

/-! ### The engines -/

/-- OPERATION_COMPLETE (R185). -/
def execOperationComplete (s : State) : Out :=
  .next (s.cores.foldl (fun t c => c.2.ops.foldl (fun u o => u.finishOp c.1 o.id) t) s).kvLeave

/-- OPERATION_FAULT (R186). -/
def execOperationFault (s : State) : Out :=
  .next (s.cores.foldl (fun t c => c.2.ops.foldl (fun u o => u.failOp c.1 o.id) t) s).kvLeave

/-- BARRIER_ORDERED_ACTION (R202). -/
def execBarrierOrderedAction (s : State) : Out := .next (s.ranks.foldl State.orderedActions s)

/-- PUB_PERFORM (R191). -/
def execPubPerform (s : State) : Out := .next (s.ranks.foldl State.publishes s)

/-- CPYD_DEADLINE (R192): a core whose holder has missed a deadline is frozen. -/
def execCpydDeadline (s : State) : Out := .next (s.mapCores (fun c => match c.holder with
  | some h => if c.deadlineMissed (c.ctx h) then { c with frozen := true } else c
  | none => c))

/-- EVENT_RECORD_ENQUEUE (R99). -/
def execEventRecordEnqueue (s : State) : Out := .next (s.mapCores (fun c => c.enqueueHeld s.wall c.held.length)).kvLeave

/-- REDUCTION_APPLY (R317). -/
def execReductionApply (s : State) : Out := .next s.reductionApply

/-- CONTAINMENT_PUBLISH (R396). -/
def execContainmentPublish (s : State) : Out := .next s.containmentPublish

/-- HANDLE_ENTRY_ARRIVAL (R203). -/
def execHandleEntryArrival (s : State) : Out := .next (s.mapCores Core.handleAdvance)

/-- A hash whose rows have all been read writes its digest and completes. -/
def State.whashEnd (s : State) (rank : Nat) (o : COp) : State :=
  match o.kind with
  | .whash row count dst => if o.unit = count ∧ o.delay = 0 then (s.whashStep rank o row count dst).finishOp rank o.id else s
  | _ => s

/-- WHASH_COMPLETION (R207). -/
def execWhashCompletion (s : State) : Out := .next (s.eachOp State.whashEnd)

/-- A QDEL destroys its queue. -/
def State.queueEnd (s : State) (rank : Nat) (o : COp) : State :=
  match o.kind with
  | .qdel q => s.qdelStep rank o q
  | _ => s

/-- QUEUE_DESTROY (R367). -/
def execQueueDestroy (s : State) : Out := .next (s.eachOp State.queueEnd)

/-! ### Translation and migration -/

/-- WALK_COMPLETE (R296). -/
def execWalkComplete (s : State) : Out := .next s.walksComplete

/-- MONITOR_WAKE (R297). -/
def execMonitorWake (s : State) : Out := .next s.monitorsWake

/-- WALK_RETRY (R297). -/
def execWalkRetry (s : State) : Out := .next s.walksRetry

/-- A migration that has copied, and whose page no one holds, ends: when it is one that commits, or one that is abandoned. -/
def State.migrationEnd (s : State) (commits : Bool) (rank : Nat) (o : COp) : State :=
  match o.kind with
  | .migr src dst size =>
    let ok := decide ((s.migJudge o.part (copyLoc src).off (copyLoc dst).off (migBytes size)).2 = 0)
    if o.stage = 2 ∧ !s.pageBusy (copyLoc src).off ∧ ok = commits then s.migrStep rank o src dst size else s
  | _ => s

/-- Every such migration. -/
def State.migrationEnds (s : State) (commits : Bool) : State := s.eachOp (fun t r o => t.migrationEnd commits r o)

/-- MIGRATION_COMMIT (R300). -/
def execMigrationCommit (s : State) : Out := .next (s.migrationEnds true)

/-- MIGRATION_ABANDON (R301). -/
def execMigrationAbandon (s : State) : Out := .next (s.migrationEnds false)

/-! ### The weight tier -/

/-- A read that the hash engine or a copy through space 4 waits for is granted, where its bank may accept one. -/
def State.arbiterGrant (s : State) (rank : Nat) (o : COp) : State :=
  if o.delay ≠ 0 then s
  else match o.kind with
    | .whash row count dst => if o.unit < count then s.whashStep rank o row count dst else s
    | .cpy w _ _ _ => if (copyLoc w.src).space = 4 then s.opStep rank o.id else s
    | .cpyd w => if (copyLoc w.src).space = 4 then s.opStep rank o.id else s
    | _ => s

/-- ARBITER_GRANT (R260). -/
def execArbiterGrant (s : State) : Out := .next (s.eachOp State.arbiterGrant)

/-- WPROG_ROW_START (R263). -/
def execWprogRowStart (s : State) : Out := .next ((List.range 8).foldl (fun t d => (t.startRows d 16).rowsFallDue d) s)

/-- PROGRAM_PHASE_END (R263): the rows whose phase ends in this cycle. -/
def execProgramPhaseEnd (s : State) : Out :=
  .next ((s.jobs.filter (fun j => !j.boundary && decide (j.left ≤ 1))).foldl State.jobCycle s)

/-- WPROG_COMPLETION (R265). -/
def execWprogCompletion (s : State) : Out :=
  .next (s.cores.foldl (fun t c => c.2.ops.foldl (fun u o => match o.kind with
    | .wprog .. => u.finishOp c.1 o.id
    | _ => u) t) s).chargeFailures

/-- ATTR_COMMIT (R256). -/
def execAttrCommit (s : State) : Out := .next s.attrCommits

/-- WPAGE_MOVE_DONE (R420). -/
def execWpageMoveDone (s : State) : Out := .next s.wpageMoveDone

/-! ### The Pavilion -/

/-- LAUNCH_DESCRIPTOR_POP (R368). -/
def execLaunchDescriptorPop (s : State) : Out := .next (if s.started then s.popDescriptor else s)

/-- PLACEMENT_PASS (R371). -/
def execPlacementPass (s : State) : Out := .next (if s.started then s.placementPass else s)

/-- CONTEXT_START (R374). -/
def execContextStart (s : State) : Out := .next s.starts

/-- LAUNCH_COMPLETION (R369). -/
def execLaunchCompletion (s : State) : Out := .next s.completions

/-- NOTICE_ITEM_DELIVERY (R354). -/
def execNoticeItemDelivery (s : State) : Out := .next s.noticeItems

/-! ### The Lodge -/

/-- The leases in a state that a test picks go one step further. -/
def State.leasesWhere (s : State) (f : State → Lease → Bool) : State :=
  s.leases.foldl (fun t l => if f t l then t.leaseStep l else t) s

/-- LEASE_START (R377). -/
def execLeaseStart (s : State) : Out := .next s.earlyLeases.rotation.delayedLeases

/-- LEASE_GRANT (R379): a noticed core whose last user context is gone. -/
def execLeaseGrant (s : State) : Out := .next (s.leasesWhere (fun t l =>
  decide (unitKind l.unit = 0 ∧ (t.unit l.unit).state = .noticed) && t.coreClear (unitIndex l.unit)))

/-- GRANT_DEADLINE (R380). -/
def execGrantDeadline (s : State) : Out := .next (s.leasesWhere (fun t l =>
  decide (unitKind l.unit = 0 ∧ (t.unit l.unit).state = .noticed ∧ l.deadline ≤ t.wall) && !t.coreClear (unitIndex l.unit)))

/-- LEASE_PREPARED (R384). -/
def execLeasePrepared (s : State) : Out := .next (s.leasesWhere (fun t l =>
  decide (unitKind l.unit ≠ 0 ∧ (t.unit l.unit).state = .noticed ∧ l.left = 0)))

/-- LEASE_SCRUB_DONE (R380). -/
def execLeaseScrubDone (s : State) : Out := .next (s.leasesWhere (fun t l =>
  decide (unitKind l.unit = 0 ∧ (t.unit l.unit).state = .testing ∧ l.scrubbed = false)))

/-- LEASE_TEST_END (R388). -/
def execLeaseTestEnd (s : State) : Out := .next (s.leasesWhere (fun t l =>
  decide ((t.unit l.unit).state = .testing ∧ (if unitKind l.unit = 0 then l.scrubbed = true else l.left = 0))))

/-! ### Power, starts, heat -/

/-- CLOCK_STRETCH (R428). -/
def execClockStretch (temps : List (Nat × Nat)) (overPower : Bool) (s : State) : Out :=
  .next (s.ifPowered (fun t => t.clockStretch temps overPower))

/-- THERMAL_SHUTDOWN (R428): the board controller removes power. -/
def execThermalShutdown (s : State) : Out := .next s.powerLoss

/-- POWER_ON (R276). -/
def execPowerOn (s : State) : Out := .next s.powerOn

/-- RESET (R276). -/
def execReset (s : State) : Out := .next s.resetNow

/-- POWER_LOSS (R240). -/
def execPowerLoss (s : State) : Out := .next s.powerLoss

/-- START_STEP_COMPLETE (R277). -/
def execStartStepComplete (s : State) : Out :=
  .next (if s.start.begun ∧ s.start.left ≤ 1 ∧ ¬ s.started = true ∧ ¬ s.start.stopped = true then s.stepComplete else s)

/-- IMAGE_ROOT_FORMED (R280): the measurements that end now. -/
def execImageRootFormed (s : State) : Out :=
  .next s.measureEnds

/-- PACKAGE_DUMP (R398): the fatal error of a core's ctxS, or one of the package's own units, whose code is open (DESIGN CHOICE, Log 6). -/
def execPackageDump (s : State) : Out :=
  .next (s.ifPowered (fun t => if t.cores.any (fun c => c.2.fatal) then t.fatalCycle else t.packageDump (Config.freeNat t.free)))

/-! ### SPDM (R282, R283) -/

/-- GET_VERSION. -/
def execGetVersion (endpoint : Nat) (s : State) : Out := .next (s.ifPowered (fun t => t.getVersion endpoint))

/-- GET_CAPABILITIES. -/
def execGetCapabilities (endpoint : Nat) (s : State) : Out := .next (s.ifPowered (fun t => t.getCapabilities endpoint))

/-- NEGOTIATE_ALGORITHMS. -/
def execNegotiateAlgorithms (endpoint : Nat) (baseAsym baseHash dhe aead keySchedule : Bool) (s : State) : Out :=
  .next (s.ifPowered (fun t => t.negotiate endpoint [baseAsym, baseHash, dhe, aead, keySchedule]))

/-- GET_DIGESTS. -/
def execGetDigests (endpoint : Nat) (s : State) : Out :=
  .next (s.ifPowered (fun t => t.beyondRom endpoint (fun u => u.getDigests endpoint)))

/-- GET_CERTIFICATE. -/
def execGetCertificate (endpoint : Nat) (slot : BitVec 8) (s : State) : Out :=
  .next (s.ifPowered (fun t => t.beyondRom endpoint (fun u => u.getCertificate endpoint slot.toNat)))

/-- CHALLENGE. -/
def execChallenge (endpoint : Nat) (slot : BitVec 8) (s : State) : Out :=
  .next (s.ifPowered (fun t => t.beyondRom endpoint (fun u => u.challenge endpoint slot.toNat)))

/-- GET_MEASUREMENTS. -/
def execGetMeasurements (endpoint : Nat) (index : BitVec 8) (s : State) : Out :=
  .next (s.ifPowered (fun t => t.getMeasurements endpoint index.toNat))

/-- KEY_EXCHANGE. -/
def execKeyExchange (endpoint : Nat) (slot : BitVec 8) (s : State) : Out :=
  .next (s.ifPowered (fun t => t.beyondRom endpoint (fun u => u.keyExchange endpoint slot.toNat)))

/-- FINISH. -/
def execFinish (session : Nat) (s : State) : Out := .next (s.ifPowered (fun t => t.finish session))

/-- UNSUPPORTED_REQUEST. -/
def execUnsupportedRequest (endpoint : Nat) (_code : BitVec 8) (s : State) : Out :=
  .next (s.ifPowered (fun t => (t.unmeasured endpoint).spdmFail endpoint .unsupportedRequest))

/-- SESSION_END (R422). -/
def execSessionEnd (session : Nat) (s : State) : Out := .next (s.ifPowered (fun t => t.sessionEnd session))

/-! ### Partitions (R410 to R416) -/

/-- GET_STATE. -/
def execGetState (session : Nat) (part : BitVec 8) (s : State) : Out := .next (s.ifPowered (fun t => t.askPart part.toNat (.getState session)))

/-- LOCK. -/
def execLock (session : Nat) (part : BitVec 8) (s : State) : Out := .next (s.ifPowered (fun t => t.askPart part.toNat (.lock session)))

/-- GET_REPORT. -/
def execGetReport (session : Nat) (part : BitVec 8) (s : State) : Out :=
  .next (s.ifPowered (fun t => t.askPart part.toNat (.getReport session)))

/-- START. -/
def execStart (session : Nat) (part : BitVec 8) (nonce : BitVec 64) (s : State) : Out :=
  .next (s.ifPowered (fun t => t.askPart part.toNat (.start session nonce)))

/-- STOP. -/
def execStop (session : Nat) (part : BitVec 8) (s : State) : Out :=
  .next (s.ifPowered (fun t => t.askPart part.toNat (.stop session)))

/-- PT_REGISTER_WRITE (R413). -/
def execPtRegisterWrite (part : BitVec 4) (off : BitVec 12) (wide : Bool) (value : BitVec 64) (s : State) : Out :=
  .next (s.ifPowered (fun t => t.askPart part.toNat (.write off.toNat wide value.toNat)))

/-- PARTITION_SCRUB_DONE (R416): the scrubs whose work is done. -/
def execPartitionScrubDone (s : State) : Out :=
  .next (s.parts.foldl (fun t q =>
    if (t.part q.1).scrub ∧ (t.part q.1).scrubLeft = 0 ∧ ¬ t.partBusy q.1 = true then t.scrubDone q.1 else t) s)

/-! ### The host and the fabric -/

/-- HOST_TAIL_WRITE (R366). -/
def execHostTailWrite (pa : BitVec 52) (value : BitVec 32) (s : State) : Out := .next (s.ifPowered (fun t => t.hostTail pa.toNat value))

/-- HOST_APERTURE_ACCESS (R423). -/
def execHostApertureAccess (pa : BitVec 52) (write : Bool) (bytes : List (BitVec 8)) (s : State) : Out :=
  .next (s.ifPowered (fun t => t.hostAccess pa.toNat write bytes))

/-- MG_WPMOVE_WRITE (R420). -/
def execMgWpmoveWrite (value : BitVec 32) (s : State) : Out := .next (s.ifPowered (fun t => t.writeWpmove value))

/-- MG_REMEAS_WRITE (R424). -/
def execMgRemeasWrite (value : BitVec 32) (s : State) : Out := .next (s.ifPowered (fun t => t.writeRemeas value))

/-- MG_THERM_READ (R428). -/
def execMgThermRead (s : State) : Out := .next (s.ifPowered State.readTherm)

/-- MANAGEMENT_WRITE (R423). -/
def execManagementWrite (off : BitVec 20) (value : BitVec 64) (s : State) : Out :=
  .next (s.ifPowered (fun t => t.writeManagement off.toNat value))

/-- FABRIC_ACK (R426). -/
def execFabricAck (port flits : Nat) (s : State) : Out := .next (s.ifPowered (fun t => t.fabricAck port flits))

/-- LANE_WIDTH_CHANGE (R385). -/
def execLaneWidthChange (port lane : Nat) (half : Bool) (s : State) : Out :=
  .next (s.ifPowered (fun t => t.laneWidth port lane half))

/-- FABRIC_FLIT_RECEIVED (R426). -/
def execFabricFlitReceived (_port : Nat) (source : BitVec 12) (header : BitVec 128) (payload : BitVec 512) (s : State) : Out :=
  .next (s.ifPowered (fun t => t.flitReceived source.toNat header payload))

end Sys2Proof.Machine
end

