-- ==== Sys2Proof/Machine/Dispatch.lean ====
section
/-! DEFINITION. The meaning of every instruction and step: one arm for each constructor of Instr. -/
namespace Sys2Proof.Machine
open Sys2Proof

/-- What an instruction or a step does to a state. -/
def exec (i : Instr) (s : State) : Host.Outcome State Fault Refusal :=
  match i with
  | .nop g => Sys2Proof.Machine.execNop g s
  | .add g d a b => Sys2Proof.Machine.execAdd g d a b s
  | .sub g d a b => Sys2Proof.Machine.execSub g d a b s
  | .mul g d a b => Sys2Proof.Machine.execMul g d a b s
  | .mulh g d a b => Sys2Proof.Machine.execMulh g d a b s
  | .mulhz g d a b => Sys2Proof.Machine.execMulhz g d a b s
  | .div g d a b => Sys2Proof.Machine.execDiv g d a b s
  | .divz g d a b => Sys2Proof.Machine.execDivz g d a b s
  | .rem g d a b => Sys2Proof.Machine.execRem g d a b s
  | .remz g d a b => Sys2Proof.Machine.execRemz g d a b s
  | .and g d a b => Sys2Proof.Machine.execAnd g d a b s
  | .or g d a b => Sys2Proof.Machine.execOr g d a b s
  | .xor g d a b => Sys2Proof.Machine.execXor g d a b s
  | .andn g d a b => Sys2Proof.Machine.execAndn g d a b s
  | .shl g d a b => Sys2Proof.Machine.execShl g d a b s
  | .shr g d a b => Sys2Proof.Machine.execShr g d a b s
  | .sra g d a b => Sys2Proof.Machine.execSra g d a b s
  | .min g d a b => Sys2Proof.Machine.execMin g d a b s
  | .max g d a b => Sys2Proof.Machine.execMax g d a b s
  | .minz g d a b => Sys2Proof.Machine.execMinz g d a b s
  | .maxz g d a b => Sys2Proof.Machine.execMaxz g d a b s
  | .clz g d a => Sys2Proof.Machine.execClz g d a s
  | .popc g d a => Sys2Proof.Machine.execPopc g d a s
  | .addi g d a imm => Sys2Proof.Machine.execAddi g d a imm s
  | .andi g d a imm => Sys2Proof.Machine.execAndi g d a imm s
  | .ori g d a imm => Sys2Proof.Machine.execOri g d a imm s
  | .xori g d a imm => Sys2Proof.Machine.execXori g d a imm s
  | .shli g d a imm => Sys2Proof.Machine.execShli g d a imm s
  | .shri g d a imm => Sys2Proof.Machine.execShri g d a imm s
  | .srai g d a imm => Sys2Proof.Machine.execSrai g d a imm s
  | .movi g d imm => Sys2Proof.Machine.execMovi g d imm s
  | .movhi g d imm => Sys2Proof.Machine.execMovhi g d imm s
  | .sel g d a b p => Sys2Proof.Machine.execSel g d a b p s
  | .cmp g k c a b => Sys2Proof.Machine.execCmp g k c a b s
  | .cmpi g k c a imm => Sys2Proof.Machine.execCmpi g k c a imm s
  | .fadd g d a b => Sys2Proof.Machine.execFadd g d a b s
  | .fsub g d a b => Sys2Proof.Machine.execFsub g d a b s
  | .fmul g d a b => Sys2Proof.Machine.execFmul g d a b s
  | .fdiv g d a b => Sys2Proof.Machine.execFdiv g d a b s
  | .fsqrt g d a => Sys2Proof.Machine.execFsqrt g d a s
  | .fmin g d a b => Sys2Proof.Machine.execFmin g d a b s
  | .fmax g d a b => Sys2Proof.Machine.execFmax g d a b s
  | .fsgn g d a b => Sys2Proof.Machine.execFsgn g d a b s
  | .fcvtF32S32 g d a => Sys2Proof.Machine.execFcvtF32S32 g d a s
  | .fcvtF32Z32 g d a => Sys2Proof.Machine.execFcvtF32Z32 g d a s
  | .fcvtS32F32 g d a => Sys2Proof.Machine.execFcvtS32F32 g d a s
  | .fcvtZ32F32 g d a => Sys2Proof.Machine.execFcvtZ32F32 g d a s
  | .fcvtF32F16 g d a => Sys2Proof.Machine.execFcvtF32F16 g d a s
  | .fcvtF32Bf16 g d a => Sys2Proof.Machine.execFcvtF32Bf16 g d a s
  | .fcvtF16F32 g d a => Sys2Proof.Machine.execFcvtF16F32 g d a s
  | .fcvtBf16F32 g d a => Sys2Proof.Machine.execFcvtBf16F32 g d a s
  | .ffma g d a b c => Sys2Proof.Machine.execFfma g d a b c s
  | .fcmp g k c a b => Sys2Proof.Machine.execFcmp g k c a b s
  | .pand g d a b => Sys2Proof.Machine.execPand g d a b s
  | .por g d a b => Sys2Proof.Machine.execPor g d a b s
  | .pxor g d a b => Sys2Proof.Machine.execPxor g d a b s
  | .pmov g d a => Sys2Proof.Machine.execPmov g d a s
  | .ppack g a u => Sys2Proof.Machine.execPpack g a u s
  | .punpk g d u => Sys2Proof.Machine.execPunpk g d u s
  | .aadd g d a u => Sys2Proof.Machine.execAadd g d a u s
  | .aaddi g d a imm => Sys2Proof.Machine.execAaddi g d a imm s
  | .amov g d u => Sys2Proof.Machine.execAmov g d u s
  | .amovHi g d u => Sys2Proof.Machine.execAmovHi g d u s
  | .atos g a u => Sys2Proof.Machine.execAtos g a u s
  | .atosHi g a u => Sys2Proof.Machine.execAtosHi g a u s
  | .atag g d a u => Sys2Proof.Machine.execAtag g d a u s
  | .br g imm => Sys2Proof.Machine.execBr g imm s
  | .brl g imm => Sys2Proof.Machine.execBrl g imm s
  | .jr g a => Sys2Proof.Machine.execJr g a s
  | .jrl g a => Sys2Proof.Machine.execJrl g a s
  | .ret g a => Sys2Proof.Machine.execRet g a s
  | .ibsw g imm => Sys2Proof.Machine.execIbsw g imm s
  | .ifence g => Sys2Proof.Machine.execIfence g s
  | .lset g n a y l => Sys2Proof.Machine.execLset g n a y l s
  | .lbody g l => Sys2Proof.Machine.execLbody g l s
  | .lexit g k => Sys2Proof.Machine.execLexit g k s
  | .nset g n a o => Sys2Proof.Machine.execNset g n a o s
  | .bwait g a o q => Sys2Proof.Machine.execBwait g a o q s
  | .evpop g u a p o => Sys2Proof.Machine.execEvpop g u a p o s
  | .evwait g => Sys2Proof.Machine.execEvwait g s
  | .sync g n => Sys2Proof.Machine.execSync g n s
  | .gdrop g n => Sys2Proof.Machine.execGdrop g n s
  | .yield g => Sys2Proof.Machine.execYield g s
  | .qpop g u a p o => Sys2Proof.Machine.execQpop g u a p o s
  | .qpopB g u a p o => Sys2Proof.Machine.execQpopB g u a p o s
  | .qpush g u a o => Sys2Proof.Machine.execQpush g u a o s
  | .leave g => Sys2Proof.Machine.execLeave g s
  | .trap g c => Sys2Proof.Machine.execTrap g c s
  | .eret g => Sys2Proof.Machine.execEret g s
  | .eretD g => Sys2Proof.Machine.execEretD g s
  | .sysrd g u a r => Sys2Proof.Machine.execSysrd g u a r s
  | .syswr g u a r => Sys2Proof.Machine.execSyswr g u a r s
  | .contain g u a m => Sys2Proof.Machine.execContain g u a m s
  | .uncontain g => Sys2Proof.Machine.execUncontain g s
  | .dchk g a b => Sys2Proof.Machine.execDchk g a b s
  | .cycrd g u k => Sys2Proof.Machine.execCycrd g u k s
  | .cycrdW g a k => Sys2Proof.Machine.execCycrdW g a k s
  | .snop g n => Sys2Proof.Machine.execSnop g n s
  | .halt g => Sys2Proof.Machine.execHalt g s
  | .vadd g d a b q t => Sys2Proof.Machine.execVadd g d a b q t s
  | .vsub g d a b q t => Sys2Proof.Machine.execVsub g d a b q t s
  | .vmul g d a b q t => Sys2Proof.Machine.execVmul g d a b q t s
  | .vfma g d a b q t => Sys2Proof.Machine.execVfma g d a b q t s
  | .vfms g d a b q t => Sys2Proof.Machine.execVfms g d a b q t s
  | .vmin g d a b q t => Sys2Proof.Machine.execVmin g d a b q t s
  | .vmax g d a b q t => Sys2Proof.Machine.execVmax g d a b q t s
  | .vabs g d a q t => Sys2Proof.Machine.execVabs g d a q t s
  | .vneg g d a q t => Sys2Proof.Machine.execVneg g d a q t s
  | .vand g d a b q t => Sys2Proof.Machine.execVand g d a b q t s
  | .vor g d a b q t => Sys2Proof.Machine.execVor g d a b q t s
  | .vxor g d a b q t => Sys2Proof.Machine.execVxor g d a b q t s
  | .vandn g d a b q t => Sys2Proof.Machine.execVandn g d a b q t s
  | .vshl g d a b q t => Sys2Proof.Machine.execVshl g d a b q t s
  | .vshr g d a b q t => Sys2Proof.Machine.execVshr g d a b q t s
  | .vsra g d a b q t => Sys2Proof.Machine.execVsra g d a b q t s
  | .vcmp g k c a b q t => Sys2Proof.Machine.execVcmp g k c a b q t s
  | .vsel g d a b q t => Sys2Proof.Machine.execVsel g d a b q t s
  | .vmov g d a q t => Sys2Proof.Machine.execVmov g d a q t s
  | .vbcast g d u q t => Sys2Proof.Machine.execVbcast g d u q t s
  | .vext g d a b t => Sys2Proof.Machine.execVext g d a b t s
  | .vins g d a b t => Sys2Proof.Machine.execVins g d a b t s
  | .vperm g d a b q t => Sys2Proof.Machine.execVperm g d a b q t s
  | .vshuf g d a b p t => Sys2Proof.Machine.execVshuf g d a b p t s
  | .vrot g d a b q t => Sys2Proof.Machine.execVrot g d a b q t s
  | .vreds g d a q t => Sys2Proof.Machine.execVreds g d a q t s
  | .vredmMax g d a q t => Sys2Proof.Machine.execVredmMax g d a q t s
  | .vredmMin g d a q t => Sys2Proof.Machine.execVredmMin g d a q t s
  | .vdot g d a b q t => Sys2Proof.Machine.execVdot g d a b q t s
  | .vcvt g d a x y f => Sys2Proof.Machine.execVcvt g d a x y f s
  | .vrnd g d a m q t => Sys2Proof.Machine.execVrnd g d a m q t s
  | .vexp2 g d a q t => Sys2Proof.Machine.execVexp2 g d a q t s
  | .vlog2 g d a q t => Sys2Proof.Machine.execVlog2 g d a q t s
  | .vrcp g d a q t => Sys2Proof.Machine.execVrcp g d a q t s
  | .vrsq g d a q t => Sys2Proof.Machine.execVrsq g d a q t s
  | .vqnt g d a b q l x => Sys2Proof.Machine.execVqnt g d a b q l x s
  | .vdql g d a b q l x => Sys2Proof.Machine.execVdql g d a b q l x s
  | .vlins g d a b q l x => Sys2Proof.Machine.execVlins g d a b q l x s
  | .vlext g d a b q l x => Sys2Proof.Machine.execVlext g d a b q l x s
  | .vlnrm g d a b q l => Sys2Proof.Machine.execVlnrm g d a b q l s
  | .vtrw g v q imm t f => Sys2Proof.Machine.execVtrw g v q imm t f s
  | .vtrr g v q imm t f => Sys2Proof.Machine.execVtrr g v q imm t f s
  | .vtcw g v q imm t f => Sys2Proof.Machine.execVtcw g v q imm t f s
  | .vtcr g v q imm t f => Sys2Proof.Machine.execVtcr g v q imm t f s
  | .vacr g d c r t => Sys2Proof.Machine.execVacr g d c r t s
  | .vacw g d c r t => Sys2Proof.Machine.execVacw g d c r t s
  | .vdchk g a b q t => Sys2Proof.Machine.execVdchk g a b q t s
  | .viop g d a b f => Sys2Proof.Machine.execViop g d a b f s
  | .vfop g d a b f => Sys2Proof.Machine.execVfop g d a b f s
  | .ld g d b z o => Sys2Proof.Machine.execLd g d b z o s
  | .st g d b z o => Sys2Proof.Machine.execSt g d b z o s
  | .ldv g d b o => Sys2Proof.Machine.execLdv g d b o s
  | .stv g d b o => Sys2Proof.Machine.execStv g d b o s
  | .ldvs g d b x => Sys2Proof.Machine.execLdvs g d b x s
  | .stvs g d b x => Sys2Proof.Machine.execStvs g d b x s
  | .ldvx g d b x => Sys2Proof.Machine.execLdvx g d b x s
  | .stvx g d b x => Sys2Proof.Machine.execStvx g d b x s
  | .ldf g d b o => Sys2Proof.Machine.execLdf g d b o s
  | .ste g d b o => Sys2Proof.Machine.execSte g d b o s
  | .fesetF g b x => Sys2Proof.Machine.execFesetF g b x s
  | .fesetE g b x => Sys2Proof.Machine.execFesetE g b x s
  | .lda g d b o => Sys2Proof.Machine.execLda g d b o s
  | .sta g d b o => Sys2Proof.Machine.execSta g d b o s
  | .wldm g b o => Sys2Proof.Machine.execWldm g b o s
  | .wldv g d b o => Sys2Proof.Machine.execWldv g d b o s
  | .wldd g d b x => Sys2Proof.Machine.execWldd g d b x s
  | .wattr g d b => Sys2Proof.Machine.execWattr g d b s
  | .wst g c => Sys2Proof.Machine.execWst g c s
  | .mcfg g u => Sys2Proof.Machine.execMcfg g u s
  | .mcfgR g u => Sys2Proof.Machine.execMcfgR g u s
  | .mma g c n a b u f => Sys2Proof.Machine.execMma g c n a b u f s
  | .mmas g c n a b u f => Sys2Proof.Machine.execMmas g c n a b u f s
  | .mmv g c n a b f => Sys2Proof.Machine.execMmv g c n a b f s
  | .mzero g c u f => Sys2Proof.Machine.execMzero g c u f s
  | .mlat g u a l => Sys2Proof.Machine.execMlat g u a l s
  | .mstop g => Sys2Proof.Machine.execMstop g s
  | .cpy g d f n t b x => Sys2Proof.Machine.execCpy g d f n t b x s
  | .cpyd g d f n t u => Sys2Proof.Machine.execCpyd g d f n t u s
  | .pub g t w => Sys2Proof.Machine.execPub g t w s
  | .pubDef g a y u w => Sys2Proof.Machine.execPubDef g a y u w s
  | .pubClr g w => Sys2Proof.Machine.execPubClr g w s
  | .drain g b t e => Sys2Proof.Machine.execDrain g b t e s
  | .xfence g t u => Sys2Proof.Machine.execXfence g t u s
  | .amoAdd g x y t u => Sys2Proof.Machine.execAmoAdd g x y t u s
  | .amoMin g x y t u => Sys2Proof.Machine.execAmoMin g x y t u s
  | .amoMax g x y t u => Sys2Proof.Machine.execAmoMax g x y t u s
  | .amoAnd g x y t u => Sys2Proof.Machine.execAmoAnd g x y t u s
  | .amoOr g x y t u => Sys2Proof.Machine.execAmoOr g x y t u s
  | .amoXor g x y t u => Sys2Proof.Machine.execAmoXor g x y t u s
  | .amoSwap g x y t u => Sys2Proof.Machine.execAmoSwap g x y t u s
  | .amoCas g x y t u => Sys2Proof.Machine.execAmoCas g x y t u s
  | .redAddF32 g x y t u => Sys2Proof.Machine.execRedAddF32 g x y t u s
  | .redAddF64 g x y t u => Sys2Proof.Machine.execRedAddF64 g x y t u s
  | .redAddS32 g x y t u => Sys2Proof.Machine.execRedAddS32 g x y t u s
  | .redMaxF32 g x y t u => Sys2Proof.Machine.execRedMaxF32 g x y t u s
  | .redMinF32 g x y t u => Sys2Proof.Machine.execRedMinF32 g x y t u s
  | .gath g d f n t b h => Sys2Proof.Machine.execGath g d f n t b h s
  | .scat g d f n t b => Sys2Proof.Machine.execScat g d f n t b s
  | .pfl2 g x u => Sys2Proof.Machine.execPfl2 g x u s
  | .cwbWb g x t u => Sys2Proof.Machine.execCwbWb g x t u s
  | .cwbWbi g x t u => Sys2Proof.Machine.execCwbWbi g x t u s
  | .cwbInv g x t u => Sys2Proof.Machine.execCwbInv g x t u s
  | .kvld g x y t u d e => Sys2Proof.Machine.execKvld g x y t u d e s
  | .kvapp g x y t u e => Sys2Proof.Machine.execKvapp g x y t u e s
  | .kvfork g x y t e => Sys2Proof.Machine.execKvfork g x y t e s
  | .kvrel g x t e => Sys2Proof.Machine.execKvrel g x t e s
  | .wprog g x y t u e => Sys2Proof.Machine.execWprog g x y t u e s
  | .wprogAttr g x y t e => Sys2Proof.Machine.execWprogAttr g x y t e s
  | .wfence g => Sys2Proof.Machine.execWfence g s
  | .whash g x y t u e => Sys2Proof.Machine.execWhash g x y t u e s
  | .binit g x y u => Sys2Proof.Machine.execBinit g x y u s
  | .bexp g x t u o => Sys2Proof.Machine.execBexp g x t u o s
  | .barr g x t u o => Sys2Proof.Machine.execBarr g x t u o s
  | .bdrop g x t o => Sys2Proof.Machine.execBdrop g x t o s
  | .migr g x y t u e => Sys2Proof.Machine.execMigr g x y t u e s
  | .qcrt g x y t u => Sys2Proof.Machine.execQcrt g x y t u s
  | .qdel g t u => Sys2Proof.Machine.execQdel g t u s
  | .bundleIssue => Sys2Proof.Machine.execBundleIssue s
  | .exposedResultLand => Sys2Proof.Machine.execExposedResultLand s
  | .waitEnd => Sys2Proof.Machine.execWaitEnd s
  | .feFreezeTimeout => Sys2Proof.Machine.execFeFreezeTimeout s
  | .quantumExpiry => Sys2Proof.Machine.execQuantumExpiry s
  | .contextSwitch => Sys2Proof.Machine.execContextSwitch s
  | .trapEntry => Sys2Proof.Machine.execTrapEntry s
  | .serviceRequest => Sys2Proof.Machine.execServiceRequest s
  | .preemption => Sys2Proof.Machine.execPreemption s
  | .contextResume => Sys2Proof.Machine.execContextResume s
  | .syncRestart => Sys2Proof.Machine.execSyncRestart s
  | .syncTimeout => Sys2Proof.Machine.execSyncTimeout s
  | .matrixCommit => Sys2Proof.Machine.execMatrixCommit s
  | .mmasCommit => Sys2Proof.Machine.execMmasCommit s
  | .commandAbandon => Sys2Proof.Machine.execCommandAbandon s
  | .operationComplete => Sys2Proof.Machine.execOperationComplete s
  | .operationFault => Sys2Proof.Machine.execOperationFault s
  | .barrierOrderedAction => Sys2Proof.Machine.execBarrierOrderedAction s
  | .pubPerform => Sys2Proof.Machine.execPubPerform s
  | .cpydDeadline => Sys2Proof.Machine.execCpydDeadline s
  | .eventRecordEnqueue => Sys2Proof.Machine.execEventRecordEnqueue s
  | .reductionApply => Sys2Proof.Machine.execReductionApply s
  | .containmentPublish => Sys2Proof.Machine.execContainmentPublish s
  | .monitorWake => Sys2Proof.Machine.execMonitorWake s
  | .walkRetry => Sys2Proof.Machine.execWalkRetry s
  | .migrationCommit => Sys2Proof.Machine.execMigrationCommit s
  | .migrationAbandon => Sys2Proof.Machine.execMigrationAbandon s
  | .arbiterGrant => Sys2Proof.Machine.execArbiterGrant s
  | .wprogRowStart => Sys2Proof.Machine.execWprogRowStart s
  | .programPhaseEnd => Sys2Proof.Machine.execProgramPhaseEnd s
  | .wprogCompletion => Sys2Proof.Machine.execWprogCompletion s
  | .attrCommit => Sys2Proof.Machine.execAttrCommit s
  | .whashCompletion => Sys2Proof.Machine.execWhashCompletion s
  | .queueDestroy => Sys2Proof.Machine.execQueueDestroy s
  | .hostTailWrite pa value => Sys2Proof.Machine.execHostTailWrite pa value s
  | .hostApertureAccess pa write bytes => Sys2Proof.Machine.execHostApertureAccess pa write bytes s
  | .launchDescriptorPop => Sys2Proof.Machine.execLaunchDescriptorPop s
  | .placementPass => Sys2Proof.Machine.execPlacementPass s
  | .contextStart => Sys2Proof.Machine.execContextStart s
  | .launchCompletion => Sys2Proof.Machine.execLaunchCompletion s
  | .noticeItemDelivery => Sys2Proof.Machine.execNoticeItemDelivery s
  | .leaseStart => Sys2Proof.Machine.execLeaseStart s
  | .leaseGrant => Sys2Proof.Machine.execLeaseGrant s
  | .grantDeadline => Sys2Proof.Machine.execGrantDeadline s
  | .leasePrepared => Sys2Proof.Machine.execLeasePrepared s
  | .leaseScrubDone => Sys2Proof.Machine.execLeaseScrubDone s
  | .leaseTestEnd => Sys2Proof.Machine.execLeaseTestEnd s
  | .clockStretch temps overPower => Sys2Proof.Machine.execClockStretch temps overPower s
  | .thermalShutdown => Sys2Proof.Machine.execThermalShutdown s
  | .powerOn => Sys2Proof.Machine.execPowerOn s
  | .reset => Sys2Proof.Machine.execReset s
  | .powerLoss => Sys2Proof.Machine.execPowerLoss s
  | .imageRootFormed => Sys2Proof.Machine.execImageRootFormed s
  | .packageDump => Sys2Proof.Machine.execPackageDump s
  | .getVersion endpoint => Sys2Proof.Machine.execGetVersion endpoint s
  | .getCapabilities endpoint => Sys2Proof.Machine.execGetCapabilities endpoint s
  | .negotiateAlgorithms endpoint baseAsym baseHash dhe aead keySchedule => Sys2Proof.Machine.execNegotiateAlgorithms endpoint baseAsym baseHash dhe aead keySchedule s
  | .getDigests endpoint => Sys2Proof.Machine.execGetDigests endpoint s
  | .getCertificate endpoint slot => Sys2Proof.Machine.execGetCertificate endpoint slot s
  | .challenge endpoint slot => Sys2Proof.Machine.execChallenge endpoint slot s
  | .getMeasurements endpoint index => Sys2Proof.Machine.execGetMeasurements endpoint index s
  | .keyExchange endpoint slot => Sys2Proof.Machine.execKeyExchange endpoint slot s
  | .finish session => Sys2Proof.Machine.execFinish session s
  | .unsupportedRequest endpoint code => Sys2Proof.Machine.execUnsupportedRequest endpoint code s
  | .sessionEnd session => Sys2Proof.Machine.execSessionEnd session s
  | .getState session part => Sys2Proof.Machine.execGetState session part s
  | .lock session part => Sys2Proof.Machine.execLock session part s
  | .getReport session part => Sys2Proof.Machine.execGetReport session part s
  | .start session part nonce => Sys2Proof.Machine.execStart session part nonce s
  | .stop session part => Sys2Proof.Machine.execStop session part s
  | .ptRegisterWrite part off wide value => Sys2Proof.Machine.execPtRegisterWrite part off wide value s
  | .partitionScrubDone => Sys2Proof.Machine.execPartitionScrubDone s
  | .mgWpmoveWrite value => Sys2Proof.Machine.execMgWpmoveWrite value s
  | .wpageMoveDone => Sys2Proof.Machine.execWpageMoveDone s
  | .mgRemeasWrite value => Sys2Proof.Machine.execMgRemeasWrite value s
  | .mgThermRead => Sys2Proof.Machine.execMgThermRead s
  | .managementWrite off value => Sys2Proof.Machine.execManagementWrite off value s
  | .fabricAck port flits => Sys2Proof.Machine.execFabricAck port flits s
  | .laneWidthChange port lane half => Sys2Proof.Machine.execLaneWidthChange port lane half s
  | .startStepComplete => Sys2Proof.Machine.execStartStepComplete s
  | .walkComplete => Sys2Proof.Machine.execWalkComplete s
  | .loadPipeDataArrival => Sys2Proof.Machine.execLoadPipeDataArrival s
  | .handleEntryArrival => Sys2Proof.Machine.execHandleEntryArrival s
  | .imageWriteDrained => Sys2Proof.Machine.execImageWriteDrained s
  | .fabricFlitReceived port source header payload => Sys2Proof.Machine.execFabricFlitReceived port source header payload s

end Sys2Proof.Machine
end

