-- ==== Sys2Proof/Machine/Step.lean ====
section
/-! DEFINITION. One step of the package (DESIGN CHOICE, Log 5), and how a program is placed (DESIGN CHOICE, Log 3). -/
namespace Sys2Proof.Machine
open Sys2Proof

/-- One step: the host's register accesses and the reads of the management block of the cycle are served (R411), the next thing that the
outside asks happens, and a wall cycle passes. Without power nothing passes, and a step with nothing asked is a fault. -/
def step (s0 : State) : Host.Outcome State Fault Refusal :=
  let s := s0.blockCycle.managementCycle
  match s.inbox with
  | [] => if s.powered then .next s.wallCycle else .fault .powerOff
  | i :: rest =>
    if fromOutside i then
      match exec i { s with inbox := rest } with
      | .next t => .next t.wallCycle
      | .fault f => .fault f
      | .refused r => .refused r
    else .next ({ s with inbox := rest } : State).wallCycle

/-- The state with the instruction of a table word stored where context 0 of core 0 fetches its next bundle (DESIGN CHOICE, Log 3). -/
def State.withFetchWord (s : State) (_nbits w : Nat) : State :=
  s.withBundle (match tableClass (BitVec.ofNat 32 w) with
    | some (c, _) => c.index
    | none => 0) (BitVec.ofNat 32 w)

end Sys2Proof.Machine
end

