-- ==== Sys2Proof/Safety.lean ====
section
/-! DEFINITION. The terms that statements about the machine use: a safe run, an instruction that issues, and what an instruction
leaves as it was. -/
namespace Sys2Proof

/-! ### Exact values and their rounding -/

/-- A number that is no NaN and no infinity. -/
def XNum.finite : XNum → Bool
  | .fin _ _ _ => true
  | _ => false

/-- The magnitude of a bit pattern's value in units of `2^e0` (R51). -/
def FloatFmt.mag (f : FloatFmt) (b : Nat) (e0 : Int) : Nat := ((f.unpack b).at e0).natAbs

/-- A result is a value of this sign rounded to nearest, ties to even, with its flags (R53): `twice h e0` compares twice the
value's magnitude with `h * 2^e0`, for every `e0` up to `lim`. Half a unit above the largest number and beyond it overflows; below, the
result lies on the value's side of the midpoint between itself and every other number, and is even where the value is such a midpoint;
a value that is inexact and rounds, with unbounded exponent, to less than the least normal number underflows. -/
def FloatFmt.rounded (f : FloatFmt) (r : Nat × FpFlags) (neg : Bool) (twice : Nat → Int → Ordering) (lim : Int) : Prop :=
  ∀ (e0 : Int) (top tiny : Nat), e0 ≤ lim → e0 ≤ -1 - (f.bias : Int) - f.man →
    top = (2 ^ (f.man + 2) - 1) * 2 ^ ((f.bias : Int) - f.man - 1 - e0).toNat →
    tiny = (2 ^ (f.man + 2) - 1) * 2 ^ (-1 - (f.bias : Int) - f.man - e0).toNat →
    (twice (2 * top) e0 ≠ .lt → r = (f.inf neg, flagOF ||| flagNX))
    ∧ (twice (2 * top) e0 = .lt →
      (f.unpack r.1).finite = true ∧ (f.unpack r.1).isNeg = neg ∧ r.1 < 2 ^ (f.exp + f.man + 1)
      ∧ (∀ c, (f.unpack c).finite = true →
        (f.mag r.1 e0 < f.mag c e0 → twice (f.mag r.1 e0 + f.mag c e0) e0 ≠ .gt
          ∧ (twice (f.mag r.1 e0 + f.mag c e0) e0 = .eq → r.1 % 2 = 0))
        ∧ (f.mag c e0 < f.mag r.1 e0 → twice (f.mag r.1 e0 + f.mag c e0) e0 ≠ .lt
          ∧ (twice (f.mag r.1 e0 + f.mag c e0) e0 = .eq → r.1 % 2 = 0)))
      ∧ r.2 = if twice (2 * f.mag r.1 e0) e0 = .eq then 0 else if twice (2 * tiny) e0 = .lt then flagNX ||| flagUF else flagNX)

end Sys2Proof

namespace Sys2Proof.Machine
open Sys2Proof

/-- A step answers a next state. -/
def State.steps (s : State) : Prop := ∃ t, step s = .next t

/-- A run of steps without a fault or a refusal: the package has power, or something is asked of it. -/
def State.safe (s : State) : Prop := s.powered = true ∨ s.inbox ≠ []

/-- The guard of a slot reads true and carries no poison (R17, R393). -/
def State.guardOn (s : State) (g : BitVec 4) : Prop := s.ctx.rp g.toNat = true ∧ s.ctx.poisoned (.p g) = false

/-- None of these registers of the acting context carries poison (R392, R393). -/
def State.clean (s : State) (l : List Src) : Prop := ∀ r ∈ l, s.ctx.poisoned r = false

/-- An instruction with the meaning `a` issues and performs: it passes the decode checks (R20, R35), its guard reads true (R17),
it consumes no poison (R393), its own checks pass, and nothing holds it. -/
def State.issues (s : State) (i : Instr) (a : Act) : Prop :=
  i.wf = true ∧ a.banned s = false ∧ (a.priv = true → s.ctx.priv = true) ∧ s.guardOn a.guard ∧ a.poisonUsed s = none
    ∧ a.check s = none ∧ a.holdIn (slotOf i) s = none

/-! ### Results -/

/-- The instructions that do nothing but put a result in flight, which they compute from what they read at issue (R14, R73). -/
def resultOnly : Instr → Bool
  | .add .. | .sub .. | .mul .. | .mulh .. | .mulhz .. | .div .. | .divz .. | .rem .. | .remz .. | .and .. | .or .. | .xor ..
  | .andn .. | .shl .. | .shr .. | .sra .. | .min .. | .max .. | .minz .. | .maxz .. | .clz .. | .popc .. | .addi .. | .andi ..
  | .ori .. | .xori .. | .shli .. | .shri .. | .srai .. | .movi .. | .movhi .. | .sel .. | .cmp .. | .cmpi .. | .fadd .. | .fsub ..
  | .fmul .. | .fdiv .. | .fsqrt .. | .fmin .. | .fmax .. | .fsgn .. | .fcvtF32S32 .. | .fcvtF32Z32 .. | .fcvtS32F32 ..
  | .fcvtZ32F32 .. | .fcvtF32F16 .. | .fcvtF32Bf16 .. | .fcvtF16F32 .. | .fcvtBf16F32 .. | .ffma .. | .fcmp .. | .pand .. | .por ..
  | .pxor .. | .pmov .. | .ppack .. | .punpk .. | .aadd .. | .aaddi .. | .amov .. | .amovHi .. | .atos .. | .atosHi .. | .atag ..
  | .cycrd .. | .cycrdW .. | .vadd .. | .vsub .. | .vmul .. | .vfma .. | .vfms .. | .vmin .. | .vmax .. | .vabs .. | .vneg ..
  | .vand .. | .vor .. | .vxor .. | .vandn .. | .vshl .. | .vshr .. | .vsra .. | .vcmp .. | .vsel .. | .vmov .. | .vbcast ..
  | .vext .. | .vins .. | .vperm .. | .vshuf .. | .vrot .. | .vreds .. | .vredmMax .. | .vredmMin .. | .vdot .. | .vcvt .. | .vrnd ..
  | .vexp2 .. | .vlog2 .. | .vrcp .. | .vrsq .. | .viop .. | .vfop .. | .vqnt .. | .vdql .. | .vlins .. | .vlext .. | .vlnrm ..
  | .vtrw .. | .vtrr .. | .vtcw .. | .vtcr .. | .vacr .. | .vacw .. | .ld .. | .lda .. | .ldv .. | .wattr .. => true
  | _ => false

/-- A write names this s register. -/
def RegWrite.intoS (r : Nat) : RegWrite → Bool
  | .s n _ => decide (n = r)
  | _ => false
/-- A write names this a register. -/
def RegWrite.intoA (r : Nat) : RegWrite → Bool
  | .a n _ => decide (n = r)
  | _ => false
/-- A write names this predicate. -/
def RegWrite.intoP (r : Nat) : RegWrite → Bool
  | .p n _ => decide (n = r)
  | _ => false
/-- A write names this vector register. -/
def RegWrite.intoV (r : Nat) : RegWrite → Bool
  | .v n _ _ => decide (n = r)
  | _ => false
/-- A write names this mask register. -/
def RegWrite.intoVq (r : Nat) : RegWrite → Bool
  | .vq n _ => decide (n = r)
  | _ => false
/-- A write changes this bit of this vector register (R116). -/
def RegWrite.intoVBit (r k : Nat) : RegWrite → Bool
  | .v n _ m => decide (n = r) && m.getLsbD k
  | _ => false
/-- A write names this tile register. -/
def RegWrite.intoQ (r : Nat) : RegWrite → Bool
  | .q n _ _ _ => decide (n = r)
  | _ => false
/-- No result of a list writes what a test names. -/
def noneInto (f : RegWrite → Bool) (l : List Pend) : Prop := ∀ e ∈ l, ∀ w ∈ e.writes, f w = false

/-- The state after a slot has put one s register's value in flight, with no flag (R36): the value is poisoned when a source is
(R392). -/
def State.sResult (s : State) (lat : Nat) (d : BitVec 5) (v : Word) (srcs : List Src) : State :=
  s.emit lat [.s d.toNat v] 0 (s.anyPoisoned srcs)
/-- The same for an a register. -/
def State.aResult (s : State) (lat : Nat) (d : BitVec 4) (v : DWord) (srcs : List Src) : State :=
  s.emit lat [.a d.toNat v] 0 (s.anyPoisoned srcs)
/-- A floating result in flight: its bits and the flags it sets when it lands (R54, R55). -/
def State.fResult (s : State) (lat : Nat) (d : BitVec 5) (r : Nat × FpFlags) (srcs : List Src) : State :=
  s.emit lat [.s d.toNat (BitVec.ofNat 32 r.1)] r.2 (s.anyPoisoned srcs)

/-- The condition codes of the scalar compares: eq, ne, lt, le, and the unsigned ltz and lez (R23). -/
def condHolds (c : BitVec 3) (a b : Word) : Bool :=
  match c.toNat with
  | 0 => a == b
  | 1 => a != b
  | 2 => a.slt b
  | 3 => a.sle b
  | 4 => a.ult b
  | _ => a.ule b

/-- A lane of a vector register, of a type (R115). -/
def Ctx.lane (x : Ctx) (v : BitVec 5) (t : BitVec 4) (i : Nat) : Nat := vLane (x.rv v.toNat) (typeBytes t.toNat) i

/-- The state after a slot has put lanes of a type in flight: in every active lane what a function gives, with the flags of the active
lanes (R116, R117). -/
def State.laneResult (s : State) (lat : Nat) (d : BitVec 5) (t : Nat) (m : BitVec 64) (f : Nat → Nat × FpFlags) (srcs : List Src) :
    State :=
  s.emit lat [.v d.toNat (vOfLanes (typeBytes t) ((List.range (typeLanes t)).map (fun i => if laneActive t m i then (f i).1 else 0)))
      (laneMask t m)]
    ((List.range (typeLanes t)).foldl (fun acc i => if laneActive t m i then acc ||| (f i).2 else acc) 0) (s.anyPoisoned srcs)

/-- The same with every lane written, and no flag. -/
def State.laneMove (s : State) (lat : Nat) (d : BitVec 5) (t : Nat) (f : Nat → Nat) (srcs : List Src) : State :=
  s.emit lat [.v d.toNat (vOfLanes (typeBytes t) ((List.range (typeLanes t)).map f)) vAll] 0 (s.anyPoisoned srcs)

/-- The accesses of an A-slot instruction: its base register, the address of each lane, their alignment, the bytes of each, and whether
it writes (R145, R149 to R154). -/
def accessOf (i : Instr) (x : Ctx) : Option (BitVec 4 × List DWord × Nat × Nat × Bool) :=
  match i with
  | .ld _ _ b z o => some (b, [x.ra b + o.signExtend 64 * BitVec.ofNat 64 (sizeBytes z)], sizeBytes z, sizeBytes z, false)
  | .st _ _ b z o => some (b, [x.ra b + o.signExtend 64 * BitVec.ofNat 64 (sizeBytes z)], sizeBytes z, sizeBytes z, true)
  | .lda _ _ b o => some (b, [x.ra b + o.signExtend 64 * 8], 8, 8, false)
  | .sta _ _ b o => some (b, [x.ra b + o.signExtend 64 * 8], 8, 8, true)
  | .ldv _ _ b o => some (b, (List.range 64).map (fun k => x.ra b + o.signExtend 64 * 256 + BitVec.ofNat 64 (4 * k)), 4, 4, false)
  | .stv _ _ b o => some (b, (List.range 64).map (fun k => x.ra b + o.signExtend 64 * 256 + BitVec.ofNat 64 (4 * k)), 4, 4, true)
  | .ldvs _ _ b u => some (b, (List.range 64).map (fun k => x.ra b + BitVec.ofNat 64 k * (x.rs u).signExtend 64), 4, 4, false)
  | .stvs _ _ b u => some (b, (List.range 64).map (fun k => x.ra b + BitVec.ofNat 64 k * (x.rs u).signExtend 64), 4, 4, true)
  | .ldvx _ _ b v => some (b, (List.range 64).map (fun k => x.ra b + BitVec.ofNat 64 (x.lane v 2 k)), 4, 4, false)
  | .stvx _ _ b v => some (b, (List.range 64).map (fun k => x.ra b + BitVec.ofNat 64 (x.lane v 2 k)), 4, 4, true)
  | .ldf _ _ b o => some (b, [x.ra b + o.signExtend 64 * 4], 4, 4, false)
  | .ste _ _ b o => some (b, [x.ra b + o.signExtend 64 * 4], 4, 4, true)
  | _ => none

/-- The access of an S-slot instruction to A-space: its address, alignment and length (R73, R92, R97, R98, R100, R101, R111). -/
def slotAccessOf (i : Instr) (x : Ctx) : Option (DWord × Nat × Nat) :=
  match i with
  | .nset _ _ a o => some (x.ra a + BitVec.ofNat 64 (16 * o.toNat), 16, 96)
  | .bwait _ a o _ => some (x.ra a + BitVec.ofNat 64 (16 * o.toNat), 16, 16)
  | .evpop _ _ a _ o => some (x.ra a + BitVec.ofNat 64 (16 * o.toNat), 16, 16)
  | .qpop _ _ a _ o => some (x.ra a + BitVec.ofNat 64 (64 * o.toNat), 64, 64)
  | .qpopB _ _ a _ o => some (x.ra a + BitVec.ofNat 64 (64 * o.toNat), 64, 64)
  | .qpush _ _ a o => some (x.ra a + BitVec.ofNat 64 (64 * o.toNat), 1, 64)
  | .contain _ _ a m => some (x.ra a, 16, 16 * m.toNat)
  | _ => none

/-- An A-slot access has none of the faults of R145. -/
def accessFits (i : Instr) (x : Ctx) : Prop := ∃ b l al n st, accessOf i x = some (b, l, al, n, st)
  ∧ (b = 0 → (x.ra 0).toNat % 16 = 0)
  ∧ ∀ a ∈ l, a.toNat % al = 0 ∧ a.toNat + n ≤ 0x600000 ∧ (st = true → b = 0 → x.stkLim.toNat ≤ a.toNat)

/-- The bytes that a store writes, in the order in which it writes them: address and value (R149 to R152). -/
def storesOf (i : Instr) (x : Ctx) : Option (List (Nat × Byte)) :=
  match i, accessOf i x with
  | .st _ d _ _ _, some (_, l, _, n, _) | .ste _ d _ _, some (_, l, _, n, _) =>
    some (l.flatMap (fun a => (List.range n).map (fun k => (a.toNat + k, (x.rs d).extractLsb' (8 * k) 8))))
  | .sta _ d _ _, some (_, l, _, n, _) =>
    some (l.flatMap (fun a => (List.range n).map (fun k => (a.toNat + k, (x.ra d).extractLsb' (8 * k) 8))))
  | .stv _ d _ _, some (_, l, _, n, _) | .stvs _ d _ _, some (_, l, _, n, _) | .stvx _ d _ _, some (_, l, _, n, _) =>
    some (l.zipIdx.flatMap (fun a => (List.range n).map (fun k => (a.1.toNat + k, (x.rv d.toNat).extractLsb' (32 * a.2 + 8 * k) 8))))
  | _, _ => none

/-! ### The issue checks of the C slots -/

/-- The first of a list of tests that holds, with its cause and what CX_TRAPINFO holds. -/
def firstOf : List (Bool × Cause × DWord) → Option (Cause × DWord)
  | [] => none
  | t :: rest => if t.1 then some t.2 else firstOf rest

/-- A copy address names no space (R182, 2). -/
def noSpace (a : DWord) : Bool :=
  decide (8 ≤ (a.extractLsb' 60 4).toNat) || (decide ((a.extractLsb' 60 4).toNat ∈ [0, 1, 6]) && decide (a.extractLsb' 52 8 ≠ 0))

/-- Plain operands in A-space, each with its length and alignment: their alignment (R182, 7). -/
def plainAligns (l : List (DWord × Nat × Nat)) : List (Bool × Cause × DWord) :=
  l.map (fun p => (decide (p.1.toNat % p.2.2 ≠ 0), .align, p.1))

/-- The same operands: they lie below the end of A-space (R182, 8). -/
def plainBounds (l : List (DWord × Nat × Nat)) : List (Bool × Cause × DWord) :=
  l.map (fun p => (decide (p.2.1 ≠ 0 ∧ 0x600000 < p.1.toNat + p.2.1), .abound, p.1))

/-- A barrier object that a field names (R28, R182). -/
def barrierOperand (x : Ctx) (b : BitVec 4) : List (DWord × Nat × Nat) := if b = 0 then [] else [(x.ra b, 16, 16)]

/-- The issue checks of C-slot instructions in the order of R182: CPY without suffixes (R188), GATH and SCAT (R193), DRAIN (R194), the
atomics but AMO.CAS (R196), and the barrier instructions (R202). Where a walk ends, and what a launch may name, is as the model has it:
the walk's items, their partition, launch, alignment and end. -/
def checksOf (i : Instr) (s : State) : Option (List (Bool × Cause × DWord)) :=
  let x := s.ctx
  let sp : DWord → Nat := fun a => (a.extractLsb' 60 4).toNat
  let amo : BitVec 4 → BitVec 4 → Option (List (Bool × Cause × DWord)) := fun p q =>
    some ([(decide (2 ≤ sp (x.ra p)), .illegal, x.ra p), (noSpace (x.ra p), .xlate, x.ra p), (!x.priv && decide (sp (x.ra p) = 1), .priv, x.ra p),
        (decide ((x.ra p).toNat % 4 ≠ 0), .align, x.ra p)] ++ plainAligns [(x.ra q, 4, 4)]
      ++ [(decide (sp (x.ra p) = 1) && decide (s.checkRange x.part ((x.ra p).toNat % 2 ^ 52) ((x.ra p).toNat % 2 ^ 52 + 3) ≠ none),
            (s.checkRange x.part ((x.ra p).toNat % 2 ^ 52) ((x.ra p).toNat % 2 ^ 52 + 3)).getD .abound, x.ra p)]
      ++ plainBounds [(x.ra q, 4, 4)])
  match i with
  | .cpy _ d f n _ b 0 =>
    let w := x.rn n.toNat
    let src := walkItem w (strideSrc w) (x.ra f) false
    let dst := walkItem w (strideDst w) (x.ra d) true
    let both : (Item → Bool) → Cause → List (Bool × Cause × DWord) := fun bad c => [(bad src, c, x.ra f), (bad dst, c, x.ra d)]
    some ([(decide (nestCount w 0 = 0 ∨ 0 ∈ walkCounts w ∨ 0xFFFFFFFF < walkRuns w * nestCount w 0), .illegal,
          BitVec.ofNat 64 (walkRuns w * nestCount w 0)),
        (noSpace (x.ra f), .xlate, x.ra f), (noSpace (x.ra d), .xlate, x.ra d),
        (!x.priv && decide (sp (x.ra f) ∈ [1, 4, 5, 6, 7]), .priv, x.ra f), (!x.priv && decide (sp (x.ra d) ∈ [1, 5, 6, 7]), .priv, x.ra d),
        (decide (sp (x.ra d) = 4), .wstore, x.ra d)]
      ++ both (fun i => i.outPart s s.checker) .partition ++ both (fun i => i.outLaunch s s.checker) .prot
      ++ both Item.misaligned .align ++ plainAligns (barrierOperand x b)
      ++ [((src.outSpace s s.checker).isSome, (src.outSpace s s.checker).getD .abound, x.ra f),
          ((dst.outSpace s s.checker).isSome, (dst.outSpace s s.checker).getD .abound, x.ra d)] ++ plainBounds (barrierOperand x b))
  | .gath _ d f n _ b 0 =>
    let ps := [(x.ra d, nestCount (x.rn n.toNat) 0 * nestCount (x.rn n.toNat) 1, 4), (x.ra (f + 1), 4 * nestCount (x.rn n.toNat) 1, 4)]
      ++ barrierOperand x b
    some (plainAligns ps ++ [(decide (nestCount (x.rn n.toNat) 0 % 4 ≠ 0), .align, BitVec.ofNat 64 (nestCount (x.rn n.toNat) 0))] ++ plainBounds ps)
  | .scat _ d f n _ b =>
    let ps := [(x.ra f, nestCount (x.rn n.toNat) 0 * nestCount (x.rn n.toNat) 1, 4), (x.ra (d + 1), 4 * nestCount (x.rn n.toNat) 1, 4)]
      ++ barrierOperand x b
    some (plainAligns ps ++ [(decide (nestCount (x.rn n.toNat) 0 % 4 ≠ 0), .align, BitVec.ofNat 64 (nestCount (x.rn n.toNat) 0))] ++ plainBounds ps)
  | .drain _ b _ _ => some (plainAligns (barrierOperand x b) ++ plainBounds (barrierOperand x b))
  | .amoAdd _ p q _ _ => amo p q
  | .amoMin _ p q _ _ => amo p q
  | .amoMax _ p q _ _ => amo p q
  | .amoAnd _ p q _ _ => amo p q
  | .amoOr _ p q _ _ => amo p q
  | .amoXor _ p q _ _ => amo p q
  | .amoSwap _ p q _ _ => amo p q
  | .binit _ p _ _ => some (plainAligns [(x.ra p, 16, 16)] ++ plainBounds [(x.ra p, 16, 16)])
  | .bexp _ p _ _ _ => some (plainAligns [(x.ra p, 16, 16)] ++ plainBounds [(x.ra p, 16, 16)])
  | .barr _ p _ _ _ => some (plainAligns [(x.ra p, 16, 16)] ++ plainBounds [(x.ra p, 16, 16)])
  | .bdrop _ p _ _ => some (plainAligns [(x.ra p, 16, 16)] ++ plainBounds [(x.ra p, 16, 16)])
  | _ => none

/-- The greatest number of distinct words that lane addresses name in one of the 192 banks of A-space is this one (R148). -/
def bankWords (L : List DWord) (m : Nat) : Prop :=
  (∀ (k : Nat) (l : List Nat), l.Nodup → (∀ w ∈ l, w % 192 = k ∧ w ∈ L.map (fun a => a.toNat / 4)) → l.length ≤ m)
  ∧ ∃ (k : Nat) (l : List Nat), l.Nodup ∧ (∀ w ∈ l, w % 192 = k ∧ w ∈ L.map (fun a => a.toNat / 4)) ∧ l.length = m

/-- The cycles in which lanes are served, counted from the issue: each within the access's, and in one bank a word a cycle (R148, R305). -/
def servedIn (L : List DWord) (ds : List Nat) (m : Nat) : Prop :=
  ds.length = L.length ∧ (∀ d ∈ ds, d < m) ∧ ∀ (i j : Nat) (a b : DWord) (d e : Nat), L[i]? = some a → L[j]? = some b → ds[i]? = some d → ds[j]? = some e →
    a.toNat / 4 % 192 = b.toNat / 4 % 192 → (d = e ↔ a.toNat / 4 = b.toNat / 4)

/-- The state after an access with bank conflicts has issued: a store's lanes of the first cycle are written, and the other lanes wait for
the frozen cycles that follow (R148, R305). -/
def State.spread (s : State) (load : Option Nat) (L : List DWord) (ds : List Nat) (v : Nat → Nat) (bad : Bool) (m : Nat) : State :=
  let items := (L.zip ds).mapIdx (fun i p => (p.2, i, p.1, BitVec.ofNat 32 (v i)))
  (({ s with free := s.free + 1 } : State).updCore (fun c =>
    (if load.isSome then Core.keepLanes else Core.serveLanes) c { ctx := s.who, load := load, items := items, poison := bad })).updCore (fun c => { c with freeze := max c.freeze (m - 1) })

/-- No context has flags of a cycle that are not merged yet (R55). -/
def State.flagsMerged (s : State) : Prop := ∀ r j, ((s.core r).ctx j).fpPend = 0

/-- The memories of bytes are in canonical form (DESIGN CHOICE, Log 2): A-space, I-space and W-space of every core, and G-physical memory. -/
def State.canonical (s : State) : Prop :=
  Memory.wf s.gmem = true ∧ ∀ r, Memory.wf (s.core r).aspace = true ∧ Memory.wf (s.core r).ispace = true
    ∧ Memory.wf (s.core r).wspace = true

/-- An instruction traps precisely with this cause and information: it changes nothing but what trap entry does (R227, R231). -/
def State.trapsWith (s : State) (i : Instr) (c : Cause) (info : DWord) : Prop :=
  exec i s = .next (s.takeTrap { cause := c, slot := slotOf i, info := info })

/-! ### What is left as it was -/

/-- Every register of a context is as it was but for the trap record: the register files, the configuration and the system
registers that no trap writes (R5, R107). -/
def Ctx.sameRegs (x y : Ctx) : Prop :=
  y.s = x.s ∧ y.a = x.a ∧ y.p = x.p ∧ y.v = x.v ∧ y.vq = x.vq ∧ y.q = x.q ∧ y.n = x.n ∧ y.fmt = x.fmt ∧ y.lfmt = x.lfmt
    ∧ y.mcfg = x.mcfg ∧ y.mscale = x.mscale ∧ y.mlat = x.mlat ∧ y.mlatBase = x.mlatBase
    ∧ y.fpFlags = x.fpFlags ∧ y.trapVec = x.trapVec ∧ y.stkLim = x.stkLim ∧ y.heapBase = x.heapBase ∧ y.heapLim = x.heapLim
    ∧ y.heapOff = x.heapOff ∧ y.rowProg = x.rowProg ∧ y.prio = x.prio ∧ y.svcSel = x.svcSel ∧ y.windows = x.windows

/-- A context is the same one, with the same rights: no instruction may change these (R214). -/
def Ctx.sameRights (x y : Ctx) : Prop :=
  y.priv = x.priv ∧ y.part = x.part ∧ y.launch = x.launch ∧ y.launchCtx = x.launchCtx ∧ y.originRank = x.originRank
    ∧ y.tileBase = x.tileBase ∧ y.tileCount = x.tileCount ∧ y.tag = x.tag

/-- Every context but the acting one is as it was, on every core, and no context has other rights (R214). -/
def State.othersSame (s t : State) : Prop :=
  (∀ r j, (r ≠ s.cur ∨ j ≠ s.who) → (t.core r).ctx j = (s.core r).ctx j)
    ∧ ∀ r j, ((s.core r).ctx j).sameRights ((t.core r).ctx j)

/-- A wait at a work queue (R100, R101). -/
def Wait.atQueue : Wait → Bool
  | .queuePop .. | .queuePush .. => true
  | _ => false

/-- Every byte of the memories outside the cores reads as it did: G-physical memory and H-space. -/
def State.sameOutside (s t : State) : Prop := (∀ a, t.gByte a = s.gByte a) ∧ (∀ a, t.hmem.get 0 a = s.hmem.get 0 a)

/-- Everything a core stores reads as it did, but for A-space: I-space, W-space with its attributes, and tiles. -/
def Core.sameStores (c d : Core) : Prop :=
  (∀ a, d.ispace.get 0 a = c.ispace.get 0 a) ∧ (∀ r, d.wRow r = c.wRow r) ∧ (∀ r, d.attrOf r = c.attrOf r)
    ∧ (∀ t, d.tile t = c.tile t)

/-- Every byte and full bit of A-space reads as it did. -/
def Core.sameSpace (c d : Core) : Prop := (∀ a, d.rByte a = c.rByte a) ∧ (∀ a, d.isFull a = c.isFull a)

/-- Nothing that a program can read has changed but for the acting context's own record: every memory, and every register of every other
context. -/
def State.quiet (s t : State) : Prop :=
  s.sameOutside t ∧ (∀ r, (s.core r).sameStores (t.core r) ∧ (s.core r).sameSpace (t.core r))
    ∧ ∀ r j, (r ≠ s.cur ∨ j ≠ s.who) → ((s.core r).ctx j).sameRegs ((t.core r).ctx j)

/-- The instructions of a slot that write no memory and no register in the cycle in which they issue: their results, if any,
land later (R36), and what they ask of an engine is done later (R183). The others are NSET, SYSWR, EVPOP, the queue accesses, the
stores and full/empty accesses, PUB.def and PUB.clr, MCFG, MLAT, MSTOP, MMA and MMV. -/
def writesLater (i : Instr) : Bool :=
  match i with
  | .nset .. | .syswr .. | .evpop .. | .qpop .. | .qpopB .. | .qpush .. => false
  | .st .. | .sta .. | .stv .. | .stvs .. | .stvx .. | .ste .. | .ldf .. | .fesetF .. | .fesetE .. => false
  | .pubDef .. | .pubClr .. | .mcfg .. | .mcfgR .. | .mlat .. | .mstop .. | .mma .. | .mmv .. => false
  | _ => i.slotClass.isSome

end Sys2Proof.Machine
end

