-- ==== Sys2Proof/Certificates/Slice0/Obligations.lean ====
section
/-! DEFINITION. What is to be proved of the model: the statements that formalise the rules of the specification. -/
section Statements
open Sys2Proof Sys2Proof.Machine

/-! ### Steps, bundles and decode -/

/-- A step without a request is one wall cycle of the package; without power it is a fault. The host's accesses to a partition's block
and its reads of the management block that arrive in the cycle are served first, and then a request from outside happens, and a wall
cycle follows; a step that the package makes of itself cannot be requested (Log 5). A wall cycle makes the stretches of an interval that
begins, finds the errors of cells, runs the cores, their engines, the package's units, and ends. Of a write and a read of a partition's block that arrive in one cycle, the one that
comes first in their order is served first. -/
def Obligations.StepIsWallCycle : Prop := ∀ s b : State, b = s.blockCycle.managementCycle →
  (b.inbox = [] → b.powered = true → step s = .next b.wallCycle)
  ∧ (b.inbox = [] → b.powered = false → step s = .fault .powerOff)
  ∧ (∀ i rest t, b.inbox = i :: rest → fromOutside i = true → exec i { b with inbox := rest } = .next t →
      step s = .next t.wallCycle)
  ∧ (∀ i rest, b.inbox = i :: rest → fromOutside i = false → step s = .next ({ b with inbox := rest } : State).wallCycle)
  ∧ (s.accesses = [] → s.mgReads = [] → b = s)
  ∧ (∀ p q, s.powered = true → p.at_ ≤ s.wall → q.at_ ≤ s.wall → s.accesses = [p, q] →
      b = ((({ s with accesses := [] } : State).blockAccess p).blockAccess q).managementCycle)
  ∧ (∀ r, s.powered = true → s.accesses = [] → s.mgReads = [r] → b =
      if r.at_ ≤ s.wall then ({ s with mgReads := [] } : State).readManagement r.off else s)
  ∧ (s.powered = true → s.wallCycle = s.intervalCycle.errorsCycle.coresCycle.unitsCycle.finishCycle.fatalCycle)
  ∧ (s.powered = false → s.wallCycle = s)
  ∧ (s.upsets = [] → s.errorsCycle = s)

/-- A core whose freeze line is asserted, or whose clock is stretched, issues nothing, and leaves each of its contexts as it is, unless lanes
of a strided or indexed access are still to be served, but for the count of the frozen cycles of an LDF or STE that is held. On a core that nothing found beforehand freezes, the matrix engine advances, what
is due lands, the context that holds the issue width issues, and then the cycle is counted. The order of the parts of a core's cycle is
the model's (Log 5). -/
def Obligations.CoreCycleIssues : Prop := ∀ s : State,
  (s.me.stretch ≠ 0 ∨ s.me.freezeCause = true → s.userPhase.me.frozen = true
    ∧ (s.me.lanes = none → ∀ i, s.userPhase.me.ctx i =
        if s.me.holder = some i ∧ (s.me.ctx i).feFrozen ≠ 0 then { s.me.ctx i with feFrozen := (s.me.ctx i).feFrozen + 1 }
        else s.me.ctx i))
  ∧ (∀ h r t u, s.me.stretch = 0 → s.me.freezeCause = false →
      r = s.updCore (fun c => { c.laneCycle with stretch := c.stretch - 1, freeze := c.freeze - 1 }) → r.matrixFreezes = false →
      r.matrixAdvance.matrixFaults.mmasCommits.landUsers.matrixStart = t →
      t.me.holder = some h → ({ t with who := h } : State).issueCycle = (none, u) →
      s.userPhase = (u.haltNow.matrixChunks t.me).tick)

/-- Where the bundle at the program counter holds one word that is no NOP, in the slot `k`, and that word decodes to `i`, then the
context's cycle performs `i`: with the bundle kept, a loop's body fixed in its first pass, and the wait ended (`t`), the cycle is `exec i t`, and then the advance past the
bundle to the place its transfer or its next header gives. `p` is the context with what ERET has put back, and `q` with the loop step
that was due. -/
def Obligations.BundleRunsInstruction : Prop := ∀ (s p q t u : State) (e : Expanded) (k : Nat) (w : Word) (i : Instr) (a : Act),
  s.ctx.bubbles = 0 → s.ctx.wait = none →
  p = (s.updCtx (fun x => { x with wait := none, waitOver := false })).reinject → p.pendingTrap = none →
  q = p.stepped → q.ctx.owedB = 0 → q.ctx.owedN = 0 → q.me.fetchFault q.who = none →
  e = q.me.bundleAt q.who q.ctx.pc → e.headerOk = true →
  k < 8 → e.words = List.replicate k 0 ++ w :: List.replicate (7 - k) 0 → w ≠ 0 →
  decodeSlot (slotClassOf k) w = .ok i → actOf i = some a → slotOf i = k →
  bundleFault q [⟨k, some (i, a)⟩] = none → bundleHold q [⟨k, some (i, a)⟩] = none →
  t = (q.keep e).updCtx (fun x => { x.fixBody e with wait := none, waitOver := false }) → t.issues i a → exec i t = .next u →
  s.bundleIssue = ((u.updCtx (fun x => x.advance e.run e.next ({ t with cores := u.cores } : State).skipPlace)).updCtx
    (fun x => { x with xfer := .none })).haltNow

/-- Words that the specification writes out decode to their instructions, in the slot of their class. -/
def Obligations.DecodedWords : Prop :=
  decodeSlot .S 0x024A0FDB#32 = .ok (.movi 0 5 0x0FDB)
  ∧ decodeSlot .S 0x024BFFFD#32 = .ok (.movi 0 5 0x1FFFD)
  ∧ decodeSlot .S 0x03120880#32 = .ok (.cmp 0 2 2 1 2)
  ∧ decodeSlot .S 0x0C81E004#32 = .ok (.sysrd 0 0 15 4)
  ∧ decodeSlot .S 0x0C400000#32 = .ok (.eret 0)
  ∧ decodeSlot .V 0x04641108#32 = .ok (.vcmp 0 2 2 1 2 0 8)
  ∧ decodeSlot .A 0x01468980#32 = .ok (.ldvs 0 3 4 9)
  ∧ decodeSlot .W 0x00CC8C00#32 = .ok (.wldd 0 3 2 3)
  ∧ decodeSlot .M 0x01C00000#32 = .ok (.mstop 0)
  ∧ decodeSlot .C 0x0719C1A0#32 = .ok (.binit 0 6 7 13)

/-- Decoding the encoding of an instruction in its slot's class gives the instruction back, with every field at every value. -/
def Obligations.RoundTrip : Prop := ∀ (i : Instr) (c : SlotClass) (w : Word),
  i.slotClass = some c → encode i = some w → decodeSlot c w = .ok i

/-- Opcode 0 with a zero operand field is NOP in every class, whatever its guard, and does nothing; with another operand field it is
no instruction, and its slot has the fault ILLEGAL; and the NOP word is 0. -/
def Obligations.NopWords : Prop :=
  (∀ (c : SlotClass) (w : Word), opOf w = 0 → w.extractLsb' 0 22 = 0 → decodeSlot c w = .ok (.nop (guardOf w)))
  ∧ (∀ (c : SlotClass) (w : Word) (i : Instr), opOf w = 0 → w.extractLsb' 0 22 ≠ 0 → decodeSlot c w ≠ .ok i)
  ∧ (∀ (n : Nat) (w : Word) (l : List Word) (s : State), opOf w = 0 → w.extractLsb' 0 22 ≠ 0 →
      ∃ k rest, decodeWords n (w :: l) = k :: rest ∧ k.index = n ∧ k.fault s = some .illegal)
  ∧ (∀ (g : BitVec 4) (s : State), s.ctx.poisoned (.p g) = false → exec (.nop g) s = .next s)
  ∧ (∀ (n : Nat) (l : List Word), decodeWords n (0#32 :: l) = decodeWords (n + 1) l)

/-- Of the faults of one bundle, ILLEGAL is reported before PRIV and PRIV before every other, and each for the lowest slot. ILLEGAL is that
of a word found at decode, and that of a slot with a true guard found at issue. A KVAPP is checked after those of the bundle's earlier
slots, which is the model's reading (Log 31); every other slot sees the state as it is. -/
def Obligations.FaultOrder : Prop := ∀ (s : State) (l : List SlotWord),
  (List.Pairwise (fun v w => v.index < w.index) l →
    (∀ k ∈ l, ∀ info, k.illegal s = some info → (∀ v ∈ l, v.index < k.index → v.illegal s = none) →
      bundleFault s l = some (k.index, .trap .illegal info))
    ∧ ((∀ k ∈ l, k.illegal s = none) →
      ∀ k ∈ l, k.fault s = some .priv → (∀ v ∈ l, v.index < k.index → v.fault s ≠ some .priv) →
      bundleFault s l = some (k.index, .trap .priv 0))
    ∧ ((∀ k ∈ l, k.illegal s = none ∧ k.fault s ≠ some .priv) →
      ∀ k ∈ l, ∀ i a f, k.meaning = some (i, a) → issueFault a (s.afterKvapps l k) = some f →
      (∀ v ∈ l, v.index < k.index → ∀ j b, v.meaning = some (j, b) → issueFault b (s.afterKvapps l v) = none) →
      bundleFault s l = some (k.index, f)))
  ∧ (∀ k : SlotWord, k.fault s = some .illegal → k.illegal s = some 0)
  ∧ (∀ (k : SlotWord) i a info, k.meaning = some (i, a) → k.fault s = none → issueFault a s = some (.trap .illegal info) →
      k.illegal s = some info)
  ∧ (∀ (k : SlotWord) i a, k.meaning = some (i, a) → (∀ g x y z u e, i ≠ .kvapp g x y z u e) → s.afterKvapps l k = s)

/-- Every instruction answers a next state in every state: none ends a run. -/
def Obligations.EveryInstructionAnswers : Prop := ∀ (i : Instr) (s : State), ∃ t, exec i s = .next t

/-! ### Reset and invariants -/

/-- The registers that the specification gives a reset value hold it: every system register of a user context is 0 but for the
context's number in CX_STATUS and the readout scale, which is 1.0. -/
def Obligations.ResetValues : Prop := ∀ (r j : Nat), r < 512 → j < 4 →
  (∀ n, n ∈ [0x001, 0x002, 0x003, 0x005, 0x006, 0x007, 0x008, 0x009, 0x00A, 0x00B, 0x00C, 0x010, 0x011, 0x012, 0x013,
      0x014, 0x015, 0x016, 0x017, 0x018, 0x019, 0x01A, 0x01B, 0x01C, 0x01E, 0x01F] →
    ({ State.reset with cur := r, who := j } : State).sysGet n = 0)
  ∧ ({ State.reset with cur := r, who := j } : State).sysGet 0x000 = BitVec.ofNat 64 (j * 32)
  ∧ ({ State.reset with cur := r, who := j } : State).sysGet 0x01D = 0x3F800000

/-- The reset state has its memories in canonical form and no flags to merge; it stands at the first step of a cold start, with the
counters at zero; and on every core CO_RANK is the core's rank, CO_GROUPS has no group and PK_LEASEPERIOD is a day. That reset memory
lists nothing is the model's choice (Log 2), and so is that the counter of wall cycles begins again with a start (Log 19). -/
def Obligations.ResetInvariants : Prop := State.reset.canonical ∧ State.reset.flagsMerged
  ∧ State.reset.powered = true ∧ State.reset.start.cold = true ∧ State.reset.start.step = 1 ∧ State.reset.wall = 0
  ∧ ∀ r j : Nat, r < 512 → j < 4 →
    ({ State.reset with cur := r, who := j } : State).sysGet 0x040 = BitVec.ofNat 64 r
    ∧ ({ State.reset with cur := r, who := j } : State).sysGet 0x041 = 0xFFFFFFFF
    ∧ ({ State.reset with cur := r, who := j } : State).sysGet 0x080 = 86400

/-- The flags that land in a cycle are ORed into CX_FPFLAGS at its end, on every core and in every context, and none is left over; and
every step, from every state and whatever it is asked, leaves a package with power in a state in which no flags wait. -/
def Obligations.FlagsMerged : Prop :=
  (∀ (c : Core) (w j : Nat), ((c.endCycle w).ctx j).fpFlags = (c.ctx j).fpFlags ||| (c.ctx j).fpPend ∧ ((c.endCycle w).ctx j).fpPend = 0)
  ∧ ∀ s t : State, step s = .next t → t.powered = true → t.flagsMerged

/-! ### Results in flight and registers -/

/-- A slot's result is put in flight and changes nothing else: it is due its latency after the context's clock, it comes after every
result issued earlier, and no register, no memory and no other context changes. The slots of a bundle perform in their order, each on what
the earlier ones have done, but every one evaluates its guard and reads its sources in the state at issue, `s`: a slot whose guard is false
does nothing; an instruction that does nothing but put a result in flight puts the same result in flight whatever the earlier slots have
done, a load's among them, so that loads come before the bundle's stores; a store writes what its registers held at issue; and the lanes of
a load that are served in later cycles read no byte as another slot of the bundle has stored it. -/
def Obligations.EmitFrame : Prop := ∀ (s : State) (lat : Nat) (ws : List RegWrite) (fl : FpFlags) (bad : Bool),
  (s.emit lat ws fl bad).ctx =
      { s.ctx with pend := insertPend ⟨s.ctx.clock + lat, s.me.seq, ws, fl, bad⟩ s.ctx.pend }
  ∧ ((∀ e ∈ s.ctx.pend, e.seq ≤ s.me.seq) →
      (s.emit lat ws fl bad).ctx.pend = s.ctx.pend ++ [⟨s.ctx.clock + lat, s.me.seq, ws, fl, bad⟩])
  ∧ (s.emit lat ws fl bad).me = { s.me.setCtx s.who (s.emit lat ws fl bad).ctx with seq := s.me.seq + 1 }
  ∧ (∀ r, r ≠ s.cur → (s.emit lat ws fl bad).core r = s.core r)
  ∧ s.emit lat ws fl bad = { s with cores := (s.emit lat ws fl bad).cores }
  ∧ (∀ k l t, performSlots s t (k :: l) = performSlots s (performSlots s t [k]) l)
  ∧ (∀ k i a, k = (⟨slotOf i, some (i, a)⟩ : SlotWord) → actOf i = some a →
    (s.ctx.rp a.guard.toNat = false → ∀ t, performSlots s t [k] = t)
    ∧ (s.issues i a → a.arrayHeld s = none →
      exec i s = .next (performSlots s s [k])
      ∧ (resultOnly i = true → (∀ t, performSlots s t [k] = t)
          ∨ ∃ lat ws fl bad, ∀ t, performSlots s t [k] = t.emit lat ws fl bad)
      ∧ (∀ t l, (∀ n, t.me.aPhys n = s.me.aPhys n) → storesOf i s.ctx = some l →
          ((∃ g d b z o, i = .st g d b z o) ∨ (∃ g d b o, i = .sta g d b o) ∨ ∃ g d b o, i = .stv g d b o) →
          performSlots s t [k] = t.updCore (fun c => { c with
            aspace := (performSlots s t [k]).me.aspace, apoison := (performSlots s t [k]).me.apoison, lanes := (performSlots s t [k]).me.lanes })
          ∧ (∀ l1 x v l2, l = l1 ++ (x, v) :: l2 → (∀ p ∈ l2, s.me.aPhys p.1 ≠ s.me.aPhys x) → (performSlots s t [k]).me.rByte x = v)
          ∧ (∀ x, (∀ p ∈ l, s.me.aPhys p.1 ≠ s.me.aPhys x) → (performSlots s t [k]).me.rByte x = t.me.rByte x))
      ∧ (∀ t b L m, t.cur = s.cur → (∀ n, t.me.aPhys n = s.me.aPhys n) →
          ((∃ g d u, i = .ldvs g d b u) ∨ ∃ g d u, i = .ldvx g d b u) →
          accessOf i s.ctx = some (b, L, 4, 4, false) → bankWords L m → 1 < m →
          ∃ q, (performSlots s t [k]).me.lanes = some q ∧ ∀ n j A w, (n, j, A, w) ∈ q.items → ∀ x, x < 4 →
            ((q.hides.find (s.me.aPhys (A.toNat + x))).map Prod.fst).getD (t.me.rByte (A.toNat + x)) = s.me.rByte (A.toNat + x))))

/-- At its due time a result is written: the last issued of the results due decides a register (a bit of a vector register, the row or
column of a tile register), and what none of them names keeps its value: the lanes that no mask takes in as well. Every flag of a result
that is due is set even when its value is lost, what is due later stays in flight, and the other contexts are as they were. Of lanes that
were put in flight every active one then holds its new value, cut to the width of the type, and every other what it held. What lands in
accumulator tiles: an MZERO leaves zeros of its format and its readout scale; a row of VACW leaves in each of the row's 64 elements its lane,
converted to the format of the tile, and keeps the format, the scale and every other element; and a commit leaves the command's sums in
the rows and columns that it computes, the accumulator format of its operand pair and its readout scale, with the other elements kept where the
tile had that format as the command read it, and zero elsewhere. An FP64 element has its high word in the odd tile. That a row of VACW
into the odd tile of what has become a pair is a row of the pair (Log 61), and that the even tile of a pair decides what a commit keeps
(Log 54), are the model's choices. -/
def Obligations.ResultsLand : Prop := (∀ (c : Core) (i t : Nat),
  ((c.land i t).ctx i).pend = (c.ctx i).pend.filter (fun e => ¬ e.due ≤ t)
  ∧ (∀ r, noneInto (RegWrite.intoS r) ((c.ctx i).duePend t) → ((c.land i t).ctx i).s.get 0 r = (c.ctx i).s.get 0 r)
  ∧ (∀ r, noneInto (RegWrite.intoA r) ((c.ctx i).duePend t) → ((c.land i t).ctx i).a.get 0 r = (c.ctx i).a.get 0 r)
  ∧ (∀ r, noneInto (RegWrite.intoP r) ((c.ctx i).duePend t) → ((c.land i t).ctx i).p.getLsbD r = (c.ctx i).p.getLsbD r)
  ∧ (∀ r, noneInto (RegWrite.intoV r) ((c.ctx i).duePend t) → ((c.land i t).ctx i).v.get 0 r = (c.ctx i).v.get 0 r)
  ∧ (∀ r k, noneInto (RegWrite.intoVBit r k) ((c.ctx i).duePend t) →
      (((c.land i t).ctx i).v.get 0 r).getLsbD k = ((c.ctx i).v.get 0 r).getLsbD k)
  ∧ (∀ r, noneInto (RegWrite.intoVq r) ((c.ctx i).duePend t) → ((c.land i t).ctx i).vq.get 0 r = (c.ctx i).vq.get 0 r)
  ∧ (∀ l1 e l2 w1 w2 r v, r ≠ 0 → (c.ctx i).duePend t = l1 ++ e :: l2 → e.writes = w1 ++ RegWrite.s r v :: w2 →
      (∀ w ∈ w2, w.intoS r = false) → noneInto (RegWrite.intoS r) l2 → ((c.land i t).ctx i).s.get 0 r = v)
  ∧ (∀ l1 e l2 w1 w2 r v, (c.ctx i).duePend t = l1 ++ e :: l2 → e.writes = w1 ++ RegWrite.a r v :: w2 →
      (∀ w ∈ w2, w.intoA r = false) → noneInto (RegWrite.intoA r) l2 → ((c.land i t).ctx i).a.get 0 r = v)
  ∧ (∀ l1 e l2 w1 w2 r v, 2 ≤ r → r ≤ 13 → (c.ctx i).duePend t = l1 ++ e :: l2 → e.writes = w1 ++ RegWrite.p r v :: w2 →
      (∀ w ∈ w2, w.intoP r = false) → noneInto (RegWrite.intoP r) l2 → ((c.land i t).ctx i).p.getLsbD r = v)
  ∧ (∀ l1 e l2 w1 w2 r v m k, (c.ctx i).duePend t = l1 ++ e :: l2 → e.writes = w1 ++ RegWrite.v r v m :: w2 → m.getLsbD k = true →
      (∀ w ∈ w2, w.intoVBit r k = false) → noneInto (RegWrite.intoVBit r k) l2 →
      (((c.land i t).ctx i).v.get 0 r).getLsbD k = v.getLsbD k)
  ∧ (∀ l1 e l2 w1 w2 r v, r ≠ 0 → (c.ctx i).duePend t = l1 ++ e :: l2 → e.writes = w1 ++ RegWrite.vq r v :: w2 →
      (∀ w ∈ w2, w.intoVq r = false) → noneInto (RegWrite.intoVq r) l2 → ((c.land i t).ctx i).vq.get 0 r = v)
  ∧ ((∀ e ∈ (c.ctx i).duePend t, ∀ w ∈ e.writes, ∀ q n col l, w = .q q n col l → n < 32 ∧ l.length ≤ 32) → ∀ q,
      (noneInto (RegWrite.intoQ q) ((c.ctx i).duePend t) → ∀ j k, j < 32 → k < 32 → ((c.land i t).ctx i).rq q j k = (c.ctx i).rq q j k)
      ∧ ∀ l1 e l2 w1 w2 n l, (c.ctx i).duePend t = l1 ++ e :: l2 → (∀ w ∈ w2, w.intoQ q = false) → noneInto (RegWrite.intoQ q) l2 →
        l.length = 32 → ∀ k, k < 32 →
        (e.writes = w1 ++ RegWrite.q q n false l :: w2 → ((c.land i t).ctx i).rq q n k = l.getD k 0)
        ∧ (e.writes = w1 ++ RegWrite.q q n true l :: w2 → ((c.land i t).ctx i).rq q k n = l.getD k 0))
  ∧ (∀ j, j ≠ i → (c.land i t).ctx j = c.ctx j)
  ∧ (∀ e k, e ∈ (c.ctx i).duePend t → e.flags.getLsbD k = true → ((c.land i t).ctx i).fpPend.getLsbD k = true))
  ∧ (∀ (x : Ctx) (r : Nat) (t : Nat) (m : BitVec 64) (f : Nat → Nat) (i : Nat), t ≤ 11 → i < typeLanes t →
    vLane ((x.wv r (vOfLanes (typeBytes t) ((List.range (typeLanes t)).map f)) (laneMask t m)).rv r) (typeBytes t) i =
      (if laneActive t m i then f i % 2 ^ (8 * typeBytes t) else vLane (x.rv r) (typeBytes t) i)
    ∧ vLane ((x.wv r (vOfLanes (typeBytes t) ((List.range (typeLanes t)).map f)) vAll).rv r) (typeBytes t) i = f i % 2 ^ (8 * typeBytes t)
    ∧ ∀ k, k ≠ r → (x.wv r (vOfLanes (typeBytes t) ((List.range (typeLanes t)).map f)) (laneMask t m)).rv k = x.rv k)
  ∧ (∀ (c : Core) (x : Ctx) (fmts : Nat → AccFmt) (bad : Bool) (t : Nat) (d : Core × Ctx × FpFlags),
    (∀ fmt sc, d = landWrite fmts c x bad (.mzero t fmt sc) → d.2.2 = 0 ∧ (d.1.tile t).fmt = fmt ∧ (d.1.tile t).scale = sc
      ∧ (∀ i, (d.1.tile t).elems.get 0 i = 0) ∧ ∀ u, u ≠ t → d.1.tile u = c.tile u)
    ∧ (∀ row type lanes, row < 64 → lanes.length = 64 → d = landWrite fmts c x bad (.accRow t row type lanes) →
      ∀ (p : Nat) (v : Nat → Nat × FpFlags), p = (if fmts t = .f64 then t / 2 * 2 else t) →
      v = (fun j => accConvert (fmts t) (unpackElem type (nf8Fmt 0) (lanes.getD j 0))) →
      (∀ u, (d.1.tile u).fmt = (c.tile u).fmt ∧ (d.1.tile u).scale = (c.tile u).scale)
      ∧ (∀ j, j < 64 → (d.1.tile p).elems.get 0 (row * 64 + j) = BitVec.ofNat 32 (v j).1
        ∧ (fmts t = .f64 → (d.1.tile (p + 1)).elems.get 0 (row * 64 + j) = BitVec.ofNat 32 ((v j).1 / 2 ^ 32)))
      ∧ (∀ u i, (u ≠ p ∧ (fmts t = .f64 → u ≠ p + 1)) ∨ i / 64 ≠ row → (d.1.tile u).elems.get 0 i = (c.tile u).elems.get 0 i)
      ∧ (∀ k, d.2.2.getLsbD k = true ↔ ∃ j, j < 64 ∧ (v j).2.getLsbD k = true))
    ∧ (∀ id m, c.cmds.find? (fun k => k.id = id) = some m → m.sums.length = 4096 → d = landWrite fmts c x bad (.commit id) →
      d.1.cmds = c.cmds.filter (fun k => k.id ≠ id) ∧ d.2.2 = m.flags
      ∧ ∀ fmt, fmt = accFmtOf m.cfg m.mlat →
        (∀ u, u = m.tile ∨ (u = m.tile + 1 ∧ fmt = .f64) → (d.1.tile u).fmt = fmt ∧ (d.1.tile u).scale = m.scale
          ∧ ∀ i, i < 4096 → (d.1.tile u).elems.get 0 i =
            if i / 64 < m.rowsUsed ∧ i % 64 < m.colsUsed then
              BitVec.ofNat 32 (if u = m.tile then m.sums.getD i 0 else m.sums.getD i 0 / 2 ^ 32)
            else if m.tileFmt = fmt then (c.tile u).elems.get 0 i else 0)
        ∧ ∀ u, u ≠ m.tile → (fmt = .f64 → u ≠ m.tile + 1) → d.1.tile u = c.tile u))
  ∧ (∀ x, accConvert .f32 x = fp32.round x ∧ accConvert .f64 x = fp64.round x
    ∧ accConvert .i32 x = (((toIntRange .rne (-0x80000000) 0x7FFFFFFF x).1 % (2 ^ 32 : Nat)).toNat, (toIntRange .rne (-0x80000000) 0x7FFFFFFF x).2))

/-- s0 reads 0, vq0 all ones, p0 true and p1 false; p14 and p15 read true outside a loop, and in one they mark the first and the last
iteration of its innermost level. A write to any of these is discarded. -/
def Obligations.HardwiredRegisters : Prop := ∀ x : Ctx,
  x.rs 0 = 0 ∧ x.rvq 0 = BitVec.allOnes 64 ∧ x.rp 0 = true ∧ x.rp 1 = false
  ∧ (x.loop.active = false → x.rp 14 = true ∧ x.rp 15 = true)
  ∧ (x.loop.active = true → (x.rp 14 = true ↔ x.loop.counter 0 = 0) ∧ (x.rp 15 = true ↔ x.loop.counter 0 + 1 = x.loop.count 0))
  ∧ (∀ v, x.ws 0 v = x) ∧ (∀ v, x.wvq 0 v = x)
  ∧ (∀ r v, r = 0 ∨ r = 1 ∨ r = 14 ∨ r = 15 → x.wp r v = x)
  ∧ (∀ (r : BitVec 5) v, r ≠ 0 → (x.ws r.toNat v).rs r = v)
  ∧ (∀ r v, 2 ≤ r → r ≤ 13 → (x.wp r v).rp r = v ∧ ∀ n, n ≠ r → (x.wp r v).rp n = x.rp n)

/-! ### Guards, traps and returns -/

/-- A slot whose guard reads false does nothing; only the decode faults are taken whatever the guard. p0 always reads true and p1
always false. -/
def Obligations.GuardFalse : Prop := ∀ (i : Instr) (a : Act) (s : State), actOf i = some a →
  (decodeFault i a s = none → s.ctx.poisoned (.p a.guard) = false → s.ctx.rp a.guard.toNat = false → exec i s = .next s)
  ∧ (∀ c, decodeFault i a s = some c → s.trapsWith i c 0 ∧ (c = .illegal ∨ c = .priv))
  ∧ s.ctx.rp 0 = true ∧ s.ctx.rp 1 = false

/-- A word whose fields break a limit of its instruction, or that the state of the context bars at decode, traps ILLEGAL, whatever its
guard reads. -/
def Obligations.IllFormedTraps : Prop := ∀ (i : Instr) (a : Act) (s : State), actOf i = some a →
  (i.wf = false ∨ a.banned s = true) → s.trapsWith i .illegal 0

/-- A user context that issues a privileged cell or form, or names a privileged system register, traps PRIV at decode, whatever its
guard reads; no other instruction is privileged. -/
def Obligations.PrivilegeTraps : Prop :=
  (∀ (s : State) (g x y t : BitVec 4) (u : BitVec 5) (e : BitVec 1), s.ctx.priv = false →
    s.trapsWith (.atag g x y u) .priv 0
    ∧ ((Instr.migr g x y t u e).wf = true → s.trapsWith (.migr g x y t u e) .priv 0)
    ∧ ((Instr.qcrt g x y t u).wf = true → s.trapsWith (.qcrt g x y t u) .priv 0)
    ∧ s.trapsWith (.qdel g t u) .priv 0 ∧ s.trapsWith (.cwbInv g x t u) .priv 0
    ∧ s.trapsWith (.wprogAttr g x y t e) .priv 0)
  ∧ (∀ (s : State) (g a : BitVec 4) (u : BitVec 5) (r : BitVec 9), s.ctx.priv = false → (Instr.sysrd g u a r).wf = true →
    r.toNat ∈ [0x009, 0x00F, 0x080, 0x081] → s.trapsWith (.sysrd g u a r) .priv 0)
  ∧ (∀ (s : State) (g a : BitVec 4) (u : BitVec 5) (r : BitVec 9), s.ctx.priv = false → (Instr.syswr g u a r).wf = true →
    r.toNat ∈ [0x007, 0x008, 0x009, 0x00C, 0x00F, 0x042, 0x080, 0x081] → s.trapsWith (.syswr g u a r) .priv 0)
  ∧ (∀ (i : Instr) (a : Act), actOf i = some a → a.priv = true → match i with
      | .atag .. | .migr .. | .qcrt .. | .qdel .. | .cwbInv .. | .wprogAttr .. => True
      | .sysrd _ _ _ r => r.toNat ∈ [0x009, 0x00F, 0x080, 0x081]
      | .syswr _ _ _ r => r.toNat ∈ [0x007, 0x008, 0x009, 0x00C, 0x00F, 0x042, 0x080, 0x081]
      | _ => False)

/-- Trap entry in a context that has a handler and runs none: the record is written, the results due later are captured, the loop is
suspended, and the handler's first bundle issues three cycles on; registers, rights and the other contexts are as they were. A trap
that comes while captured results wait for the bundle that was interrupted finds them in flight again and captures them anew (Log 37).
A trap with no handler, or while the handler runs, stops the context: it issues nothing further and its captured results are gone.
With a handler running no record is written; with none, the record is kept. -/
def Obligations.TrapEntry : Prop :=
  (∀ (s : State) (t : Trap) (after : Bool),
  s.ctx.inTrap = false → s.ctx.replayArmed = false → s.ctx.trapVec.extractLsb' 0 17 ≠ 0 → t.slot < 8 → t.stream < 16 → s.ctx.owedN + s.ctx.owedB < 1024 →
  ((s.takeTrap t after).ctx.trapCause.extractLsb' 0 8).toNat = t.cause.code
  ∧ ((s.takeTrap t after).ctx.trapCause.extractLsb' 8 3).toNat = t.slot
  ∧ (s.takeTrap t after).ctx.trapCause.getLsbD 11 = after
  ∧ ((s.takeTrap t after).ctx.trapCause.extractLsb' 12 4).toNat = t.stream
  ∧ ((s.takeTrap t after).ctx.trapCause.extractLsb' 16 10).toNat = s.ctx.owedN + s.ctx.owedB
  ∧ (s.takeTrap t after).ctx.trapPc = BitVec.ofNat 64 (s.ctx.pc % 0x40000)
  ∧ (s.takeTrap t after).ctx.trapInfo = t.info
  ∧ (s.takeTrap t after).ctx.inTrap = true
  ∧ (s.takeTrap t after).ctx.pc = s.ctx.liveHalf * 0x20000 + (s.ctx.trapVec.extractLsb' 2 15).toNat * 4
  ∧ (s.takeTrap t after).ctx.bubbles = 2 ∧ (s.takeTrap t after).ctx.owedN = 0 ∧ (s.takeTrap t after).ctx.owedB = 0
  ∧ (s.takeTrap t after).ctx.suspended = s.ctx.loop ∧ (s.takeTrap t after).ctx.loop = {}
  ∧ (∀ e, e ∈ (s.takeTrap t after).ctx.pend ↔ e ∈ s.ctx.pend ∧ e.due ≤ s.ctx.clock)
  ∧ (∀ e, e ∈ (s.takeTrap t after).ctx.replay ↔ ∃ d ∈ s.ctx.pend, s.ctx.clock < d.due ∧ e = { d with due := d.due - s.ctx.clock })
  ∧ s.ctx.sameRegs (s.takeTrap t after).ctx ∧ s.othersSame (s.takeTrap t after))
  ∧ (∀ (s : State) (t : Trap) (after : Bool), s.ctx.inTrap = false → s.ctx.replayArmed = true →
    s.takeTrap t after = (s.putBack (s.ctx.owedN + s.ctx.owedB - s.ctx.replayOwed)).takeTrap t after)
  ∧ (∀ (s : State) (t : Trap) (after : Bool),
  (s.ctx.inTrap = true ∨ s.ctx.trapVec.extractLsb' 0 17 = 0) →
  (s.takeTrap t after).ctx.life = .stopped ∧ (s.takeTrap t after).ctx.pend = [] ∧ (s.takeTrap t after).ctx.replay = []
  ∧ (s.takeTrap t after).me.ready s.who = false
  ∧ (s.ctx.inTrap = true → (s.takeTrap t after).ctx.trapCause = s.ctx.trapCause ∧ (s.takeTrap t after).ctx.trapPc = s.ctx.trapPc
      ∧ (s.takeTrap t after).ctx.trapInfo = s.ctx.trapInfo)
  ∧ (s.ctx.inTrap = false →
      (s.takeTrap t after).ctx.trapCause = trapCauseWord t after (s.ctx.owedN + s.ctx.owedB)
      ∧ (s.takeTrap t after).ctx.trapPc = BitVec.ofNat 64 (s.ctx.pc % 0x40000) ∧ (s.takeTrap t after).ctx.trapInfo = t.info))

/-- ERET and ERET.D in a handler whose CX_TRAPPC is a header address of the live half: TRAP is cleared, the loop that was suspended is
back, the owed count is that of CX_TRAPCAUSE, and the context resumes at CX_TRAPPC three cycles on. ERET keeps the captured results to
be put back, ERET.D has none; registers are as they were. Outside a handler both are ILLEGAL. -/
def Obligations.EretResumes : Prop := ∀ (s : State) (g : BitVec 4),
  (s.ctx.inTrap = false → s.trapsWith (.eret g) .illegal 0 ∧ s.trapsWith (.eretD g) .illegal 0)
  ∧ (s.guardOn g → s.ctx.inTrap = true → s.ctx.trapPc.extractLsb' 0 2 = 0 →
      (s.ctx.trapPc.extractLsb' 17 1).toNat = s.ctx.liveHalf →
      exec (.eret g) s = .next (s.eret false) ∧ exec (.eretD g) s = .next (s.eret true))
  ∧ (∀ d, (s.eret d).ctx.inTrap = false ∧ (s.eret d).ctx.pc = (s.ctx.trapPc.extractLsb' 0 18).toNat
      ∧ (s.eret d).ctx.bubbles = 2 ∧ (s.eret d).ctx.suspended = {}
      ∧ (s.eret d).ctx.owedN + (s.eret d).ctx.owedB = (s.ctx.trapCause.extractLsb' 16 10).toNat
      ∧ (s.ctx.suspended.active = false → (s.eret d).ctx.loop = s.ctx.suspended)
      ∧ (∀ q, s.ctx.suspended.active = true →
          s.ctx.suspended.places.find? (fun p => p.1 = (s.ctx.trapPc.extractLsb' 0 18).toNat) = some q → 
          s.ctx.trapCause.extractLsb' 16 10 = 0 → (s.eret d).ctx.loop = { s.ctx.suspended with pos := q.2 })
      ∧ (s.eret d).ctx.replay = (if d then [] else s.ctx.replay) ∧ (s.eret d).ctx.replayArmed = true
      ∧ s.ctx.sameRegs (s.eret d).ctx ∧ s.othersSame (s.eret d))

/-- When the bundle that was interrupted issues again, every captured result is put back in flight as far from its landing as it was,
and no result is added or lost. While more bundles and bubbles are owed than the trap found, they wait for those to issue: that is the
model's reading (Log 37), and so is that a trap which comes meanwhile finds them in flight, counted from the cycle in which that bundle
would have issued. -/
def Obligations.ReplayKeepsDistance : Prop := ∀ s : State, s.ctx.replayArmed = true →
  (s.ctx.replayOwed < s.ctx.owedN + s.ctx.owedB → s.reinject = s)
  ∧ (s.ctx.owedN + s.ctx.owedB ≤ s.ctx.replayOwed → s.reinject = s.putBack 0
    ∧ ∀ e, e ∈ s.reinject.ctx.pend ↔ e ∈ s.ctx.pend ∨ ∃ r ∈ s.ctx.replay, e = { r with due := s.ctx.clock + r.due })
  ∧ ∀ k, (∀ e, e ∈ (s.putBack k).ctx.pend ↔ e ∈ s.ctx.pend ∨ ∃ r ∈ s.ctx.replay, e = { r with due := s.ctx.clock + k + r.due })
    ∧ (s.putBack k).ctx.pend.length = s.ctx.pend.length + s.ctx.replay.length
    ∧ (s.putBack k).ctx.replay = [] ∧ (s.putBack k).ctx.replayArmed = false ∧ s.ctx.sameRegs (s.putBack k).ctx
    ∧ s.othersSame (s.putBack k)

/-- Poison that a bundle consumes traps POISON outside a containment region, and inside one unwinds the context to the innermost
region: results in flight are discarded, no loop is left, operations of the region that have not begun are cancelled, commands of
the context are gone and their rows at the port dropped, no row progress is left, and the region's handler runs three cycles on with the record written and TRAP as it was. That a poisoned
guard counts as consumed is the model's reading (Log 13), and so is the place at which the unwinding stands (Log 38). -/
def Obligations.PoisonUnwinds : Prop := ∀ (s : State) (k : Nat) (info : DWord),
  (s.ctx.contain = [] → s.consumePoison k info = s.takeTrap { cause := .poison, slot := k, info := info })
  ∧ (∀ r rest, s.ctx.contain = r :: rest → k < 8 →
      ((s.consumePoison k info).ctx.trapCause).toNat = 0x0D + k * 256
      ∧ (s.consumePoison k info).ctx.trapPc = BitVec.ofNat 64 (s.ctx.pc % 0x40000)
      ∧ (s.consumePoison k info).ctx.trapInfo = info ∧ (s.consumePoison k info).ctx.inTrap = s.ctx.inTrap
      ∧ (s.consumePoison k info).ctx.contain = rest ∧ (s.consumePoison k info).ctx.pc = r.handler
      ∧ (s.consumePoison k info).ctx.liveHalf = r.handler / 0x20000 ∧ (s.consumePoison k info).ctx.rowProg = 0
      ∧ (s.consumePoison k info).ctx.bubbles = 2 ∧ (s.consumePoison k info).ctx.loop = {} ∧ (s.consumePoison k info).ctx.suspended = {}
      ∧ (∀ e ∈ (s.consumePoison k info).ctx.pend, e.due ≤ s.ctx.clock) ∧ (s.consumePoison k info).ctx.replay = []
      ∧ (∀ m ∈ (s.consumePoison k info).me.cmds, m.ctx ≠ s.who)
      ∧ (∀ p ∈ (s.consumePoison k info).me.port, p.ctx = s.who → p.dropped = true)
      ∧ (∀ o ∈ (s.consumePoison k info).me.ops, ¬ (o.ctx = s.who ∧ o.region.any (fun q => q.id = r.id) ∧ o.begun = false))
      ∧ ({ s.ctx with rowProg := 0 } : Ctx).sameRegs (s.consumePoison k info).ctx ∧ s.othersSame (s.consumePoison k info))
  ∧ (∀ i a, actOf i = some a → decodeFault i a s = none → a.arrayHeld s = none → s.ctx.poisoned (.p a.guard) = true →
      exec i s = .next (s.consumePoison (slotOf i) 0))
  ∧ (∀ i a r, actOf i = some a → decodeFault i a s = none → a.arrayHeld s = none → s.guardOn a.guard → r ∈ a.uses → s.ctx.poisoned r = true →
      exec i s = .next (s.consumePoison (slotOf i) 0))

/-! ### Scalar arithmetic -/

/-- The integer operations of two registers: each writes its result one cycle later, the products three. Every slot whose guard is on
completes.
CLZ counts the zeros above the highest set bit, 32 for zero; POPC counts the set bits. -/
def Obligations.IntegerResults : Prop :=
  (∀ (s : State) (g : BitVec 4) (d a b : BitVec 5), s.guardOn g →
  exec (.add g d a b) s = .next (s.sResult 1 d (s.ctx.rs a + s.ctx.rs b) [.s a, .s b])
  ∧ exec (.sub g d a b) s = .next (s.sResult 1 d (s.ctx.rs a - s.ctx.rs b) [.s a, .s b])
  ∧ exec (.mul g d a b) s = .next (s.sResult 3 d (s.ctx.rs a * s.ctx.rs b) [.s a, .s b])
  ∧ exec (.mulh g d a b) s = .next (s.sResult 3 d
      (((s.ctx.rs a).signExtend 64 * (s.ctx.rs b).signExtend 64).extractLsb' 32 32) [.s a, .s b])
  ∧ exec (.mulhz g d a b) s = .next (s.sResult 3 d
      (((s.ctx.rs a).setWidth 64 * (s.ctx.rs b).setWidth 64).extractLsb' 32 32) [.s a, .s b])
  ∧ exec (.and g d a b) s = .next (s.sResult 1 d (s.ctx.rs a &&& s.ctx.rs b) [.s a, .s b])
  ∧ exec (.or g d a b) s = .next (s.sResult 1 d (s.ctx.rs a ||| s.ctx.rs b) [.s a, .s b])
  ∧ exec (.xor g d a b) s = .next (s.sResult 1 d (s.ctx.rs a ^^^ s.ctx.rs b) [.s a, .s b])
  ∧ exec (.andn g d a b) s = .next (s.sResult 1 d (s.ctx.rs a &&& ~~~ s.ctx.rs b) [.s a, .s b])
  ∧ exec (.shl g d a b) s = .next (s.sResult 1 d (s.ctx.rs a <<< ((s.ctx.rs b).extractLsb' 0 5).toNat) [.s a, .s b])
  ∧ exec (.shr g d a b) s = .next (s.sResult 1 d (s.ctx.rs a >>> ((s.ctx.rs b).extractLsb' 0 5).toNat) [.s a, .s b])
  ∧ exec (.sra g d a b) s = .next (s.sResult 1 d ((s.ctx.rs a).sshiftRight ((s.ctx.rs b).extractLsb' 0 5).toNat) [.s a, .s b])
  ∧ exec (.min g d a b) s = .next (s.sResult 1 d (if (s.ctx.rs b).slt (s.ctx.rs a) then s.ctx.rs b else s.ctx.rs a) [.s a, .s b])
  ∧ exec (.max g d a b) s = .next (s.sResult 1 d (if (s.ctx.rs a).slt (s.ctx.rs b) then s.ctx.rs b else s.ctx.rs a) [.s a, .s b])
  ∧ exec (.minz g d a b) s = .next (s.sResult 1 d (if (s.ctx.rs b).ult (s.ctx.rs a) then s.ctx.rs b else s.ctx.rs a) [.s a, .s b])
  ∧ exec (.maxz g d a b) s = .next (s.sResult 1 d (if (s.ctx.rs a).ult (s.ctx.rs b) then s.ctx.rs b else s.ctx.rs a) [.s a, .s b]))
  ∧ (∀ (s : State) (g : BitVec 4) (d a : BitVec 5), s.guardOn g →
  (∃ n : Word, exec (.clz g d a) s = .next (s.sResult 1 d n [.s a])
    ∧ (s.ctx.rs a = 0 → n = 32)
    ∧ (s.ctx.rs a ≠ 0 → n.toNat ≤ 31 ∧ 2 ^ (31 - n.toNat) ≤ (s.ctx.rs a).toNat ∧ (s.ctx.rs a).toNat < 2 ^ (32 - n.toNat)))
  ∧ exec (.popc g d a) s = .next (s.sResult 1 d
      (BitVec.ofNat 32 ((List.range 32).countP (fun i => (s.ctx.rs a).getLsbD i))) [.s a]))

/-- Division never traps and sets no flag: a quotient or remainder by 0 is all ones or the dividend, the one overflow wraps, and every
other is exact and truncated toward zero. -/
def Obligations.DivisionResults : Prop := ∀ (s : State) (g : BitVec 4) (d a b : BitVec 5), s.guardOn g →
  exec (.div g d a b) s = .next (s.sResult 18 d
    (if s.ctx.rs b = 0 then 0xFFFFFFFF else (s.ctx.rs a).sdiv (s.ctx.rs b)) [.s a, .s b])
  ∧ exec (.divz g d a b) s = .next (s.sResult 18 d
    (if s.ctx.rs b = 0 then 0xFFFFFFFF else s.ctx.rs a / s.ctx.rs b) [.s a, .s b])
  ∧ exec (.rem g d a b) s = .next (s.sResult 18 d
    (if s.ctx.rs b = 0 then s.ctx.rs a else (s.ctx.rs a).srem (s.ctx.rs b)) [.s a, .s b])
  ∧ exec (.remz g d a b) s = .next (s.sResult 18 d
    (if s.ctx.rs b = 0 then s.ctx.rs a else s.ctx.rs a % s.ctx.rs b) [.s a, .s b])
  ∧ (s.ctx.rs a = 0x80000000 → s.ctx.rs b = 0xFFFFFFFF →
    exec (.div g d a b) s = .next (s.sResult 18 d 0x80000000 [.s a, .s b])
    ∧ exec (.rem g d a b) s = .next (s.sResult 18 d 0 [.s a, .s b]))

/-- The immediate forms: ADDI and MOVI extend by sign, the logic forms by zeros, MOVHI replaces the upper half of the register as it is
at issue, and SEL takes the register that its predicate chooses. -/
def Obligations.ImmediateResults : Prop := ∀ (s : State) (g p : BitVec 4) (d a b : BitVec 5), s.guardOn g →
  (∀ i : BitVec 12, exec (.addi g d a i) s = .next (s.sResult 1 d (s.ctx.rs a + i.signExtend 32) [.s a])
    ∧ exec (.andi g d a i) s = .next (s.sResult 1 d (s.ctx.rs a &&& i.setWidth 32) [.s a])
    ∧ exec (.ori g d a i) s = .next (s.sResult 1 d (s.ctx.rs a ||| i.setWidth 32) [.s a])
    ∧ exec (.xori g d a i) s = .next (s.sResult 1 d (s.ctx.rs a ^^^ i.setWidth 32) [.s a]))
  ∧ (∀ i : BitVec 5, exec (.shli g d a i) s = .next (s.sResult 1 d (s.ctx.rs a <<< i.toNat) [.s a])
    ∧ exec (.shri g d a i) s = .next (s.sResult 1 d (s.ctx.rs a >>> i.toNat) [.s a])
    ∧ exec (.srai g d a i) s = .next (s.sResult 1 d ((s.ctx.rs a).sshiftRight i.toNat) [.s a]))
  ∧ (∀ i : BitVec 17, exec (.movi g d i) s = .next (s.sResult 1 d (i.signExtend 32) []))
  ∧ (∀ i : BitVec 16, exec (.movhi g d i) s = .next (s.sResult 1 d (i ++ (s.ctx.rs d).extractLsb' 0 16) [.s d]))
  ∧ (s.clean [.p p] → exec (.sel g d a b p) s =
      .next (s.sResult 1 d (if s.ctx.rp p.toNat then s.ctx.rs a else s.ctx.rs b) [.s a, .s b]))

/-- A compare writes its condition to the even predicate of its pair and the opposite to the odd one, in one cycle; a floating
compare does after four, with the flags of its operands. -/
def Obligations.CompareResults : Prop := ∀ (s : State) (g : BitVec 4) (k c : BitVec 3) (a b : BitVec 5), s.guardOn g →
  ((Instr.cmp g k c a b).wf = true → exec (.cmp g k c a b) s = .next (s.emit 1
    [.p (2 * k.toNat) (condHolds c (s.ctx.rs a) (s.ctx.rs b)), .p (2 * k.toNat + 1) (!condHolds c (s.ctx.rs a) (s.ctx.rs b))] 0
    (s.anyPoisoned [.s a, .s b])))
  ∧ (∀ i : BitVec 11, (Instr.cmpi g k c a i).wf = true → exec (.cmpi g k c a i) s = .next (s.emit 1
    [.p (2 * k.toNat) (condHolds c (s.ctx.rs a) (i.signExtend 32)), .p (2 * k.toNat + 1) (!condHolds c (s.ctx.rs a) (i.signExtend 32))]
    0 (s.anyPoisoned [.s a])))
  ∧ ((Instr.fcmp g k c a b).wf = true → exec (.fcmp g k c a b) s = .next (s.emit 4
    [.p (2 * k.toNat) (fCmp fp32 c.toNat (s.ctx.rs a).toNat (s.ctx.rs b).toNat).1,
     .p (2 * k.toNat + 1) (!(fCmp fp32 c.toNat (s.ctx.rs a).toNat (s.ctx.rs b).toNat).1)]
    (fCmp fp32 c.toNat (s.ctx.rs a).toNat (s.ctx.rs b).toNat).2 (s.anyPoisoned [.s a, .s b])))

/-- The FP32 operations and conversions: each puts its rounded result and its flags in flight, four cycles on, sixteen for a quotient
or a root. -/
def Obligations.FloatResults : Prop := ∀ (s : State) (g : BitVec 4) (d a b c : BitVec 5) (x y z : Nat), s.guardOn g →
  x = (s.ctx.rs a).toNat → y = (s.ctx.rs b).toNat → z = (s.ctx.rs c).toNat →
  exec (.fadd g d a b) s = .next (s.fResult 4 d (fAdd fp32 x y) [.s a, .s b])
  ∧ exec (.fsub g d a b) s = .next (s.fResult 4 d (fSub fp32 x y) [.s a, .s b])
  ∧ exec (.fmul g d a b) s = .next (s.fResult 4 d (fMul fp32 x y) [.s a, .s b])
  ∧ exec (.fdiv g d a b) s = .next (s.fResult 16 d (fDiv fp32 x y) [.s a, .s b])
  ∧ exec (.fsqrt g d a) s = .next (s.fResult 16 d (fSqrt fp32 x) [.s a])
  ∧ exec (.fmin g d a b) s = .next (s.fResult 4 d (fMinMax fp32 false x y) [.s a, .s b])
  ∧ exec (.fmax g d a b) s = .next (s.fResult 4 d (fMinMax fp32 true x y) [.s a, .s b])
  ∧ exec (.fsgn g d a b) s = .next (s.sResult 4 d ((s.ctx.rs b).extractLsb' 31 1 ++ (s.ctx.rs a).extractLsb' 0 31) [.s a, .s b])
  ∧ exec (.ffma g d a b c) s = .next (s.fResult 4 d (fFma fp32 x y z) [.s a, .s b, .s c])
  ∧ exec (.fcvtF32S32 g d a) s = .next (s.fResult 4 d (fp32.round (.ofInt (s.ctx.rs a).toInt)) [.s a])
  ∧ exec (.fcvtF32Z32 g d a) s = .next (s.fResult 4 d (fp32.round (.ofInt x)) [.s a])
  ∧ exec (.fcvtS32F32 g d a) s = .next (s.emit 4 [.s d.toNat (BitVec.ofInt 32
      (toIntRange .rne (-0x80000000) 0x7FFFFFFF (fp32.unpack x)).1)] (toIntRange .rne (-0x80000000) 0x7FFFFFFF (fp32.unpack x)).2
      (s.anyPoisoned [.s a]))
  ∧ exec (.fcvtZ32F32 g d a) s = .next (s.emit 4 [.s d.toNat (BitVec.ofInt 32
      (toIntRange .rne 0 0xFFFFFFFF (fp32.unpack x)).1)] (toIntRange .rne 0 0xFFFFFFFF (fp32.unpack x)).2 (s.anyPoisoned [.s a]))
  ∧ exec (.fcvtF32F16 g d a) s = .next (s.fResult 4 d (fp32.round (fp16.unpack (x % 65536))) [.s a])
  ∧ exec (.fcvtF32Bf16 g d a) s = .next (s.fResult 4 d (fp32.round (bf16.unpack (x % 65536))) [.s a])
  ∧ exec (.fcvtF16F32 g d a) s = .next (s.fResult 4 d (fp16.round (fp32.unpack x)) [.s a])
  ∧ exec (.fcvtBf16F32 g d a) s = .next (s.fResult 4 d (bf16.round (fp32.unpack x)) [.s a])

/-- Rounding to nearest picks an integer within half a unit of the exact quotient, the even one of two that are as near; the directed
modes pick the integer on their side; and the result is called inexact when it is.
A NaN operand gives the canonical quiet NaN, with NV when it signals; a finite number other than zero over zero is infinite with
DZ, and opposite infinities, zero over zero and infinity over infinity are invalid; compares with a NaN are false but for ne, and lt
and le are then invalid. -/
def Obligations.FloatRules : Prop :=
  (∀ (neg : Bool) (n m : Nat), 0 < m →
  (2 * n ≤ (2 * (roundDiv .rne neg n m).1 + 1) * m ∧ 2 * (roundDiv .rne neg n m).1 * m ≤ 2 * n + m)
  ∧ ((2 * n = (2 * (roundDiv .rne neg n m).1 + 1) * m ∨ 2 * (roundDiv .rne neg n m).1 * m = 2 * n + m) →
      (roundDiv .rne neg n m).1 % 2 = 0)
  ∧ (2 * n < (2 * (roundDiv .taz neg n m).1 + 1) * m ∧ 2 * (roundDiv .taz neg n m).1 * m ≤ 2 * n + m)
  ∧ (roundDiv .rz neg n m).1 = n / m
  ∧ (roundDiv .rp false n m).1 = (n + m - 1) / m ∧ (roundDiv .rp true n m).1 = n / m
  ∧ (roundDiv .rm true n m).1 = (n + m - 1) / m ∧ (roundDiv .rm false n m).1 = n / m
  ∧ ∀ mode, (roundDiv mode neg n m).2 = true ↔ ¬ m ∣ n)
  ∧ (∀ a b : Nat,
  ((fp32.unpack a).isNaN = true ∨ (fp32.unpack b).isNaN = true →
    (fAdd fp32 a b).1 = 0x7FC00000 ∧ (fSub fp32 a b).1 = 0x7FC00000 ∧ (fMul fp32 a b).1 = 0x7FC00000 ∧ (fDiv fp32 a b).1 = 0x7FC00000
    ∧ (fAdd fp32 a b).2 = flagIf ((fp32.unpack a).isSNaN || (fp32.unpack b).isSNaN) flagNV
    ∧ (fCmp fp32 0 a b).1 = false ∧ (fCmp fp32 1 a b).1 = true ∧ fCmp fp32 2 a b = (false, flagNV) ∧ fCmp fp32 3 a b = (false, flagNV))
  ∧ (∀ n m e k f, fp32.unpack a = .fin n m e → m ≠ 0 → fp32.unpack b = .fin k 0 f →
      fDiv fp32 a b = (fp32.inf (n != k), flagDZ))
  ∧ (∀ n, fp32.unpack a = .inf n → fp32.unpack b = .inf (!n) → fAdd fp32 a b = (0x7FC00000, flagNV))
  ∧ (∀ n k, fp32.unpack a = .inf n → fp32.unpack b = .inf k → fDiv fp32 a b = (0x7FC00000, flagNV))
  ∧ ((fp32.unpack a).isZero = true → (fp32.unpack b).isZero = true → fDiv fp32 a b = (0x7FC00000, flagNV)))

/-- The predicate operations write one predicate, PPACK the low eight bits of a register and zeros above, PUNPK eight predicates.
The address operations and the counters: sums modulo 2^64, moves between the files, and for a privileged context the tagged pointer
of R8. CYCRD reads the core's cycle counter or the context's. That a counter is read as it stood when the cycle began is the
model's reading (Log 15). -/
def Obligations.PredicateAndAddressResults : Prop :=
  (∀ (s : State) (g d a b : BitVec 4) (u : BitVec 5), s.guardOn g →
  exec (.pand g d a b) s = .next (s.emit 1 [.p d.toNat (s.ctx.rp a.toNat && s.ctx.rp b.toNat)] 0 (s.anyPoisoned [.p a, .p b]))
  ∧ exec (.por g d a b) s = .next (s.emit 1 [.p d.toNat (s.ctx.rp a.toNat || s.ctx.rp b.toNat)] 0 (s.anyPoisoned [.p a, .p b]))
  ∧ exec (.pxor g d a b) s = .next (s.emit 1 [.p d.toNat (s.ctx.rp a.toNat != s.ctx.rp b.toNat)] 0 (s.anyPoisoned [.p a, .p b]))
  ∧ exec (.pmov g d a) s = .next (s.emit 1 [.p d.toNat (s.ctx.rp a.toNat)] 0 (s.anyPoisoned [.p a]))
  ∧ (a.toNat ≤ 8 → ∃ v : Word, exec (.ppack g a u) s =
        .next (s.sResult 1 u v ((List.range 8).map (fun i => .p (a + BitVec.ofNat 4 i))))
      ∧ (∀ i, i < 8 → v.getLsbD i = s.ctx.rp (a.toNat + i)) ∧ ∀ i, 8 ≤ i → v.getLsbD i = false)
  ∧ (d.toNat ≤ 8 → exec (.punpk g d u) s = .next (s.emit 1
      [.p d.toNat ((s.ctx.rs u).getLsbD 0), .p (d.toNat + 1) ((s.ctx.rs u).getLsbD 1), .p (d.toNat + 2) ((s.ctx.rs u).getLsbD 2),
       .p (d.toNat + 3) ((s.ctx.rs u).getLsbD 3), .p (d.toNat + 4) ((s.ctx.rs u).getLsbD 4), .p (d.toNat + 5) ((s.ctx.rs u).getLsbD 5),
       .p (d.toNat + 6) ((s.ctx.rs u).getLsbD 6), .p (d.toNat + 7) ((s.ctx.rs u).getLsbD 7)] 0 (s.anyPoisoned [.s u]))))
  ∧ (∀ (s : State) (g d a : BitVec 4) (u : BitVec 5), s.guardOn g →
  exec (.aadd g d a u) s = .next (s.aResult 1 d (s.ctx.ra a + (s.ctx.rs u).signExtend 64) [.a a, .s u])
  ∧ (∀ i : BitVec 14, exec (.aaddi g d a i) s = .next (s.aResult 1 d (s.ctx.ra a + i.signExtend 64) [.a a]))
  ∧ exec (.amov g d u) s = .next (s.aResult 1 d ((s.ctx.rs u).setWidth 64) [.s u])
  ∧ exec (.amovHi g d u) s = .next (s.aResult 1 d (s.ctx.rs u ++ (s.ctx.ra d).extractLsb' 0 32) [.a d, .s u])
  ∧ exec (.atos g a u) s = .next (s.sResult 1 u ((s.ctx.ra a).extractLsb' 0 32) [.a a])
  ∧ exec (.atosHi g a u) s = .next (s.sResult 1 u ((s.ctx.ra a).extractLsb' 32 32) [.a a])
  ∧ (s.ctx.priv = true → exec (.atag g d a u) s = .next (s.aResult 1 d
      (if (s.ctx.rs u).extractLsb' 28 4 = 7 then 7#4 ++ (s.ctx.rs u).extractLsb' 0 12 ++ (s.ctx.ra a).extractLsb' 0 48
       else (s.ctx.rs u).extractLsb' 28 4 ++ (s.ctx.rs u).extractLsb' 0 9 ++ (s.ctx.ra a).extractLsb' 0 51) [.a a, .s u]))
  ∧ exec (.cycrd g u 0) s = .next (s.sResult 1 u (BitVec.ofNat 32 s.wall) [])
  ∧ exec (.cycrd g u 1) s = .next (s.sResult 1 u (BitVec.ofNat 32 s.ctx.clock) [])
  ∧ exec (.cycrdW g a 0) s = .next (s.aResult 1 a (BitVec.ofNat 64 s.wall) [])
  ∧ exec (.cycrdW g a 1) s = .next (s.aResult 1 a (BitVec.ofNat 64 s.ctx.clock) []))

/-- DCHK of two equal registers does nothing, and of two that differ traps DCHK; it writes no register.
VDCHK does nothing where every active lane agrees, and traps DCHK where one differs. -/
def Obligations.CheckResults : Prop :=
  (∀ (s : State) (g : BitVec 4) (a b : BitVec 5), s.guardOn g → s.clean [.s a, .s b] →
  (s.ctx.rs a = s.ctx.rs b → exec (.dchk g a b) s = .next s)
  ∧ (s.ctx.rs a ≠ s.ctx.rs b → s.trapsWith (.dchk g a b) .dchk 0))
  ∧ (∀ (s : State) (g : BitVec 4) (a b : BitVec 5) (q : BitVec 3) (t : BitVec 4),
  s.guardOn g → s.clean [.v a.toNat, .v b.toNat, .vq q.toNat] → (Instr.vdchk g a b q t).wf = true →
  ((∀ i, i < typeLanes t.toNat → laneActive t.toNat (s.ctx.rvq q.toNat) i = true →
      vLane (s.ctx.rv a.toNat) (typeBytes t.toNat) i = vLane (s.ctx.rv b.toNat) (typeBytes t.toNat) i) →
    exec (.vdchk g a b q t) s = .next s)
  ∧ (∀ i, i < typeLanes t.toNat → laneActive t.toNat (s.ctx.rvq q.toNat) i = true →
      vLane (s.ctx.rv a.toNat) (typeBytes t.toNat) i ≠ vLane (s.ctx.rv b.toNat) (typeBytes t.toNat) i →
    s.trapsWith (.vdchk g a b q t) .dchk 0))

/-! ### Control -/

/-- A transfer to a target of the live half is taken: the branches leave one bubble, the register jumps two, IBSW goes to the other half
with two; BRL and JRL put the next header in a1 one cycle on; RET enters the trace of returns (what an entry holds is the model's,
Log 51). The advance then goes to the target with that many bubbles. A target outside the live half, or for IBSW outside the other one,
traps IFETCH, and a misaligned one of a register ALIGN. -/
def Obligations.Transfers : Prop := ∀ (s : State) (g a : BitVec 4) (i : BitVec 22) (t : Nat), s.guardOn g →
  ((s.ctx.pc : Int) + 4 * i.toInt = t → t / 0x20000 = s.ctx.liveHalf →
    exec (.br g i) s = .next (s.xferTo (.jump t 1 false))
    ∧ (s.ctx.loop.active = false →
      exec (.brl g i) s = .next ((s.emit 1 [.a 1 (BitVec.ofNat 64 s.nextHeader)]).xferTo (.jump t 1 false))))
  ∧ ((s.ctx.pc : Int) + 4 * i.toInt = t → t / 0x20000 = 1 - s.ctx.liveHalf → s.who ≠ 4 → s.ctx.loop.active = false →
    exec (.ibsw g i) s = .next (s.xferTo (.jump t 2 true)))
  ∧ (s.clean [.a a] → (s.ctx.ra a).toNat = t → t % 4 = 0 → t / 0x20000 = s.ctx.liveHalf →
    exec (.jr g a) s = .next (s.xferTo (.jump t 2 false))
    ∧ (s.ctx.loop.active = false →
      exec (.jrl g a) s = .next ((s.emit 1 [.a 1 (BitVec.ofNat 64 s.nextHeader)]).xferTo (.jump t 2 false))
      ∧ exec (.ret g a) s = .next ((s.xferTo (.jump t 2 false)).updCtx (fun x => { x with returns := (s.ctx.pc, t) :: x.returns }))))
  ∧ (∀ T : Int, T = (s.ctx.pc : Int) + 4 * i.toInt →
    (T < (s.ctx.liveHalf * 0x20000 : Nat) ∨ ((s.ctx.liveHalf + 1) * 0x20000 : Nat) ≤ T →
      s.trapsWith (.br g i) .ifetch (BitVec.ofInt 64 T)
      ∧ (s.ctx.loop.active = false → s.trapsWith (.brl g i) .ifetch (BitVec.ofInt 64 T)))
    ∧ (T < ((1 - s.ctx.liveHalf) * 0x20000 : Nat) ∨ ((1 - s.ctx.liveHalf + 1) * 0x20000 : Nat) ≤ T → s.who ≠ 4 →
      s.ctx.loop.active = false → s.trapsWith (.ibsw g i) .ifetch (BitVec.ofInt 64 T)))
  ∧ (∀ j ∈ [Instr.jr g a, .jrl g a, .ret g a], s.clean [.a a] → (j = .jr g a ∨ s.ctx.loop.active = false) →
    ((s.ctx.ra a).toNat % 4 ≠ 0 → s.trapsWith j .align (s.ctx.ra a))
    ∧ ((s.ctx.ra a).toNat % 4 = 0 → (s.ctx.ra a).toNat / 0x20000 ≠ s.ctx.liveHalf → s.trapsWith j .ifetch (s.ctx.ra a)))
  ∧ (∀ (x : Ctx) (run next n : Nat) (after : Pos) (other : Bool), x.xfer = .jump t n other →
    (x.advance run next after).pc = t ∧ (x.advance run next after).bubbles = n ∧ (x.advance run next after).owedN = 0
    ∧ (x.advance run next after).liveHalf = (if other then 1 - x.liveHalf else x.liveHalf))

/-- LSET holds a configuration, LBODY with no zero count starts a loop with every counter 0 and with a zero count skips the body,
LEXIT keeps the largest request, and NSET reads the six levels of a nest image and gives five bubbles. A body that would extend beyond the
live half traps IFETCH; that CX_TRAPINFO holds the end of the half is the model's choice (Log 52). The body is expanded from I-space as the
loop begins, and the fetch buffer keeps it; in the first pass a bundle that the fetch buffer holds issues from there, in later passes from
the loop's own buffer (Log 10). The other corners of the loop rules are the model's reading (Log 36). -/
def Obligations.LoopInstructions : Prop := ∀ (s : State) (g a y : BitVec 4) (n : BitVec 3) (l k : BitVec 3) (m : BitVec 6) (o : BitVec 9),
  s.guardOn g →
  (s.who ≠ 4 → s.ctx.loop.active = false → l.toNat ≤ 5 →
    exec (.lset g n a y l) s = .next (s.updCtx (fun x => { x with loop :=
      { cfg := some { nest := s.ctx.rn n.toNat, levels := l.toNat + 1, ax := a.toNat, ay := y.toNat } } })))
  ∧ (∀ c, s.who ≠ 4 → s.ctx.loop.active = false → s.ctx.loop.cfg = some c →
    (s.bodyHere (m.toNat + 1)).2.pc ≤ (s.ctx.liveHalf + 1) * 0x20000 →
    ((∀ j, j < c.levels → nestCount c.nest j ≠ 0) → ∃ t, exec (.lbody g m) s = .next t
        ∧ t = (s.updCore (fun k => { k with fetchBuf := t.me.fetchBuf })).updCtx (fun x => { x with xfer := t.ctx.xfer, loop := t.ctx.loop })
        ∧ t.ctx.xfer = .startBody (m.toNat + 1) ∧ t.ctx.loop.active = true ∧ t.ctx.loop.cfg = some c
        ∧ t.ctx.loop.ctr = List.replicate c.levels 0 ∧ t.ctx.loop.len = m.toNat + 1 ∧ t.ctx.loop.pos = 0
        ∧ ∀ q ∈ (s.bodyHere (m.toNat + 1)).1, ((s.bodyHere (m.toNat + 1)).1.map Prod.fst).Nodup → (s.me.expandAt s.who q.1).bad = none →
            t.ctx.loop.buf.find q.1 = some (s.me.expandAt s.who q.1)
            ∧ ((∀ f ∈ s.me.fetchBuf, f.1 ≠ q.1) → s.me.fetchBuf.length + (s.bodyHere (m.toNat + 1)).1.length ≤ 256 →
              (q.1, s.me.expandAt s.who q.1) ∈ t.me.fetchBuf))
    ∧ ((∃ j, j < c.levels ∧ nestCount c.nest j = 0) →
        exec (.lbody g m) s = .next ((s.updCtx (fun x => { x with loop := {} })).xferTo (.skipBody (m.toNat + 1)))))
  ∧ (s.who ≠ 4 → s.ctx.loop.active = false → s.ctx.loop.cfg = none → s.trapsWith (.lbody g m) .illegal 0)
  ∧ (s.who ≠ 4 → s.ctx.loop.active = false → s.ctx.loop.cfg ≠ none → (s.ctx.liveHalf + 1) * 0x20000 < (s.bodyHere (m.toNat + 1)).2.pc →
      s.trapsWith (.lbody g m) .ifetch (BitVec.ofNat 64 ((s.ctx.liveHalf + 1) * 0x20000)))
  ∧ (∀ (c : Core) (i b : Nat) (e : Expanded), i ≠ 4 →
    ((c.ctx i).loop.active = false ∨ ∀ n ∈ (c.ctx i).loop.ctr, n = 0) → c.fetchBuf.find? (fun h => h.1 = b) = some (b, e) → c.bundleAt i b = e)
  ∧ (∀ (c : Core) (i b : Nat) (f : Expanded), (c.ctx i).loop.active = true → (c.ctx i).loop.buf.find b = some f →
    ((∃ n ∈ (c.ctx i).loop.ctr, n ≠ 0) ∨ c.fetchBuf.find? (fun h => h.1 = b) = none) → c.bundleAt i b = f)
  ∧ (s.who ≠ 4 → 1 ≤ k.toNat → k.toNat ≤ 6 → exec (.lexit g k) s = .next (s.updCtx (fun x =>
      if x.loop.active then { x with loop := { x.loop with exitReq := max x.loop.exitReq k.toNat } } else x)))
  ∧ (∀ b : Nat, s.clean [.a a] → (s.ctx.ra a + BitVec.ofNat 64 (16 * o.toNat)).toNat = b → b % 16 = 0 → b + 96 ≤ 0x600000 →
      s.me.poisonIn b 24 = none →
      exec (.nset g n a o) s = .next (s.updCtx (fun x => { x with
        n := x.n.put n.toNat ((List.range 6).map (fun j => ({
          count := (s.me.rWord (b + 16 * j)).extractLsb' 0 16, sa := (s.me.rWord (b + 16 * j + 4)).extractLsb' 0 24,
          sb := (s.me.rWord (b + 16 * j + 8)).extractLsb' 0 24, sd := (s.me.rWord (b + 16 * j + 12)).extractLsb' 0 24 } : NestLevel))),
        bubbles := 5 })))

/-- At the end of a pass the first level that is neither complete nor asked to end takes its next iteration, the levels below it
start again and those above it stay; when there is none the loop ends and nothing of it is left. The step of a level adds both
strides, extended by sign, to the two address registers of the configuration; when they are the same register it takes both. The
corners of the loop rules are the model's reading (Log 36). -/
def Obligations.LoopPasses : Prop :=
  (∀ (x : Ctx) (k : Nat),
  (∀ j, j < k → j < x.loop.ctr.length → x.loop.counter j + 1 = x.loop.count j ∨ j < x.loop.exitReq) →
  (x.loop.ctr.length ≤ k → x.passEnd.loop = {} ∧ x.passEnd.pc = x.pc)
  ∧ (k < x.loop.ctr.length → x.loop.counter k + 1 ≠ x.loop.count k → x.loop.exitReq ≤ k →
      (∀ j, j < x.loop.ctr.length → x.passEnd.loop.counter j =
        (if j < k then 0 else if j = k then x.loop.counter k + 1 else x.loop.counter j))
      ∧ x.passEnd.loop.stepDue = some k ∧ x.passEnd.loop.exitReq = 0 ∧ x.passEnd.loop.pos = 0
      ∧ x.passEnd.loop.cfg = x.loop.cfg ∧ x.passEnd.pc = x.loop.first.pc ∧ x.passEnd.owedN = x.loop.first.owed))
  ∧ (∀ (x : Ctx) (k : Nat) (c : LoopCfg), x.loop.stepDue = some k → x.loop.cfg = some c →
  (c.ax ≠ c.ay → x.stepLoop.a.get 0 c.ax = x.a.get 0 c.ax + (nestLevel c.nest k).sa.signExtend 64
    ∧ x.stepLoop.a.get 0 c.ay = x.a.get 0 c.ay + (nestLevel c.nest k).sb.signExtend 64)
  ∧ (c.ax = c.ay → x.stepLoop.a.get 0 c.ax =
      x.a.get 0 c.ax + (nestLevel c.nest k).sa.signExtend 64 + (nestLevel c.nest k).sb.signExtend 64)
  ∧ (∀ r, r ≠ c.ax → r ≠ c.ay → x.stepLoop.a.get 0 r = x.a.get 0 r) ∧ x.stepLoop.loop.stepDue = none
  ∧ x.stepLoop = { x with a := x.stepLoop.a, loop := { x.loop with stepDue := none } })

/-- The waits, and what ends or idles a context. A wait whose condition holds at issue is none; TRAP and HALT wait for their run;
SNOP leaves its bubbles; YIELD ends the quantum; PF.L2 does nothing. How a wait is held is the model's choice (Log 37). -/
def Obligations.WaitInstructions : Prop := ∀ (s : State) (g a : BitVec 4) (u : BitVec 5), s.guardOn g →
  exec (.ifence g) s = .next (s.updCtx (fun x => { x with wait := some (.ifence s.me.nextOp 2) }))
  ∧ (∀ (o : BitVec 8) (q : BitVec 1) (b : Nat), s.who ≠ 4 → s.clean [.a a] →
      (s.ctx.ra a + BitVec.ofNat 64 (16 * o.toNat)).toNat = b → b % 16 = 0 → b + 16 ≤ 0x600000 →
      exec (.bwait g a o q) s = .next (if (s.me.rWord (b + 12)).getLsbD 0 != decide (q = 1) then s
        else s.updCtx (fun x => { x with wait := some (.barrier b (decide (q = 1))) })))
  ∧ exec (.evwait g) s = .next (if (popRecord s.who s.me.events).isSome then s else s.updCtx (fun x => { x with wait := some .event }))
  ∧ (s.who ≠ 4 → exec (.yield g) s = .next (s.updCtx (fun x => { x with quantumDone := true })))
  ∧ (∀ c : BitVec 8, s.ctx.loop.active = false → exec (.trap g c) s = .next (s.updCtx (fun x => { x with
      after := .trap { cause := .trapi, slot := 0, info := c.setWidth 64 } })))
  ∧ (∀ n : BitVec 9, n ≠ 0 → exec (.snop g n) s = .next (s.updCtx (fun x => { x with owedB := n.toNat - 1 })))
  ∧ exec (.halt g) s = .next (s.updCtx (fun x => { x with after := .halt }))
  ∧ exec (.wfence g) s = .next (if s.me.wprogsDone s.ctx.tag s.me.nextOp then s
      else s.updCtx (fun x => { x with wait := some (.wprogs s.me.nextOp) }))
  ∧ (s.clean [.a a, .s u] → exec (.pfl2 g a u) s = .next s)

/-- EVPOP takes the oldest record addressed to the context, puts its 16 bytes in A-space and its first word in s; with none it changes
no memory and writes 0. The pair says which. -/
def Obligations.EventPop : Prop := ∀ (s : State) (g a p : BitVec 4) (u : BitVec 5) (o : BitVec 9) (b : Nat),
  s.guardOn g → s.clean [.a a] → p.toNat % 2 = 0 → p ≠ 0 →
  (s.ctx.ra a + BitVec.ofNat 64 (16 * o.toNat)).toNat = b → b % 16 = 0 → b + 16 ≤ 0x600000 →
  ((∀ r ∈ s.me.events, (r.extractLsb' 8 3).toNat ≠ s.who) →
    exec (.evpop g u a p o) s = .next (s.emit 1 [.s u.toNat 0, .p p.toNat false, .p (p.toNat + 1) true]))
  ∧ (∀ l1 r l2, s.me.events = l1 ++ r :: l2 → (r.extractLsb' 8 3).toNat = s.who → (∀ q ∈ l1, (q.extractLsb' 8 3).toNat ≠ s.who) →
    exec (.evpop g u a p o) s = .next ((s.updCore (fun c => { c.store b r.toNat 16 false with events := l1 ++ l2 })).emit 1
      [.s u.toNat (r.extractLsb' 0 32), .p p.toNat true, .p (p.toNat + 1) false]))

/-- SYNC of a member core arrives and freezes the core from the next cycle, GDROP drops the core from the group and clears its
slot, and a core that is no member, or whose group is of another launch, traps PROT. LEAVE does nothing until a capacity notice is
pending; then its context issues no more, closes its regions, of which the outermost is to be published and each inner one passes to the
region around it, and drops from every group of its core. What CX_TRAPINFO holds there is free (Log 12), and that a SYNC of a core that has
arrived already waits to arrive in the next phase is the model's reading (Log 35). -/
def Obligations.GroupInstructions : Prop := ∀ (s : State) (g : BitVec 4) (n : BitVec 8), s.guardOn g → s.who ≠ 4 →
  ((groupsOf s.me.groups).contains n.toNat = true → (s.group n.toNat).valid = true → (s.group n.toNat).launch = s.ctx.launch →
    ((s.group n.toNat).arrived.getLsbD s.cur = false → exec (.sync g n) s = .next
      (({ s with groupUpds := s.groupUpds ++ [GroupUpd.arrive n.toNat s.cur] } : State).updCore (fun c => { c with
        sync := c.sync ++ [{ group := n.toNat, ctx := s.who, issued := s.wall, arrived := true, release := none }] })))
    ∧ ((s.group n.toNat).arrived.getLsbD s.cur = true → exec (.sync g n) s = .next (s.updCore (fun c => { c with
        sync := c.sync ++ [{ group := n.toNat, ctx := s.who, issued := s.wall, arrived := false, release := none }] })))
    ∧ exec (.gdrop g n) s = .next (({ s with groupUpds := s.groupUpds ++ [GroupUpd.drop n.toNat s.cur] } : State).updCore (fun c =>
        { c with groups := clearGroup c.groups n.toNat })))
  ∧ (((groupsOf s.me.groups).contains n.toNat = false ∨ (s.group n.toNat).valid = false ∨ (s.group n.toNat).launch ≠ s.ctx.launch) →
      ∃ v, s.trapsWith (.sync g n) .prot v ∧ s.trapsWith (.gdrop g n) .prot v)
  ∧ ((s.unit (coreUnit s.cur)).state ≠ .noticed → exec (.leave g) s = .next s)
  ∧ ((s.unit (coreUnit s.cur)).state = .noticed → ∃ t, exec (.leave g) s = .next t ∧ t = s.leave
      ∧ t.ctx.life = .leaving ∧ t.me.ready s.who = false 
      ∧ (s.ctx.contain.length ≤ 4 → t.ctx.contain = []
        ∧ t.publishing = s.publishing ++ s.ctx.contain.getLast?.toList.map Region.id
        ∧ t.merged = s.merged ++ (s.ctx.contain.zip (s.ctx.contain.drop 1)).map (fun p => (p.1.id, p.2.id)))
      ∧ (∀ q, q ∈ groupsOf s.me.groups → GroupUpd.drop q s.cur ∈ t.groupUpds))

/-- QPOP and QPOP.b answer by the state of their queue: 0 with the entry at HEAD put in A-space and HEAD one more, 1 (QPOP alone) when
there is none, 2 when the number names no queue of the partition, or its launch queue, 3 when it is destroyed. QPOP.b waits on an empty queue, under
the name of the queue that has the number now. Pops that
wait already are given their entries first. QPUSH to a live queue of the partition places its 64 bytes at TAIL and adds one to TAIL when
there is room, behind the pushes that wait already, and otherwise waits with the bytes it has read; a number that names no such queue,
or one that is destroyed, traps QUEUE; its bytes may begin at any address. The clauses on pops of one cycle, and on a queue that no page
maps, are the model's reading (Log 32), and so is that a queue's line is taken at its home slice with what cores have written there (Log 7)
and what CX_TRAPINFO holds for a number of more than twelve bits (Log 52). -/
def Obligations.QueueAccess : Prop :=
  (∀ (s : State) (g a p : BitVec 4) (u : BitVec 5) (o : BitVec 8) (b q : Nat),
  s.guardOn g → s.clean [.s u, .a a] → s.who ≠ 4 → p.toNat % 2 = 0 → p ≠ 0 → q = ((s.ctx.rs u).extractLsb' 0 12).toNat →
  (s.ctx.ra a + BitVec.ofNat 64 (64 * o.toNat)).toNat = b → b % 64 = 0 → b + 64 ≤ 0x600000 →
  ((s.ctx.rs u).extractLsb' 12 20 ≠ 0 ∨ s.queues.find q = none
      ∨ (∃ r, s.queues.find q = some r ∧ (r.launch = true ∨ r.part ≠ s.ctx.part)) →
    exec (.qpop g u a p o) s = .next (s.emit 1 [.s u.toNat 2, .p p.toNat false, .p (p.toNat + 1) true])
    ∧ exec (.qpopB g u a p o) s = .next (s.emit 1 [.s u.toNat 2, .p p.toNat false, .p (p.toNat + 1) true]))
  ∧ (∀ r, (s.ctx.rs u).extractLsb' 12 20 = 0 → s.queues.find q = some r → r.launch = false → r.part = s.ctx.part →
    (r.live = false →
      exec (.qpop g u a p o) s = .next (s.emit 1 [.s u.toNat 3, .p p.toNat false, .p (p.toNat + 1) true])
      ∧ exec (.qpopB g u a p o) s = .next (s.emit 1 [.s u.toNat 3, .p p.toNat false, .p (p.toNat + 1) true]))
    ∧ (r.live = true → s.queueMapped r = false → s.trapsWith (.qpop g u a p o) .queue (((s.ctx.rs u).extractLsb' 0 12).setWidth 64)
        ∧ s.trapsWith (.qpopB g u a p o) .queue (((s.ctx.rs u).extractLsb' 0 12).setWidth 64))
    ∧ (∀ n, n = q + 4096 * r.gen → r.live = true → s.queueMapped r = true → s.queueLen r ≤ (s.poppers n).length →
      exec (.qpop g u a p o) s = .next (s.emit 1 [.s u.toNat 1, .p p.toNat false, .p (p.toNat + 1) true])
      ∧ exec (.qpopB g u a p o) s = .next ((s.updCore (fun c => { c with seq := s.me.seq + 1 })).updCtx (fun x => { x with
          wait := some (.queuePop n u.toNat p.toNat b s.wall s.me.seq) })))
    ∧ (r.live = true → s.queueMapped r = true → s.poppers (q + 4096 * r.gen) = [] → s.queueLen r ≠ 0 →
      ∀ e h, s.queueAddr r (r.entryOff (s.queueHead r)) = some e → s.queueAddr r 0 = some h →
      (∀ j, s.unseenIn j h 64 = [] ∧ s.unseenIn j e 64 = []) →
      exec (.qpop g u a p o) s = .next (((s.gPutNat h ((s.queueHead r + 1) % 2 ^ 32) 4).updCore (fun c =>
          c.store b (natOfBytes (s.gBytes e 64)) 64 (linePoison s.gpoison e))).emit 1 [.s u.toNat 0, .p p.toNat true, .p (p.toNat + 1) false])
      ∧ exec (.qpopB g u a p o) s = .next (((s.gPutNat h ((s.queueHead r + 1) % 2 ^ 32) 4).updCore (fun c =>
          c.store b (natOfBytes (s.gBytes e 64)) 64 (linePoison s.gpoison e))).emit 1 [.s u.toNat 0, .p p.toNat true, .p (p.toNat + 1) false]))
    ∧ (∀ w n, n = q + 4096 * r.gen → r.live = true → s.queueMapped r = true → (s.poppers n).length < s.queueLen r →
      w = ((inOrder (s.poppers n)).foldl State.takeFor s).queuePop r →
      exec (.qpop g u a p o) s = .next ((w.2.updCore (fun c => c.popStore b w.1)).emit 1 [.s u.toNat 0, .p p.toNat true, .p (p.toNat + 1) false])
      ∧ exec (.qpopB g u a p o) s = .next ((w.2.updCore (fun c => c.popStore b w.1)).emit 1
          [.s u.toNat 0, .p p.toNat true, .p (p.toNat + 1) false]))))
  ∧ (∀ (s : State) (g a : BitVec 4) (u : BitVec 5) (o : BitVec 8) (b q : Nat) (item : List Byte),
  s.guardOn g → s.clean [.s u, .a a] → s.who ≠ 4 → s.me.poisonIn (b / 4 * 4) ((b % 4 + 67) / 4) = none → q = ((s.ctx.rs u).extractLsb' 0 12).toNat →
  (s.ctx.ra a + BitVec.ofNat 64 (64 * o.toNat)).toNat = b → b + 64 ≤ 0x600000 →
  item = (List.range 64).map (fun i => s.me.rByte (b + i)) →
  ((s.ctx.rs u).extractLsb' 12 20 ≠ 0 ∨ s.queues.find q = none
      ∨ (∃ r, s.queues.find q = some r ∧ (r.part ≠ s.ctx.part ∨ r.live = false ∨ s.queueMapped r = false)) →
    s.trapsWith (.qpush g u a o) .queue ((s.ctx.rs u).setWidth 64))
  ∧ (∀ r, (s.ctx.rs u).extractLsb' 12 20 = 0 → s.queues.find q = some r → r.part = s.ctx.part → r.live = true → s.queueMapped r = true →
    (s.pushers (q + 4096 * r.gen) = [] → s.queueRoom r ≠ 0 →
      ∀ e h t, s.queueAddr r (r.entryOff (s.queueTail r)) = some e → s.queueAddr r 0 = some h → s.queueAddr r 4 = some t →
      (∀ j, s.unseenIn j h 64 = [] ∧ s.unseenIn j e 64 = []) →
      exec (.qpush g u a o) s = .next ((s.gPut e item).gPutNat t ((s.queueTail r + 1) % 2 ^ 32) 4))
    ∧ ∀ n, n = q + 4096 * r.gen →
      ((s.pushers n).length < s.queueRoom r →
        exec (.qpush g u a o) s = .next (((inOrder (s.pushers n)).foldl State.placeFor s).queuePush r item))
      ∧ (s.queueRoom r ≤ (s.pushers n).length →
        exec (.qpush g u a o) s = .next (s.updCtx (fun x => { x with wait := some (.queuePush n item s.wall) })))))

/-- SYSRD reads a system register into the register of its width, one cycle on. SYSWR writes one: what is read back is the value
under the mask of the register's fields, every other register reads as it did, but for CO_LEASE and PK_CAPACITY where CO_SCORE is written,
and the read-only numbers are unchanged. In ctxS the
numbers below 0x020 but for CX_SVCSEL reach the registers of the user context that CX_SVCSEL names, and CX_SVCSEL itself keeps its two
low bits. That a write to a register fixed as read-only has no effect is the model's reading (Log 47). -/
def Obligations.SystemRegisters : Prop := ∀ (s : State) (g a : BitVec 4) (u : BitVec 5) (r : BitVec 9),
  s.guardOn g →
  (∀ (k : Nat) (v : DWord), s.who = 4 → r.toNat < 0x20 → r.toNat ≠ 0x00F → k = (s.ctx.svcSel.extractLsb' 0 2).toNat → s.ctx.priv = true →
    ((Instr.sysrd g u a r).wf = true → exec (.sysrd g u a r) s = .next (s.emit 1
      [if sysReg64 r.toNat then .a a.toNat (({ s with who := k } : State).sysGet r.toNat)
        else .s u.toNat ((({ s with who := k } : State).sysGet r.toNat).extractLsb' 0 32)]))
    ∧ ((Instr.syswr g u a r).wf = true → s.clean [if sysReg64 r.toNat then .a a else .s u] →
      v = (if sysReg64 r.toNat then s.ctx.ra a else (s.ctx.rs u).setWidth 64) →
      exec (.syswr g u a r) s = .next { ({ s with who := k } : State).sysSet r.toNat v with who := 4 }))
  ∧ ((Instr.syswr g u a 0x00F).wf = true → s.ctx.priv = true → s.clean [.s u] →
    exec (.syswr g u a 0x00F) s = .next (s.updCtx (fun x => { x with svcSel := s.ctx.rs u &&& 3 })))
  ∧ (s.who ≠ 4 →
  ((Instr.sysrd g u a r).wf = true → (sysPriv r.toNat false = true → s.ctx.priv = true) → exec (.sysrd g u a r) s = .next (s.emit 1
    [if sysReg64 r.toNat then .a a.toNat (s.sysGet r.toNat) else .s u.toNat ((s.sysGet r.toNat).extractLsb' 0 32)]))
  ∧ ((Instr.syswr g u a r).wf = true → (sysPriv r.toNat true = true → s.ctx.priv = true) →
      s.clean [if sysReg64 r.toNat then .a a else .s u] → ∃ t, exec (.syswr g u a r) s = .next t
      ∧ (∀ n, n ≠ r.toNat → n < 0x200 → (r.toNat ≠ 0x042 ∨ (n ≠ 0x081 ∧ n ≠ 0x043)) → t.sysGet n = s.sysGet n)
      ∧ (∀ v, v = (if sysReg64 r.toNat then s.ctx.ra a else (s.ctx.rs u).setWidth 64) →
        (r.toNat ∈ [0x000, 0x00A, 0x01C, 0x01D, 0x01E, 0x01F, 0x040, 0x041, 0x043, 0x081] → t = s)
        ∧ (r.toNat = 0x001 → t.sysGet 0x001 = v &&& 0x1FFFC)
        ∧ (r.toNat = 0x002 → t.sysGet 0x002 = v &&& 0x3FFFFFF)
        ∧ (r.toNat = 0x003 → t.sysGet 0x003 = v &&& 0x3FFFF)
        ∧ (r.toNat = 0x004 → t.sysGet 0x004 = v)
        ∧ (r.toNat = 0x005 → t.sysGet 0x005 = v &&& 0x7FFFF0)
        ∧ (r.toNat = 0x006 → t.sysGet 0x006 = v &&& 0x7F)
        ∧ (r.toNat = 0x007 ∨ r.toNat = 0x008 ∨ r.toNat = 0x009 → t.sysGet r.toNat = v &&& 0x000FFFFFFFFF0000)
        ∧ (r.toNat = 0x00B → t.sysGet 0x00B = v)
        ∧ (r.toNat = 0x00C → t.sysGet 0x00C = v &&& 7)
        ∧ (0x010 ≤ r.toNat ∧ r.toNat ≤ 0x017 → t.sysGet r.toNat = v &&& 0x7FF7F)
        ∧ (0x018 ≤ r.toNat ∧ r.toNat ≤ 0x01B → t.sysGet r.toNat = v &&& 0xFF)
        ∧ (r.toNat = 0x042 → t.sysGet 0x042 = v &&& 0xFFFF)
        ∧ (r.toNat = 0x080 → t.sysGet 0x080 = v))))

/-- CONTAIN opens a region with its handler and its output list, at most four deep, and UNCONTAIN closes the innermost: an
outermost one is to be published, an inner one passes to the region around it. UNCONTAIN with no region open is ILLEGAL. When the
publishing happens is the model's choice (Log 38). -/
def Obligations.ContainmentInstructions : Prop := ∀ (s : State) (g a m : BitVec 4) (u : BitVec 5), s.guardOn g → s.who ≠ 4 →
  (s.ctx.loop.active = false → s.clean [.s u, .a a] → s.ctx.contain.length < 4 →
    (s.ctx.rs u).toNat % 4 = 0 → (s.ctx.rs u).toNat / 0x20000 = s.ctx.liveHalf →
    (s.ctx.ra a).toNat % 16 = 0 → (s.ctx.ra a).toNat + max 1 (16 * m.toNat) ≤ 0x600000 →
    (∀ i, i < 4 * m.toNat → i % 4 ≠ 3 → s.me.wordPoison ((s.ctx.ra a).toNat + 4 * i) = false) →
    checkOuts s.ctx (s.me.readOuts (s.ctx.ra a).toNat m.toNat) = true →
    ∃ t r, exec (.contain g u a m) s = .next t ∧ t.ctx = { s.ctx with contain := r :: s.ctx.contain }
      ∧ r.handler = (s.ctx.rs u).toNat ∧ r.outputs = s.me.readOuts (s.ctx.ra a).toNat m.toNat
      ∧ t.sysGet 0x00A = BitVec.ofNat 64 (s.ctx.contain.length + 1)
      ∧ t = (s.setCtx t.ctx).updCore (fun c => { c with nextRegion := c.nextRegion + 1 }))
  ∧ (s.ctx.loop.active = false → s.clean [.s u, .a a] → 4 ≤ s.ctx.contain.length → s.trapsWith (.contain g u a m) .illegal 0)
  ∧ (s.ctx.contain = [] → s.trapsWith (.uncontain g) .illegal 0)
  ∧ (∀ r, s.ctx.contain = [r] → exec (.uncontain g) s = .next
      { s.updCtx (fun x => { x with contain := [] }) with publishing := s.publishing ++ [r.id] })
  ∧ (∀ r q rest, s.ctx.contain = r :: q :: rest → exec (.uncontain g) s = .next
      { s.updCtx (fun x => { x with contain := q :: rest }) with merged := s.merged ++ [(r.id, q.id)] })

/-! ### The vector slots -/

/-- The lanewise operations, on every active lane, with the result two cycles on for integers, which wrap, and four for floats, which
round once: the sum, the difference, the product, `a * b + d`, `d - a * b`, the least, the greatest, the absolute value and the opposite;
and for integer types the logic operations and the shifts by an amount taken modulo the width. -/
def Obligations.VectorArithmetic : Prop := ∀ (s : State) (g : BitVec 4) (d a b : BitVec 5) (q : BitVec 3) (t : BitVec 4) (w : Nat)
    (f : FloatFmt) (A B D : Nat → Nat) (res : Nat → (Nat → Nat × FpFlags) → List Src → State),
  s.guardOn g → s.clean [.vq q.toNat] → w = 8 * typeBytes t.toNat → f = floatFmtOf t.toNat →
  A = s.ctx.lane a t → B = s.ctx.lane b t → D = s.ctx.lane d t →
  res = (fun lat h l => s.laneResult lat d t.toNat (s.ctx.rvq q.toNat) h l) →
  (t.toNat ≤ 5 →
    exec (.vadd g d a b q t) s = .next (res 2 (fun i => ((A i + B i) % 2 ^ w, 0)) [.v a.toNat, .v b.toNat])
    ∧ exec (.vsub g d a b q t) s = .next (res 2 (fun i => ((A i + (2 ^ w - B i)) % 2 ^ w, 0)) [.v a.toNat, .v b.toNat])
    ∧ exec (.vmul g d a b q t) s = .next (res 2 (fun i => (A i * B i % 2 ^ w, 0)) [.v a.toNat, .v b.toNat])
    ∧ exec (.vfma g d a b q t) s = .next (res 2 (fun i => ((A i * B i + D i) % 2 ^ w, 0)) [.v a.toNat, .v b.toNat, .v d.toNat])
    ∧ exec (.vfms g d a b q t) s = .next (res 2 (fun i => ((((D i : Int) - A i * B i) % (2 ^ w : Nat)).toNat, 0))
        [.v a.toNat, .v b.toNat, .v d.toNat])
    ∧ exec (.vmin g d a b q t) s = .next (res 2 (fun i => (if t.toNat ≤ 2 then (if signedOf w (A i) ≤ signedOf w (B i) then A i else B i)
        else min (A i) (B i), 0)) [.v a.toNat, .v b.toNat])
    ∧ exec (.vmax g d a b q t) s = .next (res 2 (fun i => (if t.toNat ≤ 2 then (if signedOf w (A i) ≤ signedOf w (B i) then B i else A i)
        else max (A i) (B i), 0)) [.v a.toNat, .v b.toNat])
    ∧ exec (.vabs g d a q t) s = .next (res 2 (fun i => (if t.toNat ≤ 2 then (signedOf w (A i)).natAbs else A i, 0)) [.v a.toNat])
    ∧ exec (.vneg g d a q t) s = .next (res 2 (fun i => ((2 ^ w - A i) % 2 ^ w, 0)) [.v a.toNat])
    ∧ exec (.vand g d a b q t) s = .next (res 2 (fun i => (A i &&& B i, 0)) [.v a.toNat, .v b.toNat])
    ∧ exec (.vor g d a b q t) s = .next (res 2 (fun i => (A i ||| B i, 0)) [.v a.toNat, .v b.toNat])
    ∧ exec (.vxor g d a b q t) s = .next (res 2 (fun i => (A i ^^^ B i, 0)) [.v a.toNat, .v b.toNat])
    ∧ exec (.vandn g d a b q t) s = .next (res 2 (fun i => (A i &&& (2 ^ w - 1 - B i), 0)) [.v a.toNat, .v b.toNat])
    ∧ exec (.vshl g d a b q t) s = .next (res 2 (fun i => (A i * 2 ^ (B i % w) % 2 ^ w, 0)) [.v a.toNat, .v b.toNat])
    ∧ exec (.vshr g d a b q t) s = .next (res 2 (fun i => (A i / 2 ^ (B i % w), 0)) [.v a.toNat, .v b.toNat])
    ∧ exec (.vsra g d a b q t) s = .next (res 2 (fun i =>
        ((Int.fdiv (signedOf w (A i)) (2 ^ (B i % w) : Nat) % (2 ^ w : Nat)).toNat, 0)) [.v a.toNat, .v b.toNat]))
  ∧ (6 ≤ t.toNat → t.toNat ≤ 9 →
    exec (.vadd g d a b q t) s = .next (res 4 (fun i => fAdd f (A i) (B i)) [.v a.toNat, .v b.toNat])
    ∧ exec (.vsub g d a b q t) s = .next (res 4 (fun i => fSub f (A i) (B i)) [.v a.toNat, .v b.toNat])
    ∧ exec (.vmul g d a b q t) s = .next (res 4 (fun i => fMul f (A i) (B i)) [.v a.toNat, .v b.toNat])
    ∧ exec (.vfma g d a b q t) s = .next (res 4 (fun i => fFma f (A i) (B i) (D i)) [.v a.toNat, .v b.toNat, .v d.toNat])
    ∧ exec (.vfms g d a b q t) s = .next (res 4 (fun i => fFms f (A i) (B i) (D i)) [.v a.toNat, .v b.toNat, .v d.toNat])
    ∧ exec (.vmin g d a b q t) s = .next (res 4 (fun i => fMinMax f false (A i) (B i)) [.v a.toNat, .v b.toNat])
    ∧ exec (.vmax g d a b q t) s = .next (res 4 (fun i => fMinMax f true (A i) (B i)) [.v a.toNat, .v b.toNat])
    ∧ exec (.vabs g d a q t) s = .next (res 4 (fun i => (A i % 2 ^ (w - 1), 0)) [.v a.toNat])
    ∧ exec (.vneg g d a q t) s = .next (res 4 (fun i => ((A i + 2 ^ (w - 1)) % 2 ^ w, 0)) [.v a.toNat]))

/-- The floating operations round the exact value once, to nearest and ties to even. A finite value rounds to the number of the format
nearest to it, with its sign, to infinity with OF and NX from half a unit above the largest number on, with NX where it is inexact, and
with UF where it is so and tiny after rounding. The sum, the difference, the product, `a * b + c` and `d - a * b` of finite operands round
their exact value, and a sum of zero is negative only where both terms are; a quotient and a root round like a value that lies as they do
to every midpoint of two numbers of the format. Rounding to an integral value gives the integer that the mode chooses, with the sign of
its operand, and conversion to an integer saturates at the bounds of its range with NV. Compares and the least and the greatest go by the
values, infinities beyond every number; of the zeros -0 is the less, and a NaN gives way to a number. -/
def Obligations.FloatExact : Prop := ∀ f ∈ [fp64, fp32, fp16, bf16],
  (∀ n m e, f.rounded (f.round (.fin n m e)) n (fun h e0 => compare (2 * m * 2 ^ (e - e0).toNat) h) e)
  ∧ (∀ (a b c : Nat) (x y z : XNum), x = f.unpack a → y = f.unpack b → z = f.unpack c → x.finite = true → y.finite = true →
    (∃ s, fAdd f a b = f.round s ∧ s.finite = true
      ∧ (∀ e0, e0 ≤ x.expOf → e0 ≤ y.expOf → e0 ≤ s.expOf → s.at e0 = x.at e0 + y.at e0)
      ∧ (s.isZero = true → s.isNeg = (x.isNeg && y.isNeg)))
    ∧ (∃ s, fSub f a b = f.round s ∧ s.finite = true
      ∧ (∀ e0, e0 ≤ x.expOf → e0 ≤ y.expOf → e0 ≤ s.expOf → s.at e0 = x.at e0 - y.at e0)
      ∧ (s.isZero = true → s.isNeg = (x.isNeg && !y.isNeg)))
    ∧ (∃ s, fMul f a b = f.round s ∧ s.finite = true ∧ s.isNeg = (x.isNeg != y.isNeg)
      ∧ ∀ e0 e1, e0 ≤ x.expOf → e1 ≤ y.expOf → e0 + e1 ≤ s.expOf → s.at (e0 + e1) = x.at e0 * y.at e1)
    ∧ (z.finite = true →
      (∃ s, fFma f a b c = f.round s ∧ s.finite = true
        ∧ (∀ e0 e1, e0 ≤ x.expOf → e1 ≤ y.expOf → e0 + e1 ≤ z.expOf → e0 + e1 ≤ s.expOf →
          s.at (e0 + e1) = x.at e0 * y.at e1 + z.at (e0 + e1))
        ∧ (s.isZero = true → s.isNeg = ((x.isNeg != y.isNeg) && z.isNeg)))
      ∧ (∃ s, fFms f a b c = f.round s ∧ s.finite = true
        ∧ (∀ e0 e1, e0 ≤ x.expOf → e1 ≤ y.expOf → e0 + e1 ≤ z.expOf → e0 + e1 ≤ s.expOf →
          s.at (e0 + e1) = z.at (e0 + e1) - x.at e0 * y.at e1)
        ∧ (s.isZero = true → s.isNeg = (!(x.isNeg != y.isNeg) && z.isNeg)))))
  ∧ (∀ a b n m e k l g, f.unpack a = .fin n m e → f.unpack b = .fin k l g → l ≠ 0 →
      f.rounded (fDiv f a b) (n != k) (fun h e0 => compare (2 * m * 2 ^ (e - g - e0).toNat) (h * l)) (e - g))
  ∧ (∀ a m e, f.unpack a = .fin false m e →
      f.rounded (fSqrt f a) false (fun h e0 => compare (4 * m * 2 ^ (e - 2 * e0).toNat) (h * h)) (e.fdiv 2))
  ∧ (∀ a m e, f.unpack a = .fin true m e → fSqrt f a = if m = 0 then (f.zero true, 0) else (f.nan, flagNV))
  ∧ (∀ (mode : RMode) (a : Nat) (n : Bool) (m : Nat) (e : Int) (k : Nat × Bool), f.unpack a = .fin n m e →
      k = (if 0 ≤ e then (m * 2 ^ e.toNat, false) else roundDiv mode n m (2 ^ (-e).toNat)) →
      (f.unpack (fRound f mode a).1).finite = true ∧ (f.unpack (fRound f mode a).1).isNeg = n
      ∧ (∀ e0, e0 ≤ 0 → e0 ≤ (f.unpack (fRound f mode a).1).expOf →
        ((f.unpack (fRound f mode a).1).at e0).natAbs = k.1 * 2 ^ (-e0).toNat)
      ∧ (fRound f mode a).2 = flagIf k.2 flagNX
      ∧ ∀ (lo hi v : Int), v = (if n then -(k.1 : Int) else k.1) → toIntRange mode lo hi (f.unpack a) =
        if v < lo then (lo, flagNV) else if hi < v then (hi, flagNV) else (v, flagIf k.2 flagNX))
  ∧ (∀ (mode : RMode) (a : Nat) (lo hi : Int), ((f.unpack a).isNaN = true → toIntRange mode lo hi (f.unpack a) = (0, flagNV))
    ∧ ∀ n, f.unpack a = .inf n → toIntRange mode lo hi (f.unpack a) = (if n then lo else hi, flagNV))
  ∧ (∀ (a b : Nat) (x y : XNum), x = f.unpack a → y = f.unpack b →
    (x.finite = true → y.finite = true → ∀ e0, e0 ≤ x.expOf → e0 ≤ y.expOf →
      fCmp f 0 a b = (decide (x.at e0 = y.at e0), 0) ∧ fCmp f 1 a b = (decide (x.at e0 ≠ y.at e0), 0)
      ∧ fCmp f 2 a b = (decide (x.at e0 < y.at e0), 0) ∧ fCmp f 3 a b = (decide (x.at e0 ≤ y.at e0), 0))
    ∧ (∀ n, x = .inf n → y.finite = true → ∀ c, c < 4 →
      fCmp f c a b = (decide (c = 1) || (n && decide (2 ≤ c)), 0) ∧ fCmp f c b a = (decide (c = 1) || (!n && decide (2 ≤ c)), 0))
    ∧ (∀ n k, x = .inf n → y = .inf k → fCmp f 0 a b = (n == k, 0) ∧ fCmp f 1 a b = (n != k, 0)
      ∧ fCmp f 2 a b = (n && !k, 0) ∧ fCmp f 3 a b = (n || !k, 0))
    ∧ (((fCmp f 2 a b).1 = true ∨ (x.isZero = true ∧ y.isZero = true ∧ x.isNeg = true ∧ y.isNeg = false)) →
      fMinMax f false a b = (a, 0) ∧ fMinMax f false b a = (a, 0) ∧ fMinMax f true a b = (b, 0) ∧ fMinMax f true b a = (b, 0))
    ∧ (∀ top, (x.isNaN = false → fMinMax f top a a = (a, 0))
      ∧ (x.isNaN = true → y.isNaN = false → fMinMax f top a b = (b, flagIf x.isSNaN flagNV) ∧ fMinMax f top b a = (b, flagIf x.isSNaN flagNV))
      ∧ (x.isNaN = true → y.isNaN = true → fMinMax f top a b = (f.nan, flagIf (x.isSNaN || y.isSNaN) flagNV))))

/-- The other vector instructions: compares, the selection, the moves of lanes, reductions, dot products, conversions, rounding and
the function unit; the scalar forms do what the scalar instructions do, with the results written out once more. A floating reduction
combines its widened lanes two neighbours at a time, level by level. That a compare and a reduction with no active lane write nothing is
the model's reading (Log 14), and the function unit is worked out to 256 bits before it is rounded (Log 8). -/
def Obligations.VectorResults : Prop := ∀ (s : State) (g : BitVec 4) (d a b : BitVec 5) (q : BitVec 3) (t : BitVec 4) (n w lat : Nat)
    (f : FloatFmt) (m : BitVec 64) (A B : Nat → Nat),
  s.guardOn g → n = typeLanes t.toNat → w = 8 * typeBytes t.toNat → lat = (if t.toNat ≤ 5 then 2 else 4) → f = floatFmtOf t.toNat →
  m = s.ctx.rvq q.toNat → A = s.ctx.lane a t → B = s.ctx.lane b t →
  (s.clean [.vq q.toNat] → t.toNat ≤ 9 →
    (∀ (k : BitVec 2) (c : BitVec 3) (here yes : Nat → Bool), (Instr.vcmp g k c a b q t).wf = true →
      (∀ i, here i = if t.toNat ≤ 5 then intCond w c.toNat (A i) (B i) else (fCmp f c.toNat (A i) (B i)).1) →
      (∀ j, yes j = true ↔ ∀ i, i < n → i * typeBytes t.toNat / 4 = (if t = 9 then j / 2 * 2 else j) → here i = true) →
      ((∀ i, i < n → laneActive t.toNat m i = false) → exec (.vcmp g k c a b q t) s = .next s)
      ∧ ((∃ i, i < n ∧ laneActive t.toNat m i = true) → ∃ u v fl, exec (.vcmp g k c a b q t) s = .next (s.emit lat [.vq (2 * k.toNat) u, .vq (2 * k.toNat + 1) v] fl
          (s.anyPoisoned [.v a.toNat, .v b.toNat]))
        ∧ (∀ j, j < 64 → u.getLsbD j = (m.getLsbD (if t = 9 then j / 2 * 2 else j) && yes j)
          ∧ v.getLsbD j = (m.getLsbD (if t = 9 then j / 2 * 2 else j) && !yes j))
        ∧ (t.toNat ≤ 5 → fl = 0)
        ∧ (6 ≤ t.toNat → ∀ z, fl.getLsbD z = true ↔
            ∃ i, i < n ∧ laneActive t.toNat m i = true ∧ (fCmp f c.toNat (A i) (B i)).2.getLsbD z = true)))
    ∧ ((∀ i, i < n → laneActive t.toNat m i = false) →
      ∀ i ∈ [Instr.vreds g d a q t, .vredmMax g d a q t, .vredmMin g d a q t], exec i s = .next s)
    ∧ exec (.vsel g d a b q t) s = .next (s.laneMove lat d t.toNat (fun i => if laneActive t.toNat m i then A i else B i)
        [.v a.toNat, .v b.toNat])
    ∧ exec (.vmov g d a q t) s = .next (s.laneResult lat d t.toNat m (fun i => (A i, 0)) [.v a.toNat])
    ∧ (t.toNat ≤ 5 →
      exec (.vbcast g d a q t) s = .next (s.laneResult 2 d t.toNat m (fun _ => ((s.ctx.rs a).toNat % 2 ^ w, 0)) [.s a])
      ∧ exec (.vperm g d a b q t) s = .next (s.laneResult 2 d t.toNat m (fun i => (A (B i % n), 0)) [.v a.toNat, .v b.toNat])
      ∧ (∀ r : Nat → Nat, (∀ i, i < n → r ((i + (s.ctx.rs b).toNat) % n) = A i) →
        exec (.vrot g d a b q t) s = .next (s.laneResult 2 d t.toNat m (fun i => (r i, 0)) [.v a.toNat, .s b]))
      ∧ (∀ (l : List Nat), l = ((List.range n).filter (laneActive t.toNat m)).map A → l ≠ [] →
        (exec (.vreds g d a q t) s = .next (s.emit 8 [.v d.toNat (BitVec.ofNat 2048 ((if t.toNat ≤ 2 then
            ((l.map (signedOf w)).sum % 4294967296).toNat else l.sum % 4294967296))) vAll] 0 (s.anyPoisoned [.v a.toNat])))
        ∧ (3 ≤ t.toNat → exec (.vredmMax g d a q t) s = .next (s.emit 8 [.v d.toNat (BitVec.ofNat 2048 (l.foldl max 0)) vAll] 0
            (s.anyPoisoned [.v a.toNat])))
        ∧ (3 ≤ t.toNat → exec (.vredmMin g d a q t) s = .next (s.emit 8 [.v d.toNat (BitVec.ofNat 2048 (l.foldl min 0xFFFFFFFF)) vAll] 0
            (s.anyPoisoned [.v a.toNat])))
        ∧ (t.toNat ≤ 2 → exec (.vredmMax g d a q t) s = .next (s.emit 8 [.v d.toNat (BitVec.ofNat 2048
            (((l.map (signedOf w)).foldl max (-0x80000000)) % 4294967296).toNat) vAll] 0 (s.anyPoisoned [.v a.toNat])))
        ∧ (t.toNat ≤ 2 → exec (.vredmMin g d a q t) s = .next (s.emit 8 [.v d.toNat (BitVec.ofNat 2048
            (((l.map (signedOf w)).foldl min 0x7FFFFFFF) % 4294967296).toNat) vAll] 0 (s.anyPoisoned [.v a.toNat])))))
    ∧ (6 ≤ t.toNat → (∃ i, i < n ∧ laneActive t.toNat m i = true) → ∀ (r : FloatFmt) (L : Nat) (Z : Nat → Nat → Nat × FpFlags), r = (if t = 9 then fp64 else fp32) → n = 2 ^ L →
      ∀ p ∈ [(Instr.vreds g d a q t, r.zero true, fAdd r), (.vredmMax g d a q t, r.inf true, fMinMax r true),
          (.vredmMin g d a q t, r.inf false, fMinMax r false)],
      (∀ i, Z 0 i = if laneActive t.toNat m i then (if t.toNat ≤ 7 then r.round (f.unpack (A i)) else (A i, 0)) else (p.2.1, 0)) →
      (∀ k i, Z (k + 1) i = p.2.2 (Z k (2 * i)).1 (Z k (2 * i + 1)).1) →
      ∃ fl : FpFlags, exec p.1 s = .next (s.emit 8 [.v d.toNat (BitVec.ofNat 2048 (Z L 0).1) vAll] fl (s.anyPoisoned [.v a.toNat]))
        ∧ ∀ z, fl.getLsbD z = true ↔ ∃ k i, k ≤ L ∧ i < 2 ^ (L - k) ∧ (Z k i).2.getLsbD z = true)
    ∧ ((Instr.vdot g d a b q t).wf = true → ∀ (p : Nat) (acc : Nat → Nat), p = 4 / typeBytes t.toNat → acc = s.ctx.lane d 2 →
      exec (.vdot g d a b q t) s = .next (s.laneResult 8 d 2 m (fun j =>
        if t.toNat ≤ 2 then (((acc j + ((List.range p).map (fun i => signedOf w (A (j * p + i)) * signedOf w (B (j * p + i)))).sum)
          % 4294967296).toNat, 0)
        else if t.toNat ≤ 5 then ((acc j + ((List.range p).map (fun i => A (j * p + i) * B (j * p + i))).sum) % 4294967296, 0)
        else dotLane t.toNat (acc j) [A (j * 2), A (j * 2 + 1)] [B (j * 2), B (j * 2 + 1)]) [.v a.toNat, .v b.toNat, .v d.toNat]))
    ∧ (6 ≤ t.toNat →
      exec (.vrnd g d a 0 q t) s = .next (s.laneResult 3 d t.toNat m (fun i => fRound f .rne (A i)) [.v a.toNat])
      ∧ exec (.vrnd g d a 1 q t) s = .next (s.laneResult 3 d t.toNat m (fun i => fRound f .taz (A i)) [.v a.toNat])
      ∧ exec (.vrnd g d a 2 q t) s = .next (s.laneResult 3 d t.toNat m (fun i => fRound f .rz (A i)) [.v a.toNat])
      ∧ exec (.vrnd g d a 3 q t) s = .next (s.laneResult 3 d t.toNat m (fun i => fRound f .rp (A i)) [.v a.toNat])
      ∧ exec (.vrnd g d a 4 q t) s = .next (s.laneResult 3 d t.toNat m (fun i => fRound f .rm (A i)) [.v a.toNat]))
    ∧ (t = 8 →
      exec (.vexp2 g d a q t) s = .next (s.laneResult 10 d 8 m (fun i => fExp2 (A i)) [.v a.toNat])
      ∧ exec (.vlog2 g d a q t) s = .next (s.laneResult 10 d 8 m (fun i => fLog2 (A i)) [.v a.toNat])
      ∧ exec (.vrcp g d a q t) s = .next (s.laneResult 10 d 8 m (fun i => fRcp (A i)) [.v a.toNat])
      ∧ exec (.vrsq g d a q t) s = .next (s.laneResult 10 d 8 m (fun i => fRsq (A i)) [.v a.toNat])))
  ∧ (t.toNat ≤ 5 →
    exec (.vext g d a b t) s = .next (s.emit 2 [.s d.toNat (if t.toNat ≤ 2 then BitVec.ofInt 32 (signedOf w (A ((s.ctx.rs b).toNat % n)))
        else BitVec.ofNat 32 (A ((s.ctx.rs b).toNat % n)))] 0 (s.anyPoisoned [.v a.toNat, .s b]))
    ∧ (∀ i, i = (s.ctx.rs b).toNat % n → exec (.vins g d a b t) s = .next (s.emit 2 [.v d.toNat
        (BitVec.ofNat 2048 ((s.ctx.rs a).toNat % 2 ^ w * 2 ^ (w * i))) (BitVec.ofNat 2048 ((2 ^ w - 1) * 2 ^ (w * i)))] 0
        (s.anyPoisoned [.s a, .s b])))
    ∧ exec (.vshuf g d a b 0 t) s = .next (s.laneResult 2 d t.toNat (BitVec.allOnes 64)
        (fun i => (if i % 2 = 0 then A (i / 2) else B (i / 2), 0)) [.v a.toNat, .v b.toNat])
    ∧ exec (.vshuf g d a b 1 t) s = .next (s.laneResult 2 d t.toNat (BitVec.allOnes 64)
        (fun i => (if i % 2 = 0 then A (n / 2 + i / 2) else B (n / 2 + i / 2), 0)) [.v a.toNat, .v b.toNat])
    ∧ exec (.vshuf g d a b 2 t) s = .next (s.laneResult 2 d t.toNat (BitVec.allOnes 64)
        (fun i => (if i < n / 2 then A (2 * (i % (n / 2))) else B (2 * (i % (n / 2))), 0)) [.v a.toNat, .v b.toNat])
    ∧ exec (.vshuf g d a b 3 t) s = .next (s.laneResult 2 d t.toNat (BitVec.allOnes 64)
        (fun i => (if i < n / 2 then A (2 * (i % (n / 2)) + 1) else B (2 * (i % (n / 2)) + 1), 0)) [.v a.toNat, .v b.toNat]))
  ∧ (∀ (y : BitVec 4) (r : BitVec 3) (c : Nat → Nat × FpFlags), (Instr.vcvt g d a t y r).wf = true →
    ((t = 10 ∨ y = 10) → (nf8Fmt (s.ctx.rfmt r.toNat)).valid = true) →
    c = (fun i => if i < typeLanes y.toNat then convertTo t.toNat (nf8Fmt (s.ctx.rfmt r.toNat))
      (unpackElem y.toNat (nf8Fmt (s.ctx.rfmt r.toNat)) (s.ctx.lane a y i)) else (0, 0)) →
    exec (.vcvt g d a t y r) s = .next (s.emit 3 [.v d.toNat (vOfLanes (typeBytes t.toNat) ((List.range n).map (fun i => (c i).1))) vAll]
      ((List.range n).foldl (fun acc i => acc ||| (c i).2) 0) (s.anyPoisoned [.v a.toNat])))
  ∧ (∀ (y : BitVec 4) (r : BitVec 3), (Instr.vcvt g d a t y r).wf = true → (t = 10 ∨ y = 10) →
    (nf8Fmt (s.ctx.rfmt r.toNat)).valid = false → s.trapsWith (.vcvt g d a t y r) .illegal 0)
  ∧ (∀ p ∈ [(0x00#7, Instr.add g d a b), (0x01, .sub g d a b), (0x02, .mul g d a b), (0x03, .mulh g d a b), (0x04, .mulhz g d a b),
      (0x09, .and g d a b), (0x0A, .or g d a b), (0x0B, .xor g d a b), (0x0C, .andn g d a b), (0x0D, .shl g d a b), (0x0E, .shr g d a b),
      (0x0F, .sra g d a b), (0x10, .min g d a b), (0x11, .max g d a b), (0x12, .minz g d a b), (0x13, .maxz g d a b)],
    exec (.viop g d a b p.1) s = exec p.2 s)
  ∧ exec (.viop g d a 0 0x14) s = exec (.clz g d a) s ∧ exec (.viop g d a 0 0x15) s = exec (.popc g d a) s
  ∧ (∀ p ∈ [(0x00#7, Instr.fadd g d a b), (0x01, .fsub g d a b), (0x02, .fmul g d a b), (0x05, .fmin g d a b), (0x06, .fmax g d a b),
      (0x07, .fsgn g d a b)], exec (.vfop g d a b p.1) s = exec p.2 s)
  ∧ (∀ p ∈ [(0#5, Instr.fcvtF32S32 g d a), (1, .fcvtF32Z32 g d a), (2, .fcvtS32F32 g d a), (3, .fcvtZ32F32 g d a), (4, .fcvtF32F16 g d a),
      (5, .fcvtF32Bf16 g d a), (6, .fcvtF16F32 g d a), (7, .fcvtBf16F32 g d a)], exec (.vfop g d a p.1 8) s = exec p.2 s)
  ∧ (∀ x y : Word, x = s.ctx.rs a → y = s.ctx.rs b →
    (∀ p ∈ [(0x00#7, 1, x + y), (0x01, 1, x - y), (0x02, 3, x * y), (0x03, 3, (x.signExtend 64 * y.signExtend 64).extractLsb' 32 32),
        (0x04, 3, (x.setWidth 64 * y.setWidth 64).extractLsb' 32 32), (0x09, 1, x &&& y), (0x0A, 1, x ||| y), (0x0B, 1, x ^^^ y),
        (0x0C, 1, x &&& ~~~ y), (0x0D, 1, x <<< (y.extractLsb' 0 5).toNat), (0x0E, 1, x >>> (y.extractLsb' 0 5).toNat),
        (0x0F, 1, x.sshiftRight (y.extractLsb' 0 5).toNat), (0x10, 1, if y.slt x then y else x), (0x11, 1, if x.slt y then y else x),
        (0x12, 1, if y.ult x then y else x), (0x13, 1, if x.ult y then y else x)],
      exec (.viop g d a b p.1) s = .next (s.sResult p.2.1 d p.2.2 [.s a, .s b]))
    ∧ (∃ z : Word, exec (.viop g d a 0 0x14) s = .next (s.sResult 1 d z [.s a]) ∧ (x = 0 → z = 32)
      ∧ (x ≠ 0 → z.toNat ≤ 31 ∧ 2 ^ (31 - z.toNat) ≤ x.toNat ∧ x.toNat < 2 ^ (32 - z.toNat)))
    ∧ exec (.viop g d a 0 0x15) s = .next (s.sResult 1 d (BitVec.ofNat 32 ((List.range 32).countP (fun i => x.getLsbD i))) [.s a])
    ∧ (∀ p ∈ [(0x00#7, fAdd fp32 x.toNat y.toNat), (0x01, fSub fp32 x.toNat y.toNat), (0x02, fMul fp32 x.toNat y.toNat),
        (0x05, fMinMax fp32 false x.toNat y.toNat), (0x06, fMinMax fp32 true x.toNat y.toNat)],
      exec (.vfop g d a b p.1) s = .next (s.fResult 4 d p.2 [.s a, .s b]))
    ∧ exec (.vfop g d a b 0x07) s = .next (s.sResult 4 d (y.extractLsb' 31 1 ++ x.extractLsb' 0 31) [.s a, .s b])
    ∧ (∀ p ∈ [(0#5, fp32.round (.ofInt x.toInt)), (1, fp32.round (.ofInt x.toNat)), (4, fp32.round (fp16.unpack (x.toNat % 65536))),
        (5, fp32.round (bf16.unpack (x.toNat % 65536))), (6, fp16.round (fp32.unpack x.toNat)), (7, bf16.round (fp32.unpack x.toNat))],
      exec (.vfop g d a p.1 8) s = .next (s.fResult 4 d p.2 [.s a]))
    ∧ (∀ p ∈ [(2#5, toIntRange .rne (-0x80000000) 0x7FFFFFFF (fp32.unpack x.toNat)),
        (3, toIntRange .rne 0 0xFFFFFFFF (fp32.unpack x.toNat))],
      exec (.vfop g d a p.1 8) s = .next (s.emit 4 [.s d.toNat (BitVec.ofInt 32 p.2.1)] p.2.2 (s.anyPoisoned [.s a]))))

/-- The quantising and decoding instructions on lattice words, each on its active words, with the scale of the word's group: the
word nearest to eight values, to a word's values with one replaced, or to a word's values under a new scale; and the elements of
words as numbers. Under FLAG the words that overflow are marked in the mask register that LFMT names, under TRAP one that overflows
traps LSHELL, and an LFMT that holds no valid value traps ILLEGAL. The moves between vector registers, tile registers and rows of
accumulator tiles: 32 elements go to a row or a column, or come from one, converted; a row of 64 accumulator elements is read under
its readout scale, or written, two registers for f64. A tile that the context does not hold, or the odd one of an FP64 pair, traps
PROT. The word nearest to eight values under a finite scale is the point of the lattice nearest to their quotients, one of even sum of the
integers before one of the half coset at the same distance; a point outside -8 to 7 is clamped, with the parity repaired through the last
coordinate, and is a shell overflow; NX says that the word is not the quotients. A NaN, and a scale that is zero, infinite or NaN, give the
word 0 and NV. A word's coordinates are those of its fields, and an element is its coordinate times the scale. That FP32 values keep their
bits in a move to or from a tile, and that a quantising instruction with no active word writes nothing, is the model's reading (Log 14).
That VLNRM returns a word unchanged under equal special scales and still sets their flags, and the sign of a zero under a negative scale,
are the model's reading (Log 62), and so is that each tile of an FP64 pair is judged by its own format (Log 54). -/
def Obligations.LatticeAndTileResults : Prop :=
  (∀ (s : State) (g : BitVec 4) (d a b : BitVec 5) (q : BitVec 3) (l f : BitVec 2) (lf : Word)
    (m : BitVec 64) (sc : BitVec 5 → Nat → XNum) (values : BitVec 5 → BitVec 5 → Nat → List XNum),
  s.guardOn g → s.clean [.vq q.toNat] → lf = s.ctx.rlfmt l.toNat → m = s.ctx.rvq q.toNat →
  sc = (fun v w => fp16.unpack (s.ctx.lane v 6 (w / lfmtGroup lf))) →
  values = (fun v u w => (latDoubled (s.ctx.lane v 2 w)).map (fun y => (latValue y (sc u w)).1)) →
  (∀ (i : Instr) (r : Nat → LatResult) (srcs : List Src) (shelled : BitVec 64), i.wf = true →
    ((i = .vqnt g d a b q l f ∧ srcs = .v b.toNat :: (List.range (groupSize f)).map (fun k => .v (a.toNat + k))
        ∧ r = (fun w => nearest8 ((List.range 8).map (fun k => groupValue s.ctx f a.toNat (8 * w + k))) (sc b w)))
      ∨ (i = .vlins g d a b q l f ∧ srcs = [.v d.toNat, .v a.toNat, .v (a.toNat + 1), .v b.toNat]
        ∧ r = (fun w => nearest8 ((values d b w).set (s.ctx.lane (a + 1) 2 w % 8) (laneValue f (s.ctx.rv a.toNat) w)) (sc b w)))
      ∨ (i = .vlnrm g d a b q l ∧ srcs = [.v a.toNat, .v b.toNat, .v (b.toNat + 1)]
        ∧ r = (fun w => if s.ctx.lane b 6 (w / lfmtGroup lf) = s.ctx.lane (b + 1) 6 (w / lfmtGroup lf)
            then { nearest8 (values a b w) (sc (b + 1) w) with word := s.ctx.lane a 2 w } else nearest8 (values a b w) (sc (b + 1) w)))) →
    (∀ w, w < 64 → shelled.getLsbD w = (m.getLsbD w && (r w).shell)) →
    (lfmtValid lf = true → m = 0 → exec i s = .next s)
    ∧ (lfmtValid lf = true → m ≠ 0 → (lfmtMode lf ≠ 2 ∨ shelled = 0) → exec i s = .next (s.emit 6
        (.v d.toNat (vOfLanes 4 ((List.range 64).map (fun w => if m.getLsbD w then (r w).word else 0))) (laneMask 2 m)
          :: (if lfmtMode lf = 1 then [.vq (lfmtFq lf) shelled] else []))
        ((List.range 64).foldl (fun acc w => if m.getLsbD w then acc ||| (r w).flags else acc) 0) (s.anyPoisoned srcs)))
    ∧ (lfmtValid lf = true → lfmtMode lf = 2 → shelled ≠ 0 → s.trapsWith i .lshell 0)
    ∧ (lfmtValid lf = false → s.trapsWith i .illegal 0))
  ∧ ((Instr.vlext g d a b q l f).wf = true → lfmtValid lf = true → exec (.vlext g d a b q l f) s = .next (s.laneResult 3 d 2 m
      (fun w => decodeElem f (s.ctx.lane a 2 w) (s.ctx.lane (b + 1) 2 w % 8) (sc b w)) [.v a.toNat, .v b.toNat, .v (b.toNat + 1)]))
  ∧ ((Instr.vdql g d a b q l f).wf = true → lfmtValid lf = true → ∃ (v u : Nat → VReg) (fl : FpFlags),
      exec (.vdql g d a b q l f) s = .next (s.emit 3 ((List.range (groupSize f)).map (fun j => .v (d.toNat + j) (v j) (u j))) fl
        (s.anyPoisoned [.v a.toNat, .v b.toNat]))
      ∧ (∀ z, fl.getLsbD z = true ↔ ∃ k, k < 512 ∧ m.getLsbD (k / 8) = true
        ∧ (decodeElem f (s.ctx.lane a 2 (k / 8)) (k % 8) (sc b (k / 8))).2.getLsbD z = true)
      ∧ ∀ j k w p, j < groupSize f → k < groupLanes f → w = (j * groupLanes f + k) / 8 → p = (if f = 0 then 4 else 2) →
        (m.getLsbD w = true → vLane (v j) p k = (decodeElem f (s.ctx.lane a 2 w) ((j * groupLanes f + k) % 8) (sc b w)).1 % 2 ^ (8 * p)
          ∧ vLane (u j) p k = 2 ^ (8 * p) - 1)
        ∧ (m.getLsbD w = false → vLane (u j) p k = 0))
  ∧ (lfmtValid lf = false → ((Instr.vlext g d a b q l f).wf = true → s.trapsWith (.vlext g d a b q l f) .illegal 0)
      ∧ ((Instr.vdql g d a b q l f).wf = true → s.trapsWith (.vdql g d a b q l f) .illegal 0)))
  ∧ (∀ (s : State) (g : BitVec 4) (v i : BitVec 5) (q : BitVec 2) (t : BitVec 4) (r : BitVec 3)
    (c w : BitVec 6) (fm : Nf8Fmt) (x : Nat),
  s.guardOn g → fm = nf8Fmt (s.ctx.rfmt r.toNat) → x = s.ctx.tileBase + c.toNat →
  ((Instr.vtrw g v q i t r).wf = true → (t = 10 → fm.valid = true) → ∀ (e : Nat → Nat × FpFlags) (l : List Word) (fl : FpFlags),
    e = (fun j => tileIn t.toNat fm (s.ctx.lane v t j)) → l = (List.range 32).map (fun j => BitVec.ofNat 32 (e j).1) →
    fl = (List.range 32).foldl (fun acc j => acc ||| (e j).2) 0 →
    exec (.vtrw g v q i t r) s = .next (s.emit 3 [.q q.toNat i.toNat false l] fl (s.anyPoisoned [.v v.toNat]))
    ∧ exec (.vtcw g v q i t r) s = .next (s.emit 3 [.q q.toNat i.toNat true l] fl (s.anyPoisoned [.v v.toNat])))
  ∧ ((Instr.vtrr g v q i t r).wf = true → (t = 10 → fm.valid = true) → ∀ (e : Bool → Nat → Nat × FpFlags),
    e = (fun column j => tileOut t.toNat fm (if column then s.ctx.rq q.toNat j i.toNat else s.ctx.rq q.toNat i.toNat j).toNat) →
    exec (.vtrr g v q i t r) s = .next (s.emit 3 [.v v.toNat (vOfLanes (typeBytes t.toNat) ((List.range 32).map (fun j => (e false j).1))) vAll]
      ((List.range 32).foldl (fun acc j => acc ||| (e false j).2) 0) (s.anyPoisoned [.q q.toNat]))
    ∧ exec (.vtcr g v q i t r) s = .next (s.emit 3 [.v v.toNat (vOfLanes (typeBytes t.toNat) ((List.range 32).map (fun j => (e true j).1))) vAll]
      ((List.range 32).foldl (fun acc j => acc ||| (e true j).2) 0) (s.anyPoisoned [.q q.toNat])))
  ∧ (∀ (y : Ctx) (j k n : Nat) (l : List Word), j < 32 → k < 32 → n < 32 → l.length = 32 →
      (y.wq q.toNat n false l).rq q.toNat j k = (if j = n then l.getD k 0 else y.rq q.toNat j k)
      ∧ (y.wq q.toNat n true l).rq q.toNat j k = (if k = n then l.getD j 0 else y.rq q.toNat j k))
  ∧ (c.toNat < s.ctx.tileCount → ¬ (c.toNat % 2 = 1 ∧ (s.me.tile x).fmt = .f64) →
    ((Instr.vacr g v c w t).wf = true → ∀ (e : Nat → Nat × FpFlags) (fl : FpFlags) (bad : Bool),
      (∀ j, e j = ((convertTo t.toNat (nf8Fmt 0) ((accValue (s.me.tile x).fmt (s.me.tileElem x w.toNat j)).mul
          (fp32.unpack (s.me.tile x).scale.toNat)).1).1,
        ((accValue (s.me.tile x).fmt (s.me.tileElem x w.toNat j)).mul (fp32.unpack (s.me.tile x).scale.toNat)).2 |||
          (convertTo t.toNat (nf8Fmt 0) ((accValue (s.me.tile x).fmt (s.me.tileElem x w.toNat j)).mul
            (fp32.unpack (s.me.tile x).scale.toNat)).1).2)) →
      fl = (List.range 64).foldl (fun acc j => acc ||| (e j).2) 0 → bad = rowPoison s.me x w.toNat →
      exec (.vacr g v c w t) s = .next (s.emit 6
        (if t = 9 then [.v v.toNat (vOfLanes 8 ((List.range 32).map (fun j => (e j).1))) vAll,
            .v (v.toNat + 1) (vOfLanes 8 ((List.range 32).map (fun j => (e (32 + j)).1))) vAll]
          else [.v v.toNat (vOfLanes (typeBytes t.toNat) ((List.range 64).map (fun j => (e j).1))) vAll]) fl bad))
    ∧ ((Instr.vacw g v c w t).wf = true → exec (.vacw g v c w t) s = .next (s.emit 6 [.accRow x w.toNat t.toNat
        (if t = 9 then (List.range 32).map (s.ctx.lane v 9) ++ (List.range 32).map (s.ctx.lane (v + 1) 9)
          else (List.range 64).map (s.ctx.lane v t))] 0 (s.anyPoisoned (if t = 9 then [.v v.toNat, .v (v.toNat + 1)] else [.v v.toNat])))))
  ∧ ((s.ctx.tileCount ≤ c.toNat ∨ (c.toNat % 2 = 1 ∧ (s.me.tile x).fmt = .f64)) →
    ((Instr.vacr g v c w t).wf = true → ∃ n, s.trapsWith (.vacr g v c w t) .prot n)
    ∧ ((Instr.vacw g v c w t).wf = true → ∃ n, s.trapsWith (.vacw g v c w t) .prot n)))
  ∧ (∀ (x : List XNum) (s : XNum),
    ((s.isNaN = true ∨ s.isZero = true ∨ ∃ n, s = .inf n) → nearest8 x s = ⟨0, flagNV, false⟩)
    ∧ (s.finite = true → s.isZero = false → (∃ v ∈ x, v.isNaN = true) → nearest8 x s = ⟨0, flagNV, false⟩)
    ∧ (s.finite = true → s.isZero = false → x.length = 8 → (∀ v ∈ x, v.isNaN = false) →
      ∀ (e0 d : Int) (t exact : Nat → Int) (r : LatResult) (far : Nat → (Nat → Int) → Int), r = nearest8 x s →
      e0 = x.foldl (fun a v => min a v.expOf) s.expOf → d = (s.at e0).natAbs →
      (∀ i v, x[i]? = some v → exact i = (if s.isNeg then -(v.at e0) else v.at e0)
        ∧ (v.finite = true → t i = max (-(32768 * d)) (min (32768 * d) (exact i)))
        ∧ (∀ n, v = .inf n → t i = if n != s.isNeg then -(32768 * d) else 32768 * d)) →
      far = (fun (c : Nat) (u : Nat → Int) => ((List.range 8).map (fun i => (2 * t i - (2 * u i + (c : Int)) * d) ^ 2)).sum) →
      ∃ (c : Nat) (u y : Nat → Int), c < 2 ∧ ((List.range 8).map u).sum % 2 = 0
        ∧ (∀ (k : Nat) (z : Nat → Int), k < 2 → ((List.range 8).map z).sum % 2 = 0 → far c u ≤ far k z ∧ (k < c → far c u < far k z))
        ∧ (r.shell = true ↔ ∃ i, i < 8 ∧ (u i < -8 ∨ 7 < u i))
        ∧ (∀ i, i < 8 → (latDoubled r.word).getD i 0 = 2 * y i + (c : Int))
        ∧ (∀ i, i < 7 → y i = max (-8) (min 7 (u i)))
        ∧ y 7 = (if ((List.range 8).map (fun i => max (-8) (min 7 (u i)))).sum % 2 = 0 then max (-8) (min 7 (u 7))
          else if 0 < u 7 then max (-8) (min 7 (u 7)) - 1 else if u 7 < 0 then max (-8) (min 7 (u 7)) + 1
          else if t 7 < 0 then -1 else 1)
        ∧ (r.flags.getLsbD 4 = true ↔ ∃ i v, x[i]? = some v ∧ (v.finite = false ∨ 2 * exact i ≠ (2 * y i + (c : Int)) * d))
        ∧ r.flags.getLsbD 6 = r.shell ∧ ∀ z, z ≠ 4 → z ≠ 6 → r.flags.getLsbD z = false))
  ∧ (∀ w : Nat, (∀ i, i < 7 → (latInts w).getD i 0 = signedOf 4 (w / 16 ^ i))
    ∧ (latInts w).getD 7 0 = 2 * signedOf 3 (w / 2 ^ 28) + ((List.range 7).map (fun i => signedOf 4 (w / 16 ^ i))).sum % 2
    ∧ ∀ i, i < 8 → (latDoubled w).getD i 0 = 2 * (latInts w).getD i 0 + ((w / 2 ^ 31 % 2 : Nat) : Int))
  ∧ (∀ (y : Int) (s : XNum),
    (s.finite = true → (latValue y s).2 = 0 ∧ (latValue y s).1.finite = true
      ∧ ∀ e0, e0 ≤ s.expOf → (latValue y s).1.at (e0 - 1) = y * s.at e0)
    ∧ (∀ n, s = .nan n → (latValue y s).1.isNaN = true ∧ (latValue y s).2 = flagIf n flagNV)
    ∧ (∀ n, s = .inf n → (y = 0 → (latValue y s).1.isNaN = true ∧ (latValue y s).2 = flagNV)
      ∧ (y ≠ 0 → latValue y s = (.inf (decide (y < 0) != n), 0))))

/-! ### Memory -/

/-- The loads: each puts in flight, five cycles on, what A-space holds at issue at the addresses of its access, extended by sign or
by zeros for the narrow ones. LDF of a full word also empties it, and of an empty word holds its bundle with the core frozen.
Distinct words of one bank freeze the core for one cycle each after the first, and each lane takes the word as it is in its own cycle
of these; which word of a bank comes first is open (Log 6). That the poison of a word is that of all its bytes
is the model's choice (Log 13). -/
def Obligations.LoadResults : Prop := ∀ (s : State) (g e b : BitVec 4) (d u : BitVec 5) (o : BitVec 10) (A : DWord) (L : List DWord) (m : Nat),
  s.guardOn g → s.clean [.a b] →
  (∀ z, (Instr.ld g d b z o).wf = true → accessFits (Instr.ld g d b z o) s.ctx →
    A = s.ctx.ra b + o.signExtend 64 * BitVec.ofNat 64 (sizeBytes z) →
    exec (.ld g d b z o) s = .next (s.emit 5 [.s d.toNat
      (if z = 0 then (s.me.rByte A.toNat).signExtend 32 else if z = 1 then (s.me.rByte A.toNat).setWidth 32
       else if z = 2 then (s.me.rByte (A.toNat + 1) ++ s.me.rByte A.toNat).signExtend 32
       else if z = 3 then (s.me.rByte (A.toNat + 1) ++ s.me.rByte A.toNat).setWidth 32
       else s.me.rByte (A.toNat + 3) ++ s.me.rByte (A.toNat + 2) ++ s.me.rByte (A.toNat + 1) ++ s.me.rByte A.toNat)] 0
      (s.me.wordPoison A.toNat)))
  ∧ (accessFits (Instr.lda g e b o) s.ctx → A = s.ctx.ra b + o.signExtend 64 * 8 →
    exec (.lda g e b o) s = .next (s.emit 5 [.a e.toNat (s.me.rWord (A.toNat + 4) ++ s.me.rWord A.toNat)] 0
      (s.me.wordPoison A.toNat || s.me.wordPoison (A.toNat + 4))))
  ∧ (accessFits (Instr.ldv g d b o) s.ctx → accessOf (Instr.ldv g d b o) s.ctx = some (b, L, 4, 4, false) →
    exec (.ldv g d b o) s = .next (s.emit 5 [.v d.toNat (vOfLanes 4 (L.map (fun a => (s.me.rWord a.toNat).toNat))) vAll] 0
      (L.any (fun a => s.me.wordPoison a.toNat))))
  ∧ (bankWords L m → ∀ i ∈ [Instr.ldvs g d b u, .ldvx g d b u], accessFits i s.ctx →
    s.clean (if i = .ldvs g d b u then [.s u] else [.v u.toNat]) → accessOf i s.ctx = some (b, L, 4, 4, false) →
      ∀ t : Bool → State, t = (fun bad => s.emit 5 [.v d.toNat (vOfLanes 4 (L.map (fun a => (s.me.rWord a.toNat).toNat))) vAll] 0 bad) →
      (m ≤ 1 → exec i s = .next (t (L.any (fun a => s.me.wordPoison a.toNat))))
      ∧ (1 < m → ∃ ds, servedIn L ds m ∧ exec i s = .next
          ((t ((L.zip ds).any (fun p => p.2 == 0 && s.me.wordPoison p.1.toNat))).spread (some s.me.seq) L ds (fun _ => 0) false m)))
  ∧ (∀ (c : Core) (l : LaneAccess) (k : Nat) (r : Nat) (old mask : VReg) (e : Pend), l.load = some k →
    (l.items.map (fun x => x.2.1)).Nodup → (∀ x ∈ l.items, x.2.1 < 64) → e ∈ (c.ctx l.ctx).pend → e.seq = k → e.writes = [.v r old mask] →
    (∀ a, (c.serveLanes l).rByte a = c.rByte a)
    ∧ ∃ v bad, ({ e with writes := [.v r v mask], poison := bad } : Pend) ∈ ((c.serveLanes l).ctx l.ctx).pend
      ∧ ∀ j, j < 64 → (∀ a w, (0, j, a, w) ∈ l.items → ∀ n, n < 4 → (BitVec.ofNat 32 (vLane v 4 j)).extractLsb' (8 * n) 8 =
            ((l.hides.find (c.aPhys (a.toNat + n))).map Prod.fst).getD (c.rByte (a.toNat + n)))
        ∧ ((∀ a w, (0, j, a, w) ∉ l.items) → vLane v 4 j = vLane old 4 j))
  ∧ (accessFits (Instr.ldf g d b o) s.ctx → A = s.ctx.ra b + o.signExtend 64 * 4 →
    (s.me.isFull A.toNat = true → exec (.ldf g d b o) s = .next
      ((s.updCore (fun c => { c with full := c.full.write false (c.aPhys A.toNat / 4) false })).emit 5 [.s d.toNat (s.me.rWord A.toNat)] 0
        (s.me.wordPoison A.toNat)))
    ∧ (s.me.isFull A.toNat = false → exec (.ldf g d b o) s = .next (s.updCore (fun c => { c with frozen := true }))))

/-- The faults of an access, in their order: a misaligned a0 as base; the lowest lane whose address is misaligned; the lowest lane that
reaches past the end of A-space; and a store based on a0 whose lowest byte lies below the stack limit. An S-slot access to A-space (NSET,
BWAIT, EVPOP, QPOP, QPUSH, CONTAIN) traps ALIGN when its address is misaligned and ABOUND when it lies at or reaches past the end. Each is
precise, with the address in CX_TRAPINFO. -/
def Obligations.LoadStoreFaults : Prop := (∀ (i : Instr) (a : Act) (s : State) (b : BitVec 4) (L : List DWord) (al n : Nat) (st : Bool),
  actOf i = some a → i.wf = true → s.guardOn a.guard → s.clean a.uses → accessOf i s.ctx = some (b, L, al, n, st) →
  (∀ x ∈ L.head?, b = 0 → (s.ctx.ra 0).toNat % 16 ≠ 0 → s.trapsWith i .align x)
  ∧ ((b = 0 → (s.ctx.ra 0).toNat % 16 = 0) →
    (∀ l1 x l2, L = l1 ++ x :: l2 → (∀ y ∈ l1, y.toNat % al = 0) → x.toNat % al ≠ 0 → s.trapsWith i .align x)
    ∧ ((∀ y ∈ L, y.toNat % al = 0) →
      (∀ l1 x l2, L = l1 ++ x :: l2 → (∀ y ∈ l1, y.toNat + n ≤ 0x600000) → 0x600000 < x.toNat + n → s.trapsWith i .abound x)
      ∧ ((∀ y ∈ L, y.toNat + n ≤ 0x600000) → st = true → b = 0 →
        ∀ x ∈ L, (∀ y ∈ L, x.toNat ≤ y.toNat) → x.toNat < s.ctx.stkLim.toNat → s.trapsWith i .stklim x))))
  ∧ (∀ (i : Instr) (a : Act) (s : State) (A : DWord) (al n : Nat),
    actOf i = some a → decodeFault i a s = none → s.guardOn a.guard → a.poisonUsed s = none → slotAccessOf i s.ctx = some (A, al, n) →
    (∀ g u b m, i = .contain g u b m → s.ctx.contain.length < 4 ∧ (s.ctx.rs u).toNat % 4 = 0
      ∧ (s.ctx.rs u).toNat / 0x20000 = s.ctx.liveHalf) →
    (A.toNat % al ≠ 0 → s.trapsWith i .align A) ∧ (A.toNat % al = 0 → 0x600000 < A.toNat + max 1 n → s.trapsWith i .abound A))

/-- A store (ST, STA, STV, STVS, STVX, STE) that fits writes its bytes in the issue cycle and nothing else: of the stores to one byte the last stands, every other byte
reads as it did, and so does every full bit but the one that STE sets, which waits for an empty word. One whose lanes name several words of a bank writes each in its own cycle of the frozen ones that follow.
No store but one of these freezes the core. FESET changes the full bits of its words and no more; that a count above 64 puts the first
word's address into CX_TRAPINFO is the model's choice (Log 52). -/
def Obligations.StoreResults : Prop := ∀ (i : Instr) (a : Act) (s : State) (l : List (Nat × Byte)),
  actOf i = some a → i.wf = true → s.guardOn a.guard → s.clean a.uses →
  ((storesOf i s.ctx).isSome = match i with
    | .st .. | .sta .. | .stv .. | .stvs .. | .stvx .. | .ste .. => true
    | _ => false)
  ∧ (storesOf i s.ctx = some l → accessFits i s.ctx →
    ((∃ g d b u, i = .stvs g d b u ∨ i = .stvx g d b u) → ∀ p ∈ l, ∀ q ∈ l, p.1 / 4 % 192 = q.1 / 4 % 192 → p.1 / 4 = q.1 / 4) →
    (∀ g d b o, i = .ste g d b o → s.me.isFull (s.ctx.ra b + o.signExtend 64 * 4).toNat = false) → ∃ t, exec i s = .next t
      ∧ t = s.updCore (fun c => { c with
          aspace := t.me.aspace, apoison := t.me.apoison, full := t.me.full })
      ∧ (∀ l1 x v l2, l = l1 ++ (x, v) :: l2 → (∀ p ∈ l2, s.me.aPhys p.1 ≠ s.me.aPhys x) → t.me.rByte x = v)
      ∧ (∀ x, (∀ p ∈ l, s.me.aPhys p.1 ≠ s.me.aPhys x) → t.me.rByte x = s.me.rByte x)
      ∧ (∀ x, (∀ g d b o, i = .ste g d b o → s.me.aPhys (s.ctx.ra b + o.signExtend 64 * 4).toNat / 4 ≠ s.me.aPhys x / 4) →
          t.me.isFull x = s.me.isFull x)
      ∧ (∀ g d b o, i = .ste g d b o → t.me.isFull (s.ctx.ra b + o.signExtend 64 * 4).toNat = true))
  ∧ (∀ g d b u L m, (i = .stvs g d b u ∨ i = .stvx g d b u) → accessFits i s.ctx → accessOf i s.ctx = some (b, L, 4, 4, true) →
    bankWords L m → 1 < m → ∃ ds, servedIn L ds m ∧ exec i s = .next
      (s.spread none L ds (fun j => vLane (s.ctx.rv d.toNat) 4 j) (s.anyPoisoned [.v d.toNat]) m))
  ∧ (∀ (c : Core) (k : LaneAccess) (due : List (Nat × Byte)), k.load = none →
    due = (k.items.filter (fun x => x.1 == 0)).flatMap (fun x => (List.range 4).map (fun n => (x.2.2.1.toNat + n, x.2.2.2.extractLsb' (8 * n) 8))) →
    (∀ l1 x v l2, due = l1 ++ (x, v) :: l2 → (∀ p ∈ l2, c.aPhys p.1 ≠ c.aPhys x) → (c.serveLanes k).rByte x = v)
    ∧ (∀ x, (∀ p ∈ due, c.aPhys p.1 ≠ c.aPhys x) → (c.serveLanes k).rByte x = c.rByte x)
    ∧ (c.serveLanes k).lanes = (if k.items.all (fun x => x.1 == 0) then none else
        some { k with items := (k.items.filter (fun x => x.1 != 0)).map (fun x => (x.1 - 1, x.2)) }))
  ∧ (∀ g d b o, i = .ste g d b o → accessFits i s.ctx → s.me.isFull (s.ctx.ra b + o.signExtend 64 * 4).toNat = true →
    exec i s = .next (s.updCore (fun c => { c with frozen := true })))
  ∧ (∀ g b u n A, (i = .fesetF g b u ∨ i = .fesetE g b u) → n = (s.ctx.rs u).toNat → A = (s.ctx.ra b).toNat → n ≤ 64 → A % 4 = 0 →
      (0 < n → A + 4 * n ≤ 0x600000) → (b = 0 → A % 16 = 0 ∧ (0 < n → s.ctx.stkLim.toNat ≤ A)) → ∃ t, exec i s = .next t
      ∧ t = s.updCore (fun c => { c with full := t.me.full })
      ∧ (∀ x, (∃ k, k < n ∧ s.me.aPhys x / 4 = s.me.aPhys (A + 4 * k) / 4) → t.me.isFull x = decide (i = .fesetF g b u))
      ∧ (∀ x, (∀ k, k < n → s.me.aPhys x / 4 ≠ s.me.aPhys (A + 4 * k) / 4) → t.me.isFull x = s.me.isFull x))
  ∧ (∀ g b u, (i = .fesetF g b u ∨ i = .fesetE g b u) → (b = 0 → (s.ctx.ra b).toNat % 16 = 0) → (s.ctx.ra b).toNat % 4 = 0 →
      64 < (s.ctx.rs u).toNat → s.trapsWith i .abound (s.ctx.ra b))
  ∧ (∀ x, (∀ j, ∀ w ∈ (s.me.ctx j).windows, w.2.exchanged = false) → s.me.aPhys x = x)

/-! ### The weight tier, the matrix engine and the copy engines -/

/-- The W slot reads a row of its core, in the weight tier and of its partition, when the bank accepts the read: WLDM puts it on
the way to the matrix engine's port, WLDV puts it in flight to a register pair, twelve cycles on, and WLDD with its delta applied,
fourteen; a bank that is not ready freezes the core. WATTR reads the page's attributes, four cycles on. A row outside traps WBOUND
and one of another partition PARTITION, and WLDD's delta ALIGN or ABOUND with its address; WST traps WSTORE with its code. That a bank which
waits is known to its arbiter is the model's (Log 23), and so is that a WLDM whose row would be a seventeenth puts its row in CX_TRAPINFO
(Log 55). -/
def Obligations.WeightReads : Prop := ∀ (s : State) (g d b x : BitVec 4) (u : BitVec 5) (o : BitVec 18) (p : BitVec 14) (row : Nat),
  s.guardOn g → s.clean [.a b] →
  (∀ i : Instr, (i = .wldm g b o ∧ row = (s.ctx.ra b + o.signExtend 64).toNat) ∨ (i = .wldv g d b p ∧ row = (s.ctx.ra b + p.signExtend 64).toNat)
      ∨ (i = .wldd g d b x ∧ row = (s.ctx.ra b).toNat ∧ s.clean [.a x]) ∨ (i = .wattr g u b ∧ row = (s.ctx.ra b).toNat) →
    (0x180000 ≤ row → s.trapsWith i .wbound (BitVec.ofNat 64 row))
    ∧ (row < 0x180000 → attrPart (s.me.attrOf row) ≠ s.ctx.part → s.trapsWith i .partition (BitVec.ofNat 64 row)))
  ∧ (row < 0x180000 → attrPart (s.me.attrOf row) = s.ctx.part →
    (row = (s.ctx.ra b + o.signExtend 64).toNat →
      (wldmLayout s.ctx (s.me.attrOf row) = false → s.trapsWith (.wldm g b o) .layout (BitVec.ofNat 64 row))
      ∧ (wldmLayout s.ctx (s.me.attrOf row) = true → 16 ≤ s.me.port.length → s.trapsWith (.wldm g b o) .illegal (BitVec.ofNat 64 row))
      ∧ (wldmLayout s.ctx (s.me.attrOf row) = true → s.me.port.length < 16 →
        (s.bankReady s.cur (row % 16) = true → exec (.wldm g b o) s = .next ((s.wRead row).updCore (fun c => { c with port := c.port ++
          [{ wait := 12, ctx := s.who, data := s.rowSeen s.cur row, poison := s.me.rowPoisoned row, dropped := false }] })))
        ∧ (s.bankReady s.cur (row % 16) = false → exec (.wldm g b o) s = .next (s.updCore (fun c => { c with
            frozen := true, bankWait := c.bankWait.put (row % 16) (s.wall + 1) })))))
    ∧ (row = (s.ctx.ra b + p.signExtend 64).toNat →
      (s.bankReady s.cur (row % 16) = true → exec (.wldv g d b p) s = .next ((s.wRead row).emit 12
        [.v (2 * d.toNat) ((s.rowSeen s.cur row).extractLsb' 0 2048) vAll, .v (2 * d.toNat + 1) ((s.rowSeen s.cur row).extractLsb' 2048 2048) vAll]
        0 (s.me.rowPoisoned row)))
      ∧ (s.bankReady s.cur (row % 16) = false → exec (.wldv g d b p) s = .next (s.updCore (fun c => { c with
          frozen := true, bankWait := c.bankWait.put (row % 16) (s.wall + 1) }))))
    ∧ (∀ (A : Nat) (bits : BitVec 64), row = (s.ctx.ra b).toNat → s.clean [.a x] → A = (s.ctx.ra x).toNat →
      bits = s.me.rWord (A + 4) ++ s.me.rWord A →
      (x = 0 → A % 16 = 0) → A % 8 = 0 → A + 8 + 8 * (List.range 64).countP (fun j => bits.getLsbD j) ≤ 0x600000 →
      (s.bankReady s.cur (row % 16) = true → ∃ v : Row, exec (.wldd g d b x) s = .next ((s.wRead row).emit 14
          [.v (2 * d.toNat) (v.extractLsb' 0 2048) vAll, .v (2 * d.toNat + 1) (v.extractLsb' 2048 2048) vAll]
          0 (s.me.rowPoisoned row || s.me.anyPoison A (2 + 2 * (List.range 64).countP (fun j => bits.getLsbD j))))
        ∧ ∀ j, j < 64 → v.extractLsb' (64 * j) 64 = (if bits.getLsbD j then
            s.me.rWord (A + 12 + 8 * (List.range j).countP (fun k => bits.getLsbD k))
              ++ s.me.rWord (A + 8 + 8 * (List.range j).countP (fun k => bits.getLsbD k))
          else (s.rowSeen s.cur row).extractLsb' (64 * j) 64))
      ∧ (s.bankReady s.cur (row % 16) = false → exec (.wldd g d b x) s = .next (s.updCore (fun c => { c with
          frozen := true, bankWait := c.bankWait.put (row % 16) (s.wall + 1) }))))
    ∧ (∀ (A : Nat) (bits : BitVec 64), row = (s.ctx.ra b).toNat → s.clean [.a x] → A = (s.ctx.ra x).toNat →
      bits = s.me.rWord (A + 4) ++ s.me.rWord A →
      (((x = 0 ∧ A % 16 ≠ 0) ∨ A % 8 ≠ 0) → s.trapsWith (.wldd g d b x) .align (s.ctx.ra x))
      ∧ ((x = 0 → A % 16 = 0) → A % 8 = 0 → 0x600000 < A + 8 + 8 * (List.range 64).countP (fun j => bits.getLsbD j) →
        s.trapsWith (.wldd g d b x) .abound (s.ctx.ra x)))
    ∧ (row = (s.ctx.ra b).toNat → exec (.wattr g u b) s = .next (s.emit 4 [.s u.toNat (s.me.attrOf row)])))
  ∧ (s.me.wErr.contains row = false → s.wRead row = s.updCore (fun c => { c with
      bankRead := c.bankRead.put (row % 16) (s.wall + 1), wPortUsed := true }))
  ∧ (∀ c : BitVec 22, s.trapsWith (.wst g c) .wstore (c.setWidth 64))

/-- The matrix slot's own registers and tiles: MCFG takes a word that names an operand pair, and its readout scale any word; MLAT
binds the scales; MZERO zeroes tiles the context holds, one cycle on; MSTOP leaves none of the context's commands, nor their
commits, and no row progress, and drops the context's rows at the port. A matrix command that issues joins the commands with what it has read, and its commit is due 24
cycles and its time on the array from now: MMA and MMV as an exposed result of their context, MMAS on the core's unfrozen cycles.
One that the array has no room for freezes the core, or takes a bubble while sixteen that are not discarded are outstanding, before its
issue checks are made; that the bubble comes first where both hold is the model's choice (Log 61).
An MMA whose B operand is the port traps ILLEGAL, whatever its guard reads, when it names a base for it. The base 0 of a binding of mode 0, and that rows in flight to the port are dropped on arrival, are the model's reading (Log 16).
The products of a chunk are summed exactly, a NaN or zero times infinity giving NaN with NV, and the sum is added to the element's
accumulator with one rounding, to an INT32 one modulo 2^32 with IOV outside its range; under a binding of scales it is added to the block's
partial exactly, and at the end of a block partial × scale × ½ is added with one rounding. The accumulator's format follows from the pair of
operand formats and the binding. -/
def Obligations.MatrixInstructions : Prop :=
  (∀ (s : State) (g a : BitVec 4) (u : BitVec 5) (l : BitVec 2) (c : BitVec 6) (n : BitVec 3),
  s.guardOn g →
  (s.clean [.s u] → (cfgValid (s.ctx.rs u) = true → exec (.mcfg g u) s = .next (s.updCtx (fun x => { x with mcfg := s.ctx.rs u })))
    ∧ (cfgValid (s.ctx.rs u) = false → s.trapsWith (.mcfg g u) .illegal 0)
    ∧ exec (.mcfgR g u) s = .next (s.updCtx (fun x => { x with mscale := s.ctx.rs u })))
  ∧ (∀ p q, (operandPair p q).isSome = true ↔ (p, q) ∈ [(7, 7), (6, 6), (0, 0), (0, 10), (10, 0), (10, 10), (0, 11), (10, 11), (7, 11), (8, 8),
      (9, 9)])
  ∧ (s.clean [.s u, .a a] →
    (((s.ctx.rs u).toNat < 3 ∧ lfmtValid (s.ctx.rlfmt l.toNat) = true
        ∧ (s.ctx.rs u = 1 → (s.ctx.ra a).toNat % 2 = 0 ∧ (s.ctx.ra a).toNat < 0x600000)) →
      exec (.mlat g u a l) s = .next (s.updCtx (fun x => { x with
        mlat := (l ++ (s.ctx.rs u).extractLsb' 0 2 ++ (s.ctx.rlfmt l.toNat).extractLsb' 0 8).setWidth 32,
        mlatBase := if s.ctx.rs u = 1 then s.ctx.ra a else 0 })))
    ∧ ((3 ≤ (s.ctx.rs u).toNat ∨ lfmtValid (s.ctx.rlfmt l.toNat) = false) → s.trapsWith (.mlat g u a l) .illegal 0)
    ∧ (s.ctx.rs u = 1 → lfmtValid (s.ctx.rlfmt l.toNat) = true → (s.ctx.ra a).toNat % 2 ≠ 0 → s.trapsWith (.mlat g u a l) .align (s.ctx.ra a))
    ∧ (s.ctx.rs u = 1 → lfmtValid (s.ctx.rlfmt l.toNat) = true → (s.ctx.ra a).toNat % 2 = 0 → 0x600000 ≤ (s.ctx.ra a).toNat →
      s.trapsWith (.mlat g u a l) .abound (s.ctx.ra a)))
  ∧ ((Instr.mzero g c n l).wf = true →
    (c.toNat + n.toNat < s.ctx.tileCount → exec (.mzero g c n l) s = .next (s.emit 1 ((List.range (n.toNat + 1)).map (fun k =>
      .mzero (s.ctx.tileBase + c.toNat + k) (if l = 0 then .i32 else if l = 1 then .f32 else .f64) s.ctx.mscale))))
    ∧ (s.ctx.tileCount ≤ c.toNat + n.toNat → ∃ v, s.trapsWith (.mzero g c n l) .prot v))
  ∧ (∃ t, exec (.mstop g) s = .next t ∧ t = s.updCore (fun x => { x.setCtx s.who t.ctx with
          cmds := t.me.cmds
          port := s.me.port.map (fun p => if p.ctx = s.who then { p with dropped := true } else p) })
      ∧ t.ctx = { s.ctx with pend := t.ctx.pend, replay := t.ctx.replay, rowProg := 0 }
      ∧ (∀ m, m ∈ t.me.cmds ↔ m ∈ s.me.cmds ∧ m.ctx ≠ s.who)
      ∧ (∀ e, e ∈ t.ctx.pend ↔ e ∈ s.ctx.pend ∧ ∀ m ∈ s.me.cmds, m.ctx = s.who → RegWrite.commit m.id ∉ e.writes)
      ∧ (∀ e, e ∈ t.ctx.replay ↔ e ∈ s.ctx.replay ∧ ∀ m ∈ s.me.cmds, m.ctx = s.who → RegWrite.commit m.id ∉ e.writes)))
  ∧ (∀ (s : State) (g a b : BitVec 4) (c : BitVec 6) (n v : BitVec 3) (f : BitVec 1),
  (∀ (i : Instr) (act : Act), (i = .mma g c n a b v f ∨ i = .mmv g c n a b f) → actOf i = some act → s.issues i act →
    ∃ t m, exec i s = .next t ∧ t = s.updCore (fun k => { k.setCtx s.who t.ctx with cmds := k.cmds ++ [m], seq := k.seq + 1 })
      ∧ t.ctx = { s.ctx with rowProg := t.ctx.rowProg, pend := t.ctx.pend }
      ∧ t.ctx.pend = insertPend ⟨s.ctx.clock + 24 + m.arrayTime, s.me.seq, [.commit m.id], 0, false⟩ s.ctx.pend
      ∧ m.id = s.me.seq ∧ m.ctx = s.who ∧ m.tile = s.ctx.tileBase + c.toNat ∧ m.nest = s.ctx.rn n.toNat ∧ m.baseA = s.ctx.ra a
      ∧ m.baseB = s.ctx.ra b ∧ m.cfg = s.ctx.mcfg ∧ m.scale = s.ctx.mscale ∧ m.mlat = s.ctx.mlat
      ∧ m.age = 0 ∧ m.next = 0 ∧ m.arrayTime = (m.total - m.skip) * m.period
      ∧ (f = 1 → m.accumulate = true)
      ∧ (i = .mma g c n a b v f → m.kind = .mma ∧ m.levels = v.toNat + 1 ∧ m.total = mmaChunks m.nest m.levels (pairOf s.ctx.mcfg).1)
      ∧ (i = .mmv g c n a b f → m.kind = .mmv ∧ m.total = nestCount m.nest 1 * mmvPer s.ctx.mcfg m.nest
          ∧ m.rowsUsed = nestCount m.nest 2 ∧ m.colsUsed = nestCount m.nest 1))
  ∧ (∀ act, actOf (.mmas g c n a b v f) = some act → s.issues (.mmas g c n a b v f) act →
    ∃ m, exec (.mmas g c n a b v f) s = .next (s.updCore (fun k => { k with seq := k.seq + 1, cmds := k.cmds ++ [m] }))
      ∧ m.kind = .mmas ∧ m.id = s.me.seq ∧ m.ctx = s.who ∧ m.tile = s.ctx.tileBase + c.toNat ∧ m.nest = s.ctx.rn n.toNat
      ∧ m.baseA = s.ctx.ra a ∧ m.baseB = s.ctx.ra b ∧ m.cfg = s.ctx.mcfg ∧ m.accumulate = decide (f = 1)
      ∧ m.due = s.me.ucyc + 24 + m.arrayTime ∧ m.arrayTime = m.total * m.period
      ∧ (∀ j, m.skips[j]? = if j < nestCount m.nest 0 / 8 then some (s.me.rByte ((s.ctx.ra (8 + v.setWidth 4)).toNat + 16 + j)) else none)
      ∧ m.barrier = (s.me.rWord (s.ctx.ra (8 + v.setWidth 4)).toNat).toNat)
  ∧ (s.ctx.mcfg.extractLsb' 16 2 = 2 → b ≠ 0 → s.trapsWith (.mma g c n a b v f) .illegal 0)
  ∧ (∀ (i : Instr) (act : Act), (i = .mma g c n a b v f ∨ i = .mmv g c n a b f ∨ i = .mmas g c n a b v f) → actOf i = some act →
      decodeFault i act s = none → s.guardOn g →
      ((i ≠ .mmas g c n a b v f → (s.me.cmds.filter (fun m => m.ctx = s.who ∧ m.kind ≠ .mmas ∧ m.discarded = false)).length < 16) →
        (∃ m ∈ s.me.cmds, 12 < 12 + m.arrayTime - m.age) → exec i s = .next (s.updCore (fun k => { k with frozen := true })))
      ∧ (i ≠ .mmas g c n a b v f → 16 ≤ (s.me.cmds.filter (fun m => m.ctx = s.who ∧ m.kind ≠ .mmas ∧ m.discarded = false)).length → exec i s = .next s)))
  ∧ (∀ l : List (XNum × XNum),
    (l ≠ [] → (∀ p ∈ l, p.1.finite = true ∧ p.2.finite = true) → ∃ x, sumProducts l = some (x, 0) ∧ x.finite = true
      ∧ ∀ e0 e1, (∀ p ∈ l, e0 ≤ p.1.expOf ∧ e1 ≤ p.2.expOf) → e0 + e1 ≤ x.expOf →
        x.at (e0 + e1) = (l.map (fun p => p.1.at e0 * p.2.at e1)).sum)
    ∧ ((∃ p ∈ l, p.1.isNaN = true ∨ p.2.isNaN = true ∨ (p.1.isZero = true ∧ ∃ n, p.2 = .inf n) ∨ (p.2.isZero = true ∧ ∃ n, p.1 = .inf n)) →
      ∃ fl, sumProducts l = some (.nan false, fl) ∧ fl &&& flagNV = flagNV))
  ∧ (∀ (m : MCmd) (t : Term) (x : XNum) (fx : FpFlags) (fmt : AccFmt) (r : MCmd), fmt = accFmtOf m.cfg m.mlat →
    t.elem < m.sums.length → t.elem < m.partials.length → t.sum = some (x, fx) → r = m.addTerm t →
    (m.scaled = false → r.sums.getD t.elem 0 = (accumulate fmt (m.sums.getD t.elem 0) x).1
      ∧ r.flags = (m.flags ||| fx ||| (accumulate fmt (m.sums.getD t.elem 0) x).2))
    ∧ (m.scaled = true → ∀ p, p = ((m.partials.getD t.elem (.fin false 0 0)).add x).1 →
      (t.scale = none → r.sums.getD t.elem 0 = m.sums.getD t.elem 0 ∧ r.partials.getD t.elem (.fin false 0 0) = p)
      ∧ (∀ c, t.scale = some c → p.finite = true → c.finite = true → ∃ y : XNum, y.finite = true
        ∧ (∀ e0 e1, e0 ≤ p.expOf → e1 ≤ c.expOf → e0 + e1 - 1 ≤ y.expOf → y.at (e0 + e1 - 1) = p.at e0 * c.at e1)
        ∧ r.sums.getD t.elem 0 = (accumulate fmt (m.sums.getD t.elem 0) y).1 ∧ r.partials.getD t.elem (.fin false 0 0) = .fin false 0 0))
    ∧ ∀ k, k ≠ t.elem → r.sums.getD k 0 = m.sums.getD k 0)
  ∧ (∀ acc x, x.finite = true →
    (∀ f k, (f, k) ∈ [(fp32, AccFmt.f32), (fp64, AccFmt.f64)] → (f.unpack acc).finite = true → ∃ y, accumulate k acc x = f.round y ∧ y.finite = true
      ∧ ∀ e0, e0 ≤ x.expOf → e0 ≤ (f.unpack acc).expOf → e0 ≤ y.expOf → y.at e0 = (f.unpack acc).at e0 + x.at e0)
    ∧ (0 ≤ x.expOf → (accumulate .i32 acc x).1 = (BitVec.ofInt 32 (signedOf 32 acc + x.at 0)).toNat
      ∧ (accumulate .i32 acc x).2 = if signedOf 32 acc + x.at 0 < -0x80000000 ∨ 0x7FFFFFFF < signedOf 32 acc + x.at 0 then flagIOV else 0))
  ∧ (∀ cfg mlat, ((cfg.extractLsb' 0 4).toNat, (cfg.extractLsb' 4 4).toNat) ∈ [(7, 7), (6, 6), (0, 0), (0, 10), (10, 0), (10, 10), (0, 11), (10, 11),
      (7, 11), (8, 8), (9, 9)] → accFmtOf cfg mlat =
      if (cfg.extractLsb' 4 4).toNat = 9 then .f64
      else if cfg.extractLsb' 0 8 = 0 ∨ (cfg.extractLsb' 0 8 = 0xB0 ∧ mlat.extractLsb' 8 2 = 0) then .i32 else .f32)

/-- An operation of a C slot that issues enters the queue of its copy engine, with the operands that it has read; when the queue is
full the core is frozen. Of the issue checks that a CPY, a GATH, a SCAT, a DRAIN, an atomic or a barrier instruction fails, the first in
the order of R182 traps, precisely. PUB.def defines its window when its two ranges are aligned, fit, and meet neither each other nor a window
of the core; PUB.clr ends one, and when its frames are exchanged exchanges their contents, so that every name reads as before, with
the core frozen meanwhile; a window that is not defined is ILLEGAL. That XFENCE takes a place in the queue is the model's reading
(Log 28), and so are the corners of PUB (Log 30), the order of the items within one check and the value of an ILLEGAL (Log 24), the ALIGN of
a GATH or SCAT whose size is no multiple of 4 (Log 25), the lengths that a CPY may have (Log 56), and that ranges are tested with the bounds
(Log 57). -/
def Obligations.OperationsEnterQueues : Prop :=
  (∀ (s : State) (i : Instr) (a : Act), actOf i = some a →
  (a.engine = true → decodeFault i a s = none → issueFault a s = none → a.guarded s = true →
    32 ≤ (s.me.ops.filter (fun o => o.engine = slotOf i - 4)).length → exec i s = .next (s.updCore (fun c => { c with frozen := true })))
  ∧ (i.slotClass = some .C → decodeFault i a s = none → s.guardOn a.guard → a.poisonUsed s = none →
    ∀ l c v, checksOf i s = some l → firstOf l = some (c, v) → s.trapsWith i c v)
  ∧ (s.issues i a → ∀ (put : BitVec 4 → CKind → BitVec 4 → Bool → State),
    put = (fun t k b e => s.issueOp { s.newOp 4 t.toNat k with barrier := if b = 0 then none else some (s.ctx.ra b).toNat, event := e }) →
    match i with
    | .cpy _ d f n t b x => exec i s = .next (put t (.cpy ⟨s.ctx.ra f,
        s.cpyDst (s.ctx.rn n.toNat) (s.ctx.ra d) (x.getLsbD 0) (x.getLsbD 2), s.ctx.rn n.toNat⟩ (x.getLsbD 0) (x.getLsbD 1) (x.getLsbD 2)) b false)
    | .cpyd _ d f n t u => exec i s = .next (s.issueOp { s.newOp 4 t.toNat
        (.cpyd { src := s.ctx.ra f, dst := s.ctx.ra d, nest := s.ctx.rn n.toNat }) with
        deadline := some (s.ctx.clock + (s.ctx.rs u).toNat % 4096) })
    | .pub _ t w => exec i s = .next (put t (.pub w.toNat) 0 false)
    | .gath _ d f n t b h => exec i s = .next (put t (.gath
        (match (if h = 1 then s.shadowOf (s.ctx.ra d).toNat
            (((s.ctx.ra d).toNat : Int) + nestCount (s.ctx.rn n.toNat) 0 * nestCount (s.ctx.rn n.toNat) 1 - 1) else none) with
          | some v => v.hidden (s.ctx.ra d)
          | none => s.ctx.ra d) (s.ctx.ra f) (s.ctx.ra (f + 1))
        (nestCount (s.ctx.rn n.toNat) 0) (nestCount (s.ctx.rn n.toNat) 1) (h = 1)) b false)
    | .scat _ d f n t b => exec i s = .next (put t (.scat (s.ctx.ra d) (s.ctx.ra f) (s.ctx.ra (d + 1))
        (nestCount (s.ctx.rn n.toNat) 0) (nestCount (s.ctx.rn n.toNat) 1)) b false)
    | .drain _ b t e => exec i s = .next (put t .drain b (e = 1))
    | .xfence _ t u => exec i s = .next (put t (.xfence ((s.ctx.rs u).extractLsb' 0 16)) 0 false)
    | .amoAdd _ x y t u => exec i s = .next (put t (.amo 0 (s.ctx.ra x) (s.ctx.ra y).toNat (s.ctx.rs u) (s.ctx.rs (u + 1))
          (s.anyPoisoned [.s u])) 0 false)
    | .amoMin _ x y t u => exec i s = .next (put t (.amo 1 (s.ctx.ra x) (s.ctx.ra y).toNat (s.ctx.rs u) (s.ctx.rs (u + 1))
          (s.anyPoisoned [.s u])) 0 false)
    | .amoMax _ x y t u => exec i s = .next (put t (.amo 2 (s.ctx.ra x) (s.ctx.ra y).toNat (s.ctx.rs u) (s.ctx.rs (u + 1))
          (s.anyPoisoned [.s u])) 0 false)
    | .amoAnd _ x y t u => exec i s = .next (put t (.amo 3 (s.ctx.ra x) (s.ctx.ra y).toNat (s.ctx.rs u) (s.ctx.rs (u + 1))
          (s.anyPoisoned [.s u])) 0 false)
    | .amoOr _ x y t u => exec i s = .next (put t (.amo 4 (s.ctx.ra x) (s.ctx.ra y).toNat (s.ctx.rs u) (s.ctx.rs (u + 1))
          (s.anyPoisoned [.s u])) 0 false)
    | .amoXor _ x y t u => exec i s = .next (put t (.amo 5 (s.ctx.ra x) (s.ctx.ra y).toNat (s.ctx.rs u) (s.ctx.rs (u + 1))
          (s.anyPoisoned [.s u])) 0 false)
    | .amoSwap _ x y t u => exec i s = .next (put t (.amo 6 (s.ctx.ra x) (s.ctx.ra y).toNat (s.ctx.rs u) (s.ctx.rs (u + 1))
          (s.anyPoisoned [.s u])) 0 false)
    | .amoCas _ x y t u => exec i s = .next (put t (.amo 7 (s.ctx.ra x) (s.ctx.ra y).toNat (s.ctx.rs u) (s.ctx.rs (u + 1))
          (s.anyPoisoned [.s u, .s (u + 1)])) 0 false)
    | .redAddF32 _ x y t u => exec i s = .next (put t (.red 0 (s.ctx.ra x) (s.ctx.ra y).toNat (s.ctx.rs u).toNat) 0 false)
    | .redAddF64 _ x y t u => exec i s = .next (put t (.red 1 (s.ctx.ra x) (s.ctx.ra y).toNat (s.ctx.rs u).toNat) 0 false)
    | .redAddS32 _ x y t u => exec i s = .next (put t (.red 2 (s.ctx.ra x) (s.ctx.ra y).toNat (s.ctx.rs u).toNat) 0 false)
    | .redMaxF32 _ x y t u => exec i s = .next (put t (.red 3 (s.ctx.ra x) (s.ctx.ra y).toNat (s.ctx.rs u).toNat) 0 false)
    | .redMinF32 _ x y t u => exec i s = .next (put t (.red 4 (s.ctx.ra x) (s.ctx.ra y).toNat (s.ctx.rs u).toNat) 0 false)
    | .cwbWb _ x t u => exec i s = .next (put t (.cwb 0 (s.ctx.ra x) (s.ctx.rs u).toNat) 0 false)
    | .cwbWbi _ x t u => exec i s = .next (put t (.cwb 1 (s.ctx.ra x) (s.ctx.rs u).toNat) 0 false)
    | .cwbInv _ x t u => exec i s = .next (put t (.cwb 2 (s.ctx.ra x) (s.ctx.rs u).toNat) 0 false)
    | .kvld _ x y t u d e => exec i s = .next (s.kvIssue { s.newOp 4 t.toNat (.kvld (s.ctx.ra x) (s.ctx.ra y).toNat (s.ctx.rs u).toNat
          ((s.ctx.rs (u + 1)).extractLsb' 0 12).toNat ((s.ctx.rs (u + 1)).extractLsb' 24 7).toNat
          ((s.ctx.rs (u + 1)).extractLsb' 31 1).toNat) with
        event := e = 1,
        deadline := if d = 1 then some (s.ctx.clock + ((s.ctx.rs (u + 1)).extractLsb' 12 12).toNat) else none })
    | .kvapp _ x y t u e => exec i s = .next ((s.kvIssue { s.newOp 4 t.toNat (.kvapp (s.ctx.ra x) (s.ctx.ra y).toNat (s.ctx.rs u).toNat) with
        event := e = 1 }).updCtx (fun k => { k with kvRefused := k.kvRefused.filter (fun r => decide (r.2 ≠ s.ctx.pc % 0x40000)) }))
    | .kvfork _ x y t e => exec i s = .next (s.kvIssue { s.newOp 4 t.toNat (.kvfork (s.ctx.ra x) (s.ctx.ra y)) with event := e = 1 })
    | .kvrel _ x t e => exec i s = .next (s.kvIssue { s.newOp 4 t.toNat (.kvrel (s.ctx.ra x)) with event := e = 1 })
    | .wprog _ x y t u e => exec i s = .next (s.issueOp { s.newOp 4 t.toNat (.wprog (s.wTarget (s.ctx.ra x)).1 (s.wTarget (s.ctx.ra x)).2
          (s.ctx.ra y).toNat (s.ctx.rs u).toNat) with
          event := e = 1
          barrier := if s.ctx.rs (u + 1) = 0 then none else some (s.ctx.rs (u + 1)).toNat })
    | .wprogAttr _ x y t e => exec i s = .next (put t (.wattr (s.wTarget (s.ctx.ra x)).1 (s.wTarget (s.ctx.ra x)).2
          (s.me.rWord (s.ctx.ra y).toNat)) 0 (e = 1))
    | .whash _ x y t u e => exec i s = .next (put t (.whash (s.ctx.ra x).toNat (s.ctx.rs u).toNat (s.ctx.ra y).toNat) 0 (e = 1))
    | .migr _ x y t u e => exec i s = .next (put t (.migr (s.ctx.ra x) (s.ctx.ra y) (s.ctx.rs u).toNat) 0 (e = 1))
    | .qcrt _ x y t u => exec i s = .next (put t (.qcrt (s.ctx.ra x) (s.ctx.rs u).toNat (s.ctx.ra y).toNat) 0 false)
    | .qdel _ t u => exec i s = .next (put t (.qdel (s.ctx.rs u).toNat) 0 false)
    | _ => True))
  ∧ (∀ (s : State) (g x y : BitVec 4) (u : BitVec 5) (w : BitVec 2) (B P N : Nat), s.guardOn g → s.clean [.a x, .a y, .s u] →
    B = (s.ctx.ra x).toNat → P = (s.ctx.ra y).toNat → N = (s.ctx.rs u).toNat →
    s.ctx.windows.find w.toNat = none → B % 4096 = 0 → P % 4096 = 0 → N % 4096 = 0 → 4096 ≤ N → N ≤ 0x100000 →
    B + N ≤ 0x600000 → P + N ≤ 0x600000 → (B + N ≤ P ∨ P + N ≤ B) →
    (∀ c ∈ s.me.ctxs, ∀ v ∈ c.2.windows, ∀ a ∈ [B, P], ∀ b ∈ [v.2.base, v.2.partner], a + N ≤ b ∨ b + v.2.size ≤ a) →
    exec (.pubDef g x y u w) s = .next (s.updCtx (fun k => { k with
      windows := k.windows.put w.toNat { base := B, partner := P, size := N, exchanged := false } })))
  ∧ (∀ (s : State) (g t : BitVec 4) (w : BitVec 2) (v : Window), s.guardOn g →
    (s.ctx.windows.find w.toNat = none →
      s.trapsWith (.pub g t w) .illegal (w.setWidth 64) ∧ s.trapsWith (.pubClr g w) .illegal (w.setWidth 64))
    ∧ (s.ctx.windows.find w.toNat = some v → ∃ u, exec (.pubClr g w) s = .next u
      ∧ u.ctx = { s.ctx with windows := s.ctx.windows.erase w.toNat }
      ∧ u = s.updCore (fun c => { c.setCtx s.who u.ctx with
          aspace := u.me.aspace, apoison := u.me.apoison, full := u.me.full, freeze := u.me.freeze })
      ∧ (v.exchanged = false → u.me.aspace = s.me.aspace ∧ u.me.full = s.me.full ∧ u.me.freeze = s.me.freeze)
      ∧ (v.exchanged = true → u.me.freeze = max s.me.freeze (v.size / 256)
        ∧ ∀ l1 l2, s.ctx.windows = l1 ++ (w.toNat, v) :: l2 → (∀ q ∈ l1 ++ l2, q.2.exchanged = false) → s.who < 4 →
          (∀ j, j ≠ s.who → ∀ q ∈ (s.me.ctx j).windows, q.2.exchanged = false) → Memory.wf s.me.aspace = true →
          (v.base + v.size ≤ v.partner ∨ v.partner + v.size ≤ v.base) → ∀ a, u.me.rByte a = s.me.rByte a)))

/-- The barrier instructions: the update waits one cycle, or with .o enters the engine's queue; an update sets, adds to, arrives at
or drops from the fields of its object alone; and after the updates of a cycle an object whose bytes and arrivals are both there
completes its phase. That the update of an instruction without .o stands one wall cycle is the model's reading (Log 29). -/
def Obligations.BarrierInstructions : Prop :=
  (∀ (s : State) (g x y t : BitVec 4) (u : BitVec 5), s.guardOn g → s.clean [.a x, .a y, .s u] → (s.ctx.ra x).toNat % 16 = 0 →
    (s.ctx.ra x).toNat + 16 ≤ 0x600000 →
    exec (.binit g x y u) s = .next (s.updCore (fun c => { c with barriers := c.barriers ++
      [{ addr := (s.ctx.ra x).toNat, op := 0, bytes := s.ctx.rs u, expn := (s.ctx.ra y).extractLsb' 0 16, wait := 1 }] }))
    ∧ exec (.bexp g x t u 0) s = .next (s.updCore (fun c => { c with barriers := c.barriers ++
      [{ addr := (s.ctx.ra x).toNat, op := 1, bytes := s.ctx.rs u, wait := 1 }] }))
    ∧ exec (.barr g x t u 0) s = .next (s.updCore (fun c => { c with barriers := c.barriers ++
      [{ addr := (s.ctx.ra x).toNat, op := 2, bytes := s.ctx.rs u, wait := 1 }] }))
    ∧ exec (.bdrop g x t 0) s = .next (s.updCore (fun c => { c with barriers := c.barriers ++
      [{ addr := (s.ctx.ra x).toNat, op := 3, bytes := 0, wait := 1 }] }))
    ∧ ((s.me.ops.filter (fun o => o.engine = 0)).length < 32 →
      exec (.bexp g x t u 1) s = .next (s.issueOp (s.newOp 4 t.toNat (.barrierOp 1 (s.ctx.ra x).toNat (s.ctx.rs u))))
      ∧ exec (.barr g x t u 1) s = .next (s.issueOp (s.newOp 4 t.toNat (.barrierOp 2 (s.ctx.ra x).toNat (s.ctx.rs u))))
      ∧ exec (.bdrop g x t 1) s = .next (s.issueOp (s.newOp 4 t.toNat (.barrierOp 3 (s.ctx.ra x).toNat 0)))))
  ∧ (∀ (c : Core) (b : BarrierUpd) (a : Nat) (E B N P : Word), b.addr = a → b.crc = false →
      (∀ j k, j < 16 → k < 16 → c.aPhys (a + j) = c.aPhys (a + k) → j = k) →
      E = c.rWord a → B = c.rWord (a + 4) → N = c.rWord (a + 8) → P = c.rWord (a + 12) →
    (b.op = 0 → (barrierApply c b).rWord a = b.bytes ∧ (barrierApply c b).rWord (a + 4) = 0
      ∧ (barrierApply c b).rWord (a + 8) = b.expn.setWidth 32 ∧ (barrierApply c b).rWord (a + 12) = 0)
    ∧ (b.op = 1 → (barrierApply c b).rWord a = E + b.bytes ∧ (barrierApply c b).rWord (a + 4) = B
      ∧ (barrierApply c b).rWord (a + 8) = N ∧ (barrierApply c b).rWord (a + 12) = P)
    ∧ (b.op = 2 ∨ b.op = 3 → (barrierApply c b).rWord a = E
      ∧ (barrierApply c b).rWord (a + 4) = BitVec.ofNat 32 (min 0xFFFFFFFF (B.toNat + b.bytes.toNat))
      ∧ (barrierApply c b).rWord (a + 8) = N + 0x10000 ∧ (barrierApply c b).rWord (a + 12) = if b.op = 3 then P + 0x10000 else P)
    ∧ (E.toNat ≤ B.toNat ∧ N.toNat % 65536 ≤ N.toNat / 65536 → (barrierTest c a).rWord a = E ∧ (barrierTest c a).rWord (a + 4) = 0
      ∧ (barrierTest c a).rWord (a + 8) = BitVec.ofNat 32 (N.toNat % 65536 - P.toNat / 65536)
      ∧ (barrierTest c a).rWord (a + 12) = (P ^^^ 1) &&& 0xFFFF)
    ∧ (¬ (E.toNat ≤ B.toNat ∧ N.toNat % 65536 ≤ N.toNat / 65536) → barrierTest c a = c)
    ∧ (∀ x, (∀ k, k < 16 → c.aPhys x ≠ c.aPhys (a + k)) → (barrierApply c b).rByte x = c.rByte x ∧ (barrierTest c a).rByte x = c.rByte x)
    ∧ (c.barriers = [b] → b.wait = 0 → c.barrierCycle = barrierTest (barrierApply { c with barriers := [] } b) a)
    ∧ (c.barriers = [b] → b.wait ≠ 0 → c.barrierCycle = { c with barriers := [{ b with wait := b.wait - 1 }] }))

/-! ### What happens of itself -/

/-- The events of the cores' contexts, each with what it does to the context or core that it concerns: a bubble passes, results
land, the waits end, a word's wait begins after 16 frozen cycles, the quantum runs out, the selector takes four cycles to the next
context, a pending trap is taken, ctxS starts a request, and a SYNC's freeze ends or times out. The events of the matrix engine:
commits land when they are due, an MMAS that is due commits with its signal, at once where a late commit of its context that is off the issue
width keeps back the results due, a command that meets a fault ends with the sums of its last block
boundary, which land now (an MMAS commits nothing), and every later command of its context is abandoned with its rows in flight, and
the load pipes fetch. The instruction of an event runs its whole part of the cycle on the core or
on all cores: that partition is the model's (Log 5), and so is that a SYNC of a core which had arrived already waits and arrives in the
next phase (Log 35). -/
def Obligations.CoreEvents : Prop :=
  (∀ s : State,
  (exec .bundleIssue s = .next s.bundleIssue
    ∧ (s.ctx.bubbles ≠ 0 → s.ctx.replayArmed = false →
      exec .bundleIssue s = .next (s.updCtx (fun x => { x.stepLoop with bubbles := x.bubbles - 1 })).haltNow))
  ∧ (exec .exposedResultLand s = .next (s.eachCore State.landUsers)
    ∧ ∀ i, (s.me.ctx i).pend ≠ [] → s.me.holder = some i → s.landCtx i = s.updCore (fun c => c.land i (c.ctx i).clock))
  ∧ (exec .waitEnd s = .next (s.mapCores (fun c => (c.endWaits c).endWprogWaits))
    ∧ ∀ (c : Core) i, i < 5 →
      (∀ b q, (c.ctx i).wait = some (.barrier b q) →
        (c.endWaits c).ctx i = if (c.rWord (b + 12)).getLsbD 0 = q then c.ctx i else { c.ctx i with waitOver := true })
      ∧ (∀ b, i < 4 → (c.ctx i).wait = some (.wprogs b) →
        c.endWprogWaits.ctx i = if c.wprogsDone (c.ctx i).tag b then { c.ctx i with waitOver := true } else c.ctx i))
  ∧ (exec .feFreezeTimeout s = .next (s.eachCore State.feTimeout)
    ∧ ∀ h a f u, s.me.holder = some h → ({ s with who := h } : State).issueCycle = (some (.word a f), u) →
      ((s.me.ctx h).feFrozen < 16 → s.feTimeout = s)
      ∧ (16 ≤ (s.me.ctx h).feFrozen → s.feTimeout = s.updCore (fun c => c.setCtx h { c.ctx h with wait := some (.word a f) })))
  ∧ (exec .quantumExpiry s = .next (s.mapCores (fun c => match c.holder with
      | some h => c.setCtx h (c.ctx h).quantumTick
      | none => c))
    ∧ ∀ x : Ctx, x.quantumTick = if 65536 ≤ x.clock - x.quantumAt then { x with quantumDone := true } else x)
  ∧ (exec .contextSwitch s = .next (s.mapCores Core.selectNow)
    ∧ ∀ c : Core, (c.frozen = true → c.selectNow = c)
      ∧ (∀ h n, c.frozen = false → c.entering = none → c.holder = some h → c.mustLeave h = true →
          c.nextReady h = some n →
          c.selectNow = { c with holder := none, lastHolder := h, entering := some n, switchLeft := 4 })
      ∧ (∀ h, c.frozen = false → c.entering = none → c.holder = some h → c.mustLeave h = false → c.selectNow = c)
      ∧ (∀ n, c.frozen = false → c.entering = some n → 1 < c.switchLeft →
          c.selectNow = { c with switchLeft := c.switchLeft - 1 })
      ∧ (∀ n, c.frozen = false → c.entering = some n → c.switchLeft ≤ 1 →
          ((c.ctx n).life ≠ .live ∨ (c.ctx n).svcHeld = true) → c.selectNow = { c with entering := none, switchLeft := 0 })
      ∧ (∀ n, c.frozen = false → c.entering = some n → c.switchLeft ≤ 1 → (c.ctx n).life = .live → (c.ctx n).svcHeld = false →
          c.selectNow = { c.setCtx n { c.ctx n with quantumAt := (c.ctx n).clock, quantumDone := false } with
            holder := some n, lastHolder := n, entering := none, switchLeft := 0 }))
  ∧ ((∀ t rest, s.ctx.after = .none → s.ctx.engineTraps = t :: rest → exec .trapEntry s =
        .next (((s.setCtx { s.ctx with engineTraps := rest }).takeTrap t true).updCtx (fun x => { x with xfer := .none })))
    ∧ (∀ t, s.ctx.after = .trap t → (s.ctx.afterNow = true ∨ (s.ctx.owedN = 0 ∧ s.ctx.owedB = 0)) → exec .trapEntry s =
        .next (((s.setCtx { s.ctx with after := .none, afterNow := false }).takeTrap t true).updCtx (fun x => { x with xfer := .none })))
    ∧ (s.pendingTrap = none → exec .trapEntry s = .next s))
  ∧ (exec .serviceRequest s = .next (s.mapCores Core.startService)
    ∧ ∀ c : Core, (c.svc.isSome = true ∨ c.svcQueue = [] → c.startService = c)
      ∧ ∀ r rest, c.svc = none → c.svcQueue = r :: rest → c.startService.svc = some r ∧ c.startService.svcQueue = rest
        ∧ (c.startService.ctx 4).life = .live ∧ (c.startService.ctx 4).priv = true
        ∧ (c.startService.ctx 4).pc = Config.firmwareEntry
        ∧ (c.startService.ctx 4).rs 1 = BitVec.ofNat 32 r.kind ∧ (c.startService.ctx 4).rs 2 = BitVec.ofNat 32 r.slot
        ∧ (c.startService.ctx 4).rs 3 = r.s3 ∧ (c.startService.ctx 4).rs 4 = r.s4 ∧ (c.startService.ctx 4).rs 5 = r.s5
        ∧ (c.startService.ctx 4).rs 6 = r.s6 ∧ (c.startService.ctx 4).ra 2 = r.a2
        ∧ ∀ i, i ≠ 4 → c.startService.ctx i = c.ctx i)
  ∧ (exec .syncRestart s = .next (s.ranks.foldl State.syncRestart s)
    ∧ ∀ r, ((∀ w ∈ (s.core r).sync, ∀ t, w.release = some t → s.wall < t) → s.syncRestart r = s)
      ∧ ((s.core r).sync.Nodup → (∀ w ∈ (s.core r).sync, w.arrived = true) → (s.syncRestart r).core r = { s.core r with
          sync := (s.core r).sync.filter (fun w => w.release.all (fun t => s.wall < t)) })
      ∧ ∀ w t, (s.core r).sync = [w] → w.release = some t → t ≤ s.wall → w.arrived = false →
        (s.syncRestart r).groupUpds = s.groupUpds ++ [GroupUpd.arrive w.group r]
        ∧ ((s.syncRestart r).core r).sync = [{ w with arrived := true, release := none }])
  ∧ (exec .syncTimeout s = .next s.syncTimeouts.savedTimeouts
    ∧ ∀ r, ((∀ w ∈ (s.core r).sync, (w.release.isSome = true ∧ w.arrived = true) ∨ (s.group w.group).timeout = 0
          ∨ s.wall < w.issued + (s.group w.group).timeout + 1) → s.syncTimeout r = s)
      ∧ ∀ w, (s.core r).sync = [w] → (w.release = none ∨ w.arrived = false) → (s.group w.group).timeout ≠ 0 →
        w.issued + (s.group w.group).timeout + 1 ≤ s.wall → ((s.syncTimeout r).core r).sync = []
        ∧ (((s.syncTimeout r).core r).ctx w.ctx).after =
          .trap { cause := .syncto, slot := 0, info := BitVec.ofNat 64 w.group }
        ∧ (w.arrived = true → ((s.syncTimeout r).group w.group).arrn = (s.group w.group).arrn - 1)))
  ∧ (∀ s : State,
  (exec .matrixCommit s = .next (s.eachCore State.commitsNow)
    ∧ ∀ (c : Core) i e, e ∈ ((c.landCommits i).ctx i).pend ↔
      e ∈ (c.ctx i).pend ∧ ¬ (e.isCommit = true ∧ e.due ≤ (c.ctx i).clock))
  ∧ (exec .mmasCommit s = .next (s.eachCore State.mmasCommits)
    ∧ ∀ m : MCmd, (m.event = false ∨ (s.me.ctx m.ctx).ended = true) →
      ((s.me.holder = some m.ctx ∨ s.commitLate m.ctx = false) → ((s.mmasCommit m).me.ctx m.ctx).pend =
        insertPend ⟨(s.me.ctx m.ctx).clock, m.id, [.commit m.id], 0, false⟩ (s.me.ctx m.ctx).pend)
      ∧ (s.me.holder ≠ some m.ctx → s.commitLate m.ctx = true → s.me.cmds.find? (fun k => k.id = m.id) = some m →
        ((s.mmasCommit m).me.ctx m.ctx).pend = (s.me.ctx m.ctx).pend
        ∧ (s.mmasCommit m).me.tiles = (s.me.commitCmd m).tiles
        ∧ (s.mmasCommit m).me.cmds = s.me.cmds.filter (fun k => k.id ≠ m.id))
      ∧ (m.barrier = 0 → (s.mmasCommit m).me.barriers = s.me.barriers)
      ∧ (m.barrier ≠ 0 → (s.mmasCommit m).me.barriers = s.me.barriers ++
          [{ addr := m.barrier, op := 2, bytes := if accFmtOf m.cfg m.mlat = .f64 then 32768 else 16384 }]))
  ∧ (exec .commandAbandon s = .next (s.eachCore State.matrixFaults)
    ∧ ∀ (r : Nat) (m : MCmd) (t : Trap), ((s.core r).cmds.map MCmd.id).Nodup → m ∈ (s.core r).cmds →
      (m.kind = .mmas → ((s.abandon r m t).core r).cmds = (s.core r).cmds.filter (fun k => decide (¬ (k.ctx = m.ctx ∧ m.id ≤ k.id))))
      ∧ (m.kind ≠ .mmas → ((s.abandon r m t).core r).cmds.map MCmd.id
          = ((s.core r).cmds.filter (fun k => decide (¬ (k.ctx = m.ctx ∧ m.id < k.id)))).map MCmd.id
        ∧ (∀ k ∈ (s.core r).cmds, k.ctx ≠ m.ctx → k ∈ ((s.abandon r m t).core r).cmds)
        ∧ (m.sums ≠ [] → m.cut ∈ ((s.abandon r m t).core r).cmds)
        ∧ ⟨((s.core r).ctx m.ctx).clock, m.id, [.commit m.id], 0, false⟩ ∈ (((s.abandon r m t).core r).ctx m.ctx).pend)
      ∧ (∀ e ∈ (((s.abandon r m t).core r).ctx m.ctx).pend, ∀ k ∈ (s.core r).cmds, RegWrite.commit k.id ∈ e.writes →
        k.ctx = m.ctx → k.id ≤ m.id ∧ (m.kind = .mmas → k.id < m.id))
      ∧ ((s.abandon r m t).core r).port = (s.core r).port.map (fun p => if p.ctx = m.ctx then { p with dropped := true } else p)
      ∧ (((s.abandon r m t).core r).ctx m.ctx).engineTraps = ((s.core r).ctx m.ctx).engineTraps ++ [t]
      ∧ (m.kind = .mmas → (((s.abandon r m t).core r).ctx m.ctx).rowProg = 0)
      ∧ (m.kind ≠ .mmas → (((s.abandon r m t).core r).ctx m.ctx).rowProg.getLsbD 31 = true))
  ∧ (exec .loadPipeDataArrival s = .next (s.eachCore State.loadPipes) ∧ (s.me.cmds = [] → s.loadPipes = s)))

/-- The events of the copy engines: an operation that has performed completes with its arrival and its record, one that met a fault
is cancelled with the later operations of its stream, ordered barrier actions and publishes act when nothing before them in their
stream is left, a missed deadline freezes the core, held records enter the event queue in order, a KVLD that is over leaves its pages,
and a closed region's writes are published once no operation of it is left. What operations do to memory: CPY and CPYD move the runs of
their walk, each run's bytes read before they are written, GATH and SCAT the elements that their indices name, an atomic leaves the old word
in A-space and the new one where it was, and a RED's contribution adds to each element, or keeps the greater or the less. The partition of a
cycle into these events is the model's (Log 5), an operation's own pace is free (Log 6), and when a write is visible to other agents is the
model's choice (Log 7). -/
def Obligations.OperationEvents : Prop := ∀ s : State,
  (exec .operationComplete s = .next (s.cores.foldl (fun t c => c.2.ops.foldl (fun u o => u.finishOp c.1 o.id) t) s).kvLeave
    ∧ ∀ r o u, (s.core r).ops.find? (fun p => p.id = o.id) = some o → u = (if o.barrier = none then s else s.cover r [o.key]) →
      (o.performed = false → s.finishOp r o.id = s)
      ∧ (o.performed = true → o.fault = none → (∀ h ∈ (s.core r).held, h.op ≠ some o.id) →
        ((o.wantsRecord = false ∨ ((s.core r).ctx o.ctx).ended = true) → s.finishOp r o.id = u.setCore r { u.core r with
          ops := (s.core r).ops.filter (fun p => p.id ≠ o.id), barriers := (s.core r).barriers ++ o.update.toList })
        ∧ (o.wantsRecord = true → ((s.core r).ctx o.ctx).ended = false →
          ((s.core r).events.length < 256 → (s.core r).held = [] → s.finishOp r o.id = u.setCore r { u.core r with
            events := (s.core r).events ++ [o.record s.wall], ops := (s.core r).ops.filter (fun p => p.id ≠ o.id)
            barriers := (s.core r).barriers ++ o.update.toList })
          ∧ (256 ≤ (s.core r).events.length → s.finishOp r o.id = u.setCore r { u.core r with
            held := (s.core r).held ++ [{ record := o.record s.wall, upd := o.update, op := some o.id }] }))))
  ∧ (exec .operationFault s = .next (s.cores.foldl (fun t c => c.2.ops.foldl (fun u o => u.failOp c.1 o.id) t) s).kvLeave
    ∧ (∀ r o t, (s.core r).ops.find? (fun p => p.id = o.id) = some o → o.fault = some t → ((s.core r).ops.map COp.id).Nodup →
      (∀ p, p ∈ ((s.failOp r o.id).core r).ops ↔
        p ∈ (s.core r).ops ∧ ¬ (p.tag = o.tag ∧ p.stream = o.stream ∧ o.id ≤ p.id))
      ∧ ((s.failOp r o.id).core r).events = (s.core r).events ∧ ((s.failOp r o.id).core r).barriers = (s.core r).barriers
      ∧ (((s.core r).ctx o.ctx).tag = o.tag → ((s.core r).ctx o.ctx).ended = false →
        (((s.failOp r o.id).core r).ctx o.ctx).engineTraps = ((s.core r).ctx o.ctx).engineTraps ++ [t]))
    ∧ ((∀ k ∈ s.kvReads, ∃ o ∈ (s.core k.rank).ops, o.id = k.op) → s.kvLeave = s)
    ∧ ∀ k, s.kvReads = [k] → (∀ o ∈ (s.core k.rank).ops, o.id ≠ k.op) →
      s.kvLeave = (({ s with kvReads := [] } : State).flushStreams k.rank [k.key]).kvReaderOut k.part k.page)
  ∧ (exec .barrierOrderedAction s = .next (s.ranks.foldl State.orderedActions s)
    ∧ ∀ r o op a b u, (s.core r).ops = [o] → o.kind = .barrierOp op a b → u = s.cover r [o.key] →
      s.orderedActions r = if s.mayBegin r o then u.setCore r { u.core r with ops := [], barriers := (s.core r).barriers ++
        [{ addr := a, op := op, bytes := b }] } else s)
  ∧ (exec .pubPerform s = .next (s.ranks.foldl State.publishes s)
    ∧ ∀ r o w, (s.core r).ops = [o] → o.kind = .pub w →
      ((s.mayBegin r o = false ∨ o.performed = true) → s.publishes r = s)
      ∧ (s.mayBegin r o = true → o.performed = false → ((s.publishes r).core r).ops = [{ o with performed := true }]
        ∧ ∀ v, ((s.core r).ctx o.ctx).windows.find w = some v →
          (((s.publishes r).core r).ctx o.ctx).windows.find w = some { v with exchanged := !v.exchanged }))
  ∧ (exec .cpydDeadline s = .next (s.mapCores (fun c => match c.holder with
      | some h => if c.deadlineMissed (c.ctx h) then { c with frozen := true } else c
      | none => c))
    ∧ ∀ (c : Core) (x : Ctx), x.inTrap = false → x.replayArmed = false → (c.deadlineMissed x = true ↔
      ∃ o ∈ c.ops, ∃ d, o.tag = x.tag ∧ o.performed = false ∧ o.deadline = some d ∧ d ≤ x.clock))
  ∧ (exec .eventRecordEnqueue s = .next (s.mapCores (fun c => c.enqueueHeld s.wall c.held.length)).kvLeave
    ∧ ∀ (c : Core) n, (256 ≤ c.events.length → c.enqueueHeld s.wall n = c)
      ∧ ∀ h rest, c.held = h :: rest → c.events.length < 256 → h.op = none → c.enqueueHeld s.wall (n + 1) =
        ({ c with events := c.events ++ [h.record], held := rest, barriers := c.barriers ++ h.upd.toList } : Core).enqueueHeld
          s.wall n)
  ∧ (exec .handleEntryArrival s = .next (s.mapCores Core.handleAdvance)
    ∧ ∀ (c : Core) n, c.handleWait = some (n + 1) → c.handleAdvance = { c with handleWait := some n })
  ∧ (exec .containmentPublish s = .next s.containmentPublish
    ∧ ∀ id, s.publishing = [id] → (s.regionBusy id = true → s.containmentPublish = s)
      ∧ (s.regionBusy id = false → s.containmentPublish.publishing = []
        ∧ (∀ w, w ∈ s.containmentPublish.staged ↔ w ∈ s.staged ∧ s.regionNow w.region ≠ id)))
  ∧ (exec .reductionApply s = .next s.reductionApply ∧ (s.staging = [] → exec .reductionApply s = .next s)
    ∧ ∀ key line slots n k slot, slots[k]? = some slot →
      (∀ e, s.staging.find? (fun e => e.launch = key ∧ e.line = line ∧ e.slot = k) = some e →
        s.redAdvance key line slots (n + 1) k =
          ({ s.redApply e with staging := s.staging.erase e } : State).redAdvance key line slots n (k + 1))
      ∧ (s.staging.find? (fun e => e.launch = key ∧ e.line = line ∧ e.slot = k) = none → s.redWithdrawn key slot = false →
        s.redAdvance key line slots (n + 1) k = (s, k)))
  ∧ (∀ (w : Nest) (c : Nat → Nat), (∀ l, l < walkTop w → c l < nestCount w (l + 1)) →
    runOffsets w ((List.range (walkTop w)).map (fun l => c l * ((List.range l).map (fun k => nestCount w (k + 1))).prod)).sum
      = (((List.range (walkTop w)).map (fun l => (c l : Int) * (nestLevel w (l + 1)).sa.toInt)).sum,
        ((List.range (walkTop w)).map (fun l => (c l : Int) * (nestLevel w (l + 1)).sd.toInt)).sum))
  ∧ (∀ (r : Nat) (o : COp), s.findOp r o.id = some o → o.performed = false → o.fault = none → o.delay = 0 →
    (∀ w sh crc isp, o.kind = .cpy w sh crc isp → s.opStep r o.id = s.moveStep r o ⟨(copyLoc w.src).shift (runOffsets w.nest o.unit).1,
      (copyLoc w.dst).shift (runOffsets w.nest o.unit).2, nestCount w.nest 0⟩ (walkRuns w.nest) isp crc)
    ∧ (∀ w, o.kind = .cpyd w → s.opStep r o.id = s.moveStep r o ⟨(copyLoc w.src).shift (runOffsets w.nest o.unit).1,
      (⟨2, r, w.dst.toNat⟩ : Loc).shift (runOffsets w.nest o.unit).2, nestCount w.nest 0⟩ (walkRuns w.nest) false false)
    ∧ (∀ (dst src list : DWord) (size count a : Nat) (sh : Bool) (x : DWord), 0 < size → 0 < count → a = list.toNat + 4 * o.unit →
      (o.kind = .gath dst src list size count sh →
        (o.stage = 0 → x = src + ((s.core r).rWord a).setWidth 64 → o.farCheck s r x size false = none → s.opStep r o.id = s.setOp r
          ({ o with result := ((s.core r).rWord a).toNat, hashBad := (s.core r).wordPoison a }.load ⟨copyLoc x, ⟨2, r, dst.toNat + o.unit * size⟩, size⟩))
        ∧ (o.stage ≠ 0 → o.hashBad = false → x = src + BitVec.ofNat 64 o.result →
          s.opStep r o.id = s.moveStep r o ⟨copyLoc x, ⟨2, r, dst.toNat + o.unit * size⟩, size⟩ count false false))
      ∧ (o.kind = .scat dst src list size count →
        (o.stage = 0 → x = dst + ((s.core r).rWord a).setWidth 64 → o.farCheck s r x size true = none → s.opStep r o.id = s.setOp r
          ({ o with result := ((s.core r).rWord a).toNat, hashBad := (s.core r).wordPoison a }.load ⟨⟨2, r, src.toNat + o.unit * size⟩, copyLoc x, size⟩))
        ∧ (o.stage ≠ 0 → o.hashBad = false → x = dst + BitVec.ofNat 64 o.result →
          s.opStep r o.id = s.moveStep r o ⟨⟨2, r, src.toNat + o.unit * size⟩, copyLoc x, size⟩ count false false)))
    ∧ (∀ (w : Walk) (src dst n : Nat), o.kind = .cpy w false false false → copyLoc w.src = ⟨2, r, src⟩ → copyLoc w.dst = ⟨2, r, dst⟩ →
      walkTop w.nest = 0 → nestCount w.nest 0 = n → 0 < n → src + n ≤ 0x600000 → dst + n ≤ 0x600000 → s.rankNow o.launch r = r →
      o.stage = 0 → o.unit = 0 → (∀ x, (s.core r).aPhys x = x) → Memory.wf (s.core r).aspace = true →
      ∃ m, ∃ p, (s.opSteps r o.id m).findOp r o.id = some p ∧ p.performed = true ∧ p.fault = none
        ∧ (∀ i, i < n → ((s.opSteps r o.id m).core r).rByte (dst + i) = (s.core r).rByte (src + i))
        ∧ (∀ x, (x < dst ∨ dst + n ≤ x) → ((s.opSteps r o.id m).core r).rByte x = (s.core r).rByte x)
        ∧ (s.opSteps r o.id m).gmem = s.gmem ∧ ∀ j, j ≠ r → (s.opSteps r o.id m).core j = s.core j)
    ∧ (∀ (op out : Nat) (addr : DWord) (v v2 old new : Word) (bad : Bool) (pa : Nat), o.kind = .amo op addr out v v2 bad →
      copyLoc addr = ⟨1, 0, pa⟩ → pa % 4 = 0 → s.checkPa o.part pa = none → s.tailAt pa = none → s.amoHeld = [] → s.staged = [] →
      (s.core r).gbuf = [] → Memory.wf s.gmem = true → Memory.wf (s.core r).aspace = true → (∀ x, (s.core r).aPhys x = x) →
      out % 4 = 0 → out + 4 ≤ 0x600000 → old = BitVec.ofNat 32 (natOfBytes ((List.range 4).map (fun i => s.gStored (pa + i)))) →
      new = (match op with
        | 0 => old + v
        | 1 => if old.toInt ≤ v.toInt then old else v
        | 2 => if old.toInt ≤ v.toInt then v else old
        | 3 => old &&& v
        | 4 => old ||| v
        | 5 => old ^^^ v
        | 6 => v
        | _ => if old = v then v2 else old) →
      ((s.opStep r o.id).core r).rWord out = old
      ∧ (∀ i, i < 4 → (s.opStep r o.id).gStored (pa + i) = new.extractLsb' (8 * i) 8
        ∧ ((s.opStep r o.id).gSeen r o.tag (pa + i)).1 = new.extractLsb' (8 * i) 8 ∧ (s.opStep r o.id).gByte (pa + i) = s.gStored (pa + i))
      ∧ (∀ x, (x < pa ∨ pa + 4 ≤ x) → (s.opStep r o.id).gStored x = s.gStored x)
      ∧ (∀ x, (x < out ∨ out + 4 ≤ x) → ((s.opStep r o.id).core r).rByte x = (s.core r).rByte x)
      ∧ (s.opStep r o.id).findOp r o.id = some { o with performed := true, bytes := 4 }))
  ∧ (∀ (r pa : Nat) (o : COp) (ownI : Bool) (bs : List (Byte × Bool)) (t : State), s.checkPa o.part pa = none → pa % 4 + bs.length ≤ 4 →
    (∀ w ∈ s.staged, w.tag ≠ o.tag) → t = (s.storeLoc r o ownI ⟨1, 0, pa⟩ bs).2.1 → (s.storeLoc r o ownI ⟨1, 0, pa⟩ bs).1 = .bytes []
      ∧ (∀ i b, bs[i]? = some b → (t.gSeen r o.tag (pa + i)).1 = b.1) ∧ (∀ x, (x < pa ∨ pa + bs.length ≤ x) → t.gSeen r o.tag x = s.gSeen r o.tag x)
      ∧ t.gmem = s.gmem ∧ (s.fetchLoc r o ⟨1, 0, pa⟩ 4).1 = .bytes ((List.range 4).map (fun i => s.gSeen r o.tag (pa + i))))
  ∧ (∀ (e : Contribution), (∀ j, s.unseenIn j (e.line * 128) 128 = []) → s.amoHeld = [] → Memory.wf s.gmem = true →
    (∀ x ∈ e.elems, x.1 % redBytes e.kind = 0) → (e.elems.map Prod.fst).Nodup →
    (∀ x ∈ e.elems, (s.redApply e).gNat x.1 (redBytes e.kind) = (match e.kind with
        | 0 => (fAdd fp32 (s.gNat x.1 4) x.2).1
        | 1 => (fAdd fp64 (s.gNat x.1 8) x.2).1
        | 2 => s.gNat x.1 4 + x.2
        | 3 => (fMinMax fp32 true (s.gNat x.1 4) x.2).1
        | _ => (fMinMax fp32 false (s.gNat x.1 4) x.2).1) % 256 ^ redBytes e.kind)
    ∧ ∀ a, (∀ x ∈ e.elems, a < x.1 ∨ x.1 + redBytes e.kind ≤ a) → (s.redApply e).gByte a = s.gByte a)

/-- The events of translation, migration and the weight tier: walks end, wait on a monitor and begin again; a migration commits or
is abandoned when no one holds its page; rows start while a row engine is free, their phases pass, and attribute changes commit once the commands that were outstanding when
they fell due no longer read the page; a hash and the destruction of a queue end their operations. The partition of a cycle into these events is the model's (Log 5),
durations that the specification leaves open are free (Log 6), and the order of a W-page's move is the model's (Log 34). That a
migration copies its page and switches its mapping in one step is the model's reading (Log 33), and so is where the bytes of a page of
another package come from (Log 45). -/
def Obligations.TierEvents : Prop := ∀ s : State,
  (exec .walkComplete s = .next s.walksComplete
    ∧ ∀ w, s.walks = [w] → (w.state = .running 0 → exec .walkComplete s = .next (s.endWalk w))
      ∧ (w.state ≠ .running 0 → w.asks = none → exec .walkComplete s = .next s)
      ∧ ∀ e l, w.state = .monitor e false → w.asks = some l → s.asked e = false →
        s.walksAsk = match s.askService w.core (w.request s e l) with
          | some t => t.setAsks w.order none
          | none => s.setAsks w.order (some l))
  ∧ (∃ t, exec .monitorWake s = .next t ∧ t = { s with walks := t.walks, free := s.free + s.walks.length } ∧ t.walks.length = s.walks.length
    ∧ ∀ (i : Nat) w, s.walks[i]? = some w →
      ((∀ e m, w.state ≠ .monitor e m) → t.walks[i]? = some w)
      ∧ (∀ e m, w.state = .monitor e m → (∃ (j : Nat) (v : PageWalk) (d : Nat) (k : Bool), s.walks[j]? = some v ∧ v.state = .monitor d k
            ∧ d / 64 = e / 64 ∧ s.entryReady j d k = true) → t.walks[i]? = some { w with state := .queued, asks := none })
      ∧ (∀ e m, w.state = .monitor e m → (∀ (j : Nat) (v : PageWalk) (d : Nat) (k : Bool), s.walks[j]? = some v → v.state = .monitor d k →
            d / 64 = e / 64 → s.entryReady j d k = false) → t.walks[i]? = some w))
  ∧ (exec .walkRetry s = .next s.walksRetry
    ∧ ∀ w, s.walks = [w] → (w.state = .retry 0 → exec .walkRetry s = .next (s.setWalk w.order .queued))
      ∧ (∀ n, w.state = .retry (n + 1) → exec .walkRetry s = .next (s.setWalk w.order (.retry n))))
  ∧ (exec .migrationCommit s = .next (s.migrationEnds true) ∧ exec .migrationAbandon s = .next (s.migrationEnds false)
    ∧ ∀ r o entry dst n q e u st, q = s.recall entry 8 → e = q.entryAt none entry → u = (if e.away = none then q.flushPage e.addr n else q) →
      st = u.migStatus o.part e dst n →
      (st = 0 → e.away = none → s.migEnd r o entry dst n = u.migCommit r o entry e.addr dst n)
      ∧ (st = 0 → e.away ≠ none → s.migEnd r o entry dst n = ((q.fetchRemotePage dst n).gPutNat entry
          ((BitVec.ofNat 64 (q.gNat entry 8) &&& 0xF600000000000000#64) ||| BitVec.ofNat 64 dst).toNat 8).setOp r
            { o with performed := true, result := 0 })
      ∧ (st ≠ 0 → s.migEnd r o entry dst n = u.migAbandon r o entry dst n st)
      ∧ ((u.checkPa o.part e.addr).isSome = true → st = 1))
  ∧ (exec .arbiterGrant s = .next (s.eachOp State.arbiterGrant)
    ∧ ∀ r o row count dst, o.kind = .whash row count dst → o.delay = 0 →
      s.arbiterGrant r o = if o.unit < count then s.whashStep r o row count dst else s)
  ∧ (exec .wprogRowStart s = .next ((List.range 8).foldl (fun t d => (t.startRows d 16).rowsFallDue d) s)
    ∧ ∀ die n, (16 ≤ (s.jobs.filter (fun j => decide (j.core / 64 = die ∧ j.opRank ≤ 512))).length → s.startRows die (n + 1) = s)
      ∧ ((s.jobs.filter (fun j => decide (j.core / 64 = die ∧ j.opRank ≤ 512))).length < 16 → s.startRows die (n + 1) =
        match s.startNext die with
        | none => s
        | some t => t.startRows die n))
  ∧ (exec .programPhaseEnd s = .next ((s.jobs.filter (fun j => !j.boundary && decide (j.left ≤ 1))).foldl State.jobCycle s)
    ∧ ∀ j : RowJob, (j.boundary = true → s.jobCycle j = s.setJob j (some { j with boundary := false }))
      ∧ (j.boundary = false → 1 < j.left → s.jobCycle j = s.setJob j (some { j with left := j.left - 1 }))
      ∧ (j.boundary = false → j.left ≤ 1 → s.bankAsked j.core (j.row % 16) = false → s.jobCycle j = s.phaseEnd j)
      ∧ (j.phase = 0 → j.bad = false →
          s.phaseEnd j = s.setJob j (some { j with phase := 1, left := phaseLength 1, iter := 1 }))
      ∧ (j.phase = 1 → s.phaseEnd j = s.setJob j (some { j with phase := 2, left := phaseLength 2 })))
  ∧ (exec .wprogCompletion s = .next (s.cores.foldl (fun t c => c.2.ops.foldl (fun u o => match o.kind with
      | .wprog .. => u.finishOp c.1 o.id
      | _ => u) t) s).chargeFailures ∧ ((∀ f ∈ s.rowFailures, s.failureOver f = false) → s.chargeFailures = s)
    ∧ s.chargeFailures.rowFailures = s.rowFailures.filter (fun f => !s.failureOver f))
  ∧ (exec .attrCommit s = .next s.attrCommits
    ∧ ∀ r o core row w l, l = o.rowWaits.getD (((s.core core).cmds.filter (fun m => m.readsPage (row / 2048))).map MCmd.id) →
      ((∀ m ∈ (s.core core).cmds, m.id ∈ l → m.readsPage (row / 2048) = false) → s.attrGranted core = true →
        s.attrStep r o core row w = ((if core = r then s.cover r [o.key] else s.before r o).putAttr core (row / 2048) w).setOp r
          { o with performed := true }
        ∧ ((s.putAttr core (row / 2048) w).core core).wattr.get 0 (row / 2048) = w &&& 0x7FFFFFFF)
      ∧ ((∃ m ∈ (s.core core).cmds, m.id ∈ l ∧ m.readsPage (row / 2048) = true) →
        s.attrStep r o core row w = s.setOp r { o with rowWaits := some l }))
  ∧ (exec .wpageMoveDone s = .next s.wpageMoveDone ∧ (s.move = none → exec .wpageMoveDone s = .next s)
    ∧ ∀ m, s.move = some m → m.row = 2048 → (∀ j ∈ s.jobs, j.opRank ≠ 512) →
      (∀ k ∈ (s.core m.rank).cmds, (∀ l, m.waits = some l → k.id ∈ l) → k.readsPage m.page = false) →
      s.attrGranted m.rank = true →
      exec .wpageMoveDone s = .next { s.putAttr m.rank m.page (BitVec.ofNat 32 (m.target % 16 * 2 ^ 27)) with
        move := none, wpmove := s.wpmove &&& 0x7FFFFFFF })
  ∧ (exec .whashCompletion s = .next (s.eachOp State.whashEnd)
    ∧ ∀ r o row count dst, o.kind = .whash row count dst → o.unit = count → o.delay = 0 →
      s.whashEnd r o = (s.whashStep r o row count dst).finishOp r o.id)
  ∧ (exec .queueDestroy s = .next (s.eachOp State.queueEnd)
    ∧ ∀ r o q, o.kind = .qdel q → (∀ e, s.queueHeld q = some e → e.live = true →
        ∃ b, (s.queueEnd r o).queueHeld q = some b ∧ b.live = false)
      ∧ ((∀ e, s.queueHeld q = some e → e.live = false) → s.queueEnd r o = s.setOp r { o with performed := true }))

/-- The events of the Pavilion and the Lodge: contexts are saved and resumed, slots are free once their image is written, a
descriptor is taken while the pool has room, launches are placed, started and completed but while their partition is scrubbed, notices
are delivered, and leases start with a notice in the next cycle,
are granted, tested and end. When a placement is considered is the model's choice (Log 17), and the conventions of the Lodge are
(Log 18). That an event runs for all cores and units, and that the notice of a lease is written in the cycle after its change of state, is the
model's order of a cycle (Log 5). -/
def Obligations.PavilionEvents : Prop := ∀ s : State,
  (exec .preemption s = .next s.saves ∧ ∀ r i, ((s.core r).ctx i).life ≠ .saving → s.maySave r i = false)
  ∧ exec .contextResume s =
    .next (s.considered.foldl (fun t l => if l.phase = .pool then t else (t.resumeLaunch l.key).1) s)
  ∧ (∃ t, exec .imageWriteDrained s = .next t ∧ t.imageWrites = s.imageWrites.filter (fun w => w.left ≠ 0)
    ∧ (∀ w ∈ s.imageWrites, w.left = 0 → (t.core w.rank).ctx w.slot = {})
    ∧ ∀ r i, (∀ w ∈ s.imageWrites, w.left = 0 → w.rank ≠ r ∨ w.slot ≠ i) → (t.core r).ctx i = (s.core r).ctx i)
  ∧ (exec .launchDescriptorPop s = .next (if s.started then s.popDescriptor else s)
    ∧ (64 ≤ s.pool.length → exec .launchDescriptorPop s = .next s)
    ∧ ∀ part d, (∃ x ∈ d.drop 8, x ≠ 0) → d.length = 64 → s.takeDescriptor part d = s.complete part 0 3 none)
  ∧ (exec .placementPass s = .next (if s.started then s.placementPass else s)
    ∧ (s.launches = [] → exec .placementPass s = .next s)
    ∧ (∀ b l p, b = some p → l.record.prio ≤ p → s.consider b l = (s, b))
    ∧ (∀ l cores frames, l.phase = .pool → s.depFailed l = false → s.depsMet l = true →
        s.fit l.record = .place cores frames → s.consider none l = (s.place l cores frames, none))
    ∧ (∀ l, l.phase = .pool → s.depFailed l = false → s.depsMet l = true → s.fit l.record = .wait →
        s.consider none l = (s, some l.record.prio)))
  ∧ (exec .contextStart s = .next s.starts
    ∧ ∀ l p, s.launches = [l] → l.phase = .placing p → exec .contextStart s = .next
      (if p ≤ s.wall + 1 ∧ (s.part l.part).scrub = false then s.startLaunch l else s))
  ∧ (exec .launchCompletion s = .next s.completions
    ∧ ∀ l, s.launches = [l] → l.phase = .running → exec .launchCompletion s =
      .next (if (s.part l.part).scrub = false ∧ s.launchEnded l = true then (s.complete l.part l.record.id (if s.launchStopped l then 2 else 1) l.record.noticeq).release l
        else s))
  ∧ (exec .noticeItemDelivery s = .next s.noticeItems
    ∧ ∀ n r, s.notices = [n] → s.queueHeld n.queue = some r → r.live = true → s.queueMapped r = true →
      s.queueRoom r = 0 → exec .noticeItemDelivery s = .next s)
  ∧ exec .leaseStart s = .next s.earlyLeases.rotation.delayedLeases
  ∧ (∀ id, (s.leaseStart id).unit id = { s.unit id with state := .noticed, lease := s.leaseCounter }
      ∧ (s.leaseStart id).leaseCounter = (s.leaseCounter + 1) % 2 ^ 32
      ∧ ∃ l, (s.leaseStart id).leases = s.leases ++ [l] ∧ l.unit = id ∧ l.number = s.leaseCounter
        ∧ l.since = s.wall + 1 ∧ l.deadline = s.wall + 1 + 1250000 ∧ (l.retire = true ↔ 2048 ≤ (s.unit id).score)
        ∧ (s.leaseStart id).noticesDue = s.noticesDue ++ [{ lease := l, dir := 0 }])
  ∧ (∀ l d, s.noticesDue = [{ lease := l, dir := d }] → s.writeNotices =
      if d = 0 then ({ s with noticesDue := [] } : State).writeOut l else ({ s with noticesDue := [] } : State).endNotice l d)
  ∧ (∀ l n, s.leases = [l] → l.unit = n → n < 512 →
    ((s.unit n).state = .noticed →
      (s.coreClear n = true → exec .leaseGrant s = .next (s.setUnit n { s.unit n with state := .granted })
        ∧ exec .grantDeadline s = .next s)
      ∧ (s.coreClear n = false → exec .leaseGrant s = .next s
        ∧ exec .grantDeadline s = .next (if l.deadline ≤ s.wall then s.deadlinePassed n else s)))
    ∧ ((∃ q ∈ s.parts, q.2.scrub = true ∧ s.coreOf q.1 n = true) → (s.unit n).state = .testing → exec .leaseScrubDone s = .next s)
    ∧ ((∀ q ∈ s.parts, q.2.scrub = true → s.coreOf q.1 n = false) → (s.unit n).state = .testing → l.scrubbed = false →
      (s.wall + 1 < l.since + 8192 → exec .leaseScrubDone s = .next s)
      ∧ (l.since + 8192 ≤ s.wall + 1 → l.retire = false → exec .leaseScrubDone s =
          .next ((s.setLease { l with scrubbed := true }).scrubCore n))
      ∧ (l.since + 8192 ≤ s.wall + 1 → l.retire = true → exec .leaseScrubDone s =
          .next (((s.setLease { l with scrubbed := true }).scrubCore n).leaseRetire { l with scrubbed := true } 2 0 0)))
    ∧ ((∀ q ∈ s.parts, q.2.scrub = true → s.coreOf q.1 n = false) → (s.unit n).state = .testing → l.scrubbed = true → exec .leaseTestEnd s =
        .next (if l.since + 8192 + 2097152 ≤ s.wall + 1 then s.leaseTestEnd l else s)))
  ∧ (∀ l, s.leases = [l] → unitKind l.unit ≠ 0 → unitKind l.unit ≠ 1 → (s.unit l.unit).state = .noticed → l.left = 0 →
    exec .leasePrepared s = .next (s.setUnit l.unit { s.unit l.unit with state := .granted }))

/-! ### What the outside asks -/

/-- Power, starts and heat. Without power a request for a reset, a loss of power or a sensor reading does nothing. A loss of power
keeps the weight tier, host memory and the retirement records, and no memory besides; a reset is a warm start if the start before
it completed, which keeps the memories, and a cold one otherwise; the steps of a start follow one another; heat stretches the cycles of its core and counts once in an
interval, and 115 degrees remove power. What a warm start keeps and what a power loss leaves is in Log 19, and how heat reaches the
model in Log 44: where the specification is silent both are the model's choice. That a package dump is followed by a cold start where
the start before had not completed is the model's reading (Log 43). -/
def Obligations.PowerEvents : Prop := ∀ s : State,
  (∀ temps hot, (s.powered = false → exec (.clockStretch temps hot) s = .next s)
    ∧ (s.powered = true → (∃ p ∈ temps, 115 ≤ p.2) → exec (.clockStretch temps hot) s = .next s.powerLoss)
    ∧ (s.powered = true → (∀ p ∈ temps, p.2 < 115) → ∃ t, exec (.clockStretch temps hot) s = .next t
      ∧ t = ({ s with sensors := temps.foldl (fun m p => m.put p.1 p.2) s.sensors, overPower := hot } : State).stretches))
  ∧ (∀ (n : Nat → Nat), n = (fun r => max (s.sensors.foldl (fun m p => if p.1 = r ∧ s.thermLim ≤ p.2
        then max m (if s.thermLim + 5 ≤ p.2 then 768 else 256) else m) 0) (if s.overPower then 128 else 0)) →
    (∀ r, r < 512 → (s.stretches.core r).stretch = max (s.core r).stretch (n r - s.wall % 1024))
    ∧ s.stretches.thermEvents = (if (∃ r, r < 512 ∧ s.wall % 1024 < n r) ∧ s.thermMark ≠ s.wall / 1024 + 1
      then min 65535 (s.thermEvents + 1) else s.thermEvents)
    ∧ ((∀ r, r < 512 → n r ≤ s.wall % 1024) → s.stretches = s)
    ∧ s.intervalCycle = (if s.wall % 1024 = 0 then s.stretches else s))
  ∧ (exec .thermalShutdown s = .next s.powerLoss ∧ exec .powerLoss s = .next s.powerLoss
    ∧ (s.powered = false → s.powerLoss = s)
    ∧ (s.powered = true → s.powerLoss.powered = false ∧ s.powerLoss.gmem = [] ∧ s.powerLoss.hmem = s.hmem
      ∧ s.powerLoss.retirements = s.retirements ∧ s.powerLoss.launches = [] ∧ s.powerLoss.sessions = []
      ∧ ∀ r, (s.powerLoss.core r).aspace = [] ∧ (s.powerLoss.core r).ctxs = []
        ∧ (s.jobs = [] → (s.powerLoss.core r).wspace = (s.core r).wspace ∧ (s.powerLoss.core r).wattr = (s.core r).wattr)))
  ∧ ((s.powered = true → exec .powerOn s = .next s)
    ∧ (s.powered = false → exec .powerOn s = .next { s with powered := true, start := {} }))
  ∧ ((s.powered = false → exec .reset s = .next s)
    ∧ (s.powered = true → ∃ t, exec .reset s = .next t ∧ t.powered = true ∧ t.start.step = 1 ∧ t.hmem = s.hmem
      ∧ t.gmem = (if s.start.step ≤ 8 then [] else s.gmem) ∧ (t.start.cold = true ↔ s.start.step ≤ 8) ∧ t.launches = [] ∧ t.queues = []
      ∧ ∀ r, (t.core r).ctxs = [] ∧ (t.core r).aspace = (if s.start.step ≤ 8 then [] else (s.core r).aspace)
        ∧ (s.jobs = [] → (t.core r).wspace = (s.core r).wspace)))
  ∧ ((s.powered = false → exec .packageDump s = .next s)
    ∧ (s.powered = true → (∀ c ∈ s.cores, c.2.fatal = false) →
      exec .packageDump s = .next (s.packageDump (Config.freeNat s.free)))
    ∧ (s.powered = true → ∀ c ∈ s.cores, c.2.fatal = true → exec .packageDump s = .next s.fatalCycle)
    ∧ ∀ n, (s.packageDump n).powered = true ∧ ((s.packageDump n).start.cold = true ↔ s.start.step ≤ 8) ∧ (s.packageDump n).launches = [])
  ∧ (exec .startStepComplete s = .next
      (if s.start.begun ∧ s.start.left ≤ 1 ∧ ¬ 8 < s.start.step ∧ ¬ s.start.stopped = true then s.stepComplete else s)
    ∧ (s.start.step = 1 → s.stepComplete = { s with start := { s.start with step := 2, begun := false } })
    ∧ (s.start.step = 3 →
      s.stepComplete = { s with start := { s.start with step := 4, begun := false }, leasePeriod := Config.configPeriod })
    ∧ (s.start.step = 7 → s.stepComplete = { s.clearFormats with start := { s.start with step := 8, begun := false } })
    ∧ (s.start.step = 8 → s.stepComplete.started = true ∧ s.stepComplete.groups = [])
    ∧ ∀ r i, (s.clearFormats.core r).ctx i = { (s.core r).ctx i with fmt := [], lfmt := [] })
  ∧ (∃ t, exec .imageRootFormed s = .next t ∧ ((∀ m ∈ s.measures, ∃ p ∈ m.pages, p.digest = none) → t = s)
    ∧ ∀ m, s.measures = [m] → (∀ p ∈ m.pages, p.digest.isSome = true) → t.measures = [] ∧ t.remeas.getLsbD 31 = false)
  ∧ (∃ t, exec .partitionScrubDone s = .next t ∧ ((∀ q ∈ s.parts, (s.part q.1).scrub = false) → t = s)
    ∧ ∀ p b, s.parts = [(p, b)] → b.scrub = true → b.scrubLeft = 0 → s.partBusy p = false → t = s.scrubDone p)

/-- The SPDM requests: each is answered while there is power, and without power nothing happens. After the outcome "stop" those
that the boot ROM does not serve are unsupported, and before step 1 has ended those that need the leaf key are not ready. Slot 0 alone
holds a chain, which does not change; GET_MEASUREMENTS echoes the requester's context under SPDM 1.3 and is signed where it asks for that,
over the negotiation and the measurements asked for since the last signature or other request; at most 17 sessions are open, and a session
that ends is unbound. The answers that the specification does not name are the model's choice (Log 20), and so
are the bytes of the negotiation (Log 73) and what is taken from SPDM (Log 71). -/
def Obligations.SpdmRequests : Prop := ∀ (s w : State) (e : Nat), w = s.unmeasured e →
  ((s.endpoint e).measured = [] → w = s) ∧ w = { s with endpoints := w.endpoints } ∧ (w.endpoint e).measured = []
  ∧ (w.endpoint e).vca = (s.endpoint e).vca
  ∧ (s.powered = false → ∀ i, i ∈ [Instr.getVersion e, .getCapabilities e, .getDigests e, .finish e, .sessionEnd e] → exec i s = .next s)
  ∧ (s.powered = false → ∀ b : BitVec 8, ∀ i ∈ [Instr.getCertificate e b, .challenge e b, .getMeasurements e b, .keyExchange e b,
      .unsupportedRequest e b], exec i s = .next s)
  ∧ (s.powered = false → ∀ a b c d f, exec (.negotiateAlgorithms e a b c d f) s = .next s)
  ∧ (s.powered = true →
    (∃ t, exec (.getVersion e) s = .next t ∧ t.outbox = .versions e [0x12, 0x13] :: s.outbox
      ∧ t = { s with endpoints := t.endpoints, outbox := t.outbox } ∧ (t.endpoint e).measured = [])
    ∧ (∃ t, exec (.getCapabilities e) s = .next t ∧ t.outbox = .capabilities e true true true true true true false :: s.outbox
      ∧ t = { s with endpoints := t.endpoints, outbox := t.outbox } ∧ (t.endpoint e).measured = [])
    ∧ (∀ a b c d f, ∃ t, exec (.negotiateAlgorithms e a b c d f) s = .next t ∧ t.outbox =
        (if a && b && c && d && f then Reply.algorithms e else .spdmError e .invalidRequest) :: s.outbox
      ∧ t = { s with endpoints := t.endpoints, outbox := t.outbox } ∧ (t.endpoint e).measured = [])
    ∧ (s.start.stopped = true → ∀ b : BitVec 8, ∀ i ∈ [Instr.getDigests e, .getCertificate e b, .challenge e b, .keyExchange e b],
        exec i s = .next { w with outbox := .spdmError e .unsupportedRequest :: s.outbox })
    ∧ (s.start.stopped = false → s.start.step ≤ 1 → ∀ b : BitVec 8,
        ∀ i ∈ [Instr.getDigests e, .getCertificate e b, .challenge e b, .keyExchange e b],
        exec i s = .next { w with outbox := .spdmError e .responseNotReady :: s.outbox })
    ∧ (s.start.stopped = false → 1 < s.start.step →
      exec (.getDigests e) s = .next { w with outbox := .digests e [0] (sha384 certChain) :: s.outbox }
      ∧ (sha384 certChain).length = 48
      ∧ exec (.getCertificate e 0) s = .next { w with outbox := .certificate e 0 certChain :: s.outbox }
      ∧ (∃ t body, exec (.challenge e 0) s = .next t ∧ t.outbox = .challengeAuth e 0 body :: s.outbox ∧ body.length = 176
          ∧ body.take 48 = sha384 certChain)
      ∧ (17 ≤ s.sessions.length →
          exec (.keyExchange e 0) s = .next { w with outbox := .spdmError e .sessionLimitExceeded :: s.outbox })
      ∧ (s.sessions.length < 17 → ∃ t body, exec (.keyExchange e 0) s = .next t
          ∧ t.outbox = .keyExchangeRsp e s.nextSession body :: s.outbox
          ∧ t.sessions = s.sessions ++ [{ id := s.nextSession, endpoint := e, established := false, bound := none }])
      ∧ (∀ b : BitVec 8, b ≠ 0 → ∀ i ∈ [Instr.getCertificate e b, .challenge e b, .keyExchange e b],
        exec i s = .next { w with outbox := .spdmError e .invalidRequest :: s.outbox }))
    ∧ (∀ (a : MeasureAsk) (u : State), a = s.asks.headD {} → u = { w with asks := s.asks.drop 1 } →
      (a.sign = true → a.slot ≠ 0 → ∀ b : BitVec 8,
        exec (.getMeasurements e b) s = .next { u with outbox := .spdmError e .invalidRequest :: s.outbox })
      ∧ (a.sign = true → a.slot = 0 → s.start.step ≤ 1 → ∀ b : BitVec 8,
        exec (.getMeasurements e b) s = .next { u with outbox := .spdmError e .responseNotReady :: s.outbox })
      ∧ ((a.sign = true → a.slot = 0 ∧ 1 < s.start.step) →
        (∀ (n : BitVec 8) (f : Nat → List Byte) (blocks : List (List Byte)),
          (n ≠ 0 → n ≠ 255 → n.toNat ∉ s.indices →
            exec (.getMeasurements e n) s = .next { u with outbox := .spdmError e .invalidRequest :: s.outbox })
          ∧ ((∃ k ∈ s.indices, (n = 255 ∨ n.toNat = k) ∧ s.measurement k = none) → n ≠ 0 →
            exec (.getMeasurements e n) s = .next { u with outbox := .spdmError e .responseNotReady :: s.outbox })
          ∧ ((n ≠ 0 → n ≠ 255 → n.toNat ∈ s.indices) → (∀ k ∈ s.indices, n = 255 ∨ n.toNat = k → n ≠ 0 → s.measurement k = some (f k)) →
            blocks = (if n = 0 then [] else if n = 255 then s.indices else [n.toNat]).map (fun k =>
              [BitVec.ofNat 8 k, 1, 0x33, 0, BitVec.ofNat 8 (measurementType k), 0x30, 0] ++ f k) →
            ∃ t own data sig, exec (.getMeasurements e n) s = .next t
              ∧ t = { s with asks := s.asks.drop 1, free := s.free + 2, endpoints := t.endpoints, outbox := t.outbox }
              ∧ t.outbox = (if n = 0 then .measurementCount e s.indices.length own data (if a.v13 then field 8 a.context else []) sig
                else .measurements e blocks own data (if a.v13 then field 8 a.context else []) sig) :: s.outbox
              ∧ own.length = 32 ∧ data.length ≤ 1024 ∧ (∀ g ∈ sig, g.length = 96)
              ∧ (a.sign = false → sig = none ∧ (t.endpoint e).measured = (s.endpoint e).measured ++ a.request n.toNat
                  ++ a.response (if n = 0 then s.indices.length else 0) blocks own data)
              ∧ (a.sign = true → (t.endpoint e).measured = []
                ∧ sig = some (({ s with free := s.free + 2 } : State).sign (a.signing ++ sha384 ((s.endpoint e).vca
                  ++ (s.endpoint e).measured ++ a.request n.toNat
                  ++ a.response (if n = 0 then s.indices.length else 0) blocks own data))))))))
    ∧ (∀ b : BitVec 8, exec (.unsupportedRequest e b) s = .next { w with outbox := .spdmError e .unsupportedRequest :: s.outbox })
    ∧ (∃ t, exec (.finish e) s = .next t
      ∧ (s.session e = none → t = { s with outbox := .spdmError 0 .invalidRequest :: s.outbox })
      ∧ (∀ x, s.session e = some x → t.outbox = .finishRsp e :: s.outbox
        ∧ ∀ y ∈ t.sessions, y.id = e → y.established = true))
    ∧ (∃ t, exec (.sessionEnd e) s = .next t ∧ (s.session e = none → t = s)
      ∧ (∀ x, s.session e = some x → t.outbox = .sessionEnded e :: s.outbox ∧ t.parts = s.parts
        ∧ ∀ y, y ∈ t.sessions ↔ y ∈ s.sessions ∧ y.id ≠ e)))

/-- The partition interface and its registers. A message on an established session bound to its partition is answered by the
partition's state: GET_STATE always, LOCK in CONFIG_UNLOCKED, GET_REPORT in CONFIG_LOCKED and RUN, START in CONFIG_LOCKED with its
nonce, STOP in every other state; in another state it is refused with 1, and on a session of another partition with 2. A session's first message binds it; one session
that begins with GET_REPORT stays unbound and reads the report of every partition. A register
write in CONFIG_UNLOCKED writes the register, and in CONFIG_LOCKED or RUN enters ERROR; a read of the block is served at once. What
arrives while a STOP waits for its scrub waits with it. The order of the checks and the register
widths are the model's reading (Log 20, Log 48). -/
def Obligations.PartitionRequests : Prop := ∀ (s : State) (n : Nat) (p : BitVec 8) (x : Session) (refuse : BitVec 8 → Host.Outcome State Fault Refusal),
  refuse = (fun k => .next { s with outbox := .partition n [0x10, 0x7F, p, 0, k] :: s.outbox }) →
  (s.powered = false → ∀ v, ∀ i ∈ [Instr.getState n p, .lock n p, .getReport n p, .start n p v, .stop n p], exec i s = .next s)
  ∧ (s.powered = true → (s.part p.toNat).stopAfter ≠ none → ∀ v, ∀ r ∈ [(Instr.getState n p, PartRequest.getState n), (.lock n p, .lock n),
        (.getReport n p, .getReport n), (.start n p v, .start n v), (.stop n p, .stop n)],
      exec r.1 s = .next (s.setPart p.toNat { s.part p.toNat with waiting := (s.part p.toNat).waiting ++ [r.2] }))
  ∧ (s.powered = true → (s.part p.toNat).stopAfter = none → s.session n = none → ∀ v,
      ∀ i ∈ [Instr.getState n p, .lock n p, .getReport n p, .start n p v, .stop n p], exec i s = .next s)
  ∧ (s.powered = true → (s.part p.toNat).stopAfter = none → s.session n = some x → x.established = true →
    (16 ≤ p.toNat → ∀ v, ∀ i ∈ [Instr.getState n p, .lock n p, .getReport n p, .start n p v, .stop n p], exec i s = refuse 2)
    ∧ (p.toNat < 16 → x.bound = none → x.manager = true →
      (∀ v, ∀ i ∈ [Instr.getState n p, .lock n p, .start n p v, .stop n p], exec i s = refuse 2)
      ∧ ((s.part p.toNat).state ∈ [1, 2] → exec (.getReport n p) s = .next { s with
        outbox := .partition n ([0x10, 0x83, p, 0] ++ s.report p.toNat) :: s.outbox }))
    ∧ (p.toNat < 16 → x.bound = none → (∀ y ∈ s.sessions, y.manager = false) → (s.part p.toNat).state ∈ [1, 2] →
      ∃ t, exec (.getReport n p) s = .next t ∧ t = { s with sessions := t.sessions, outbox := t.outbox }
        ∧ t.sessions.map Session.bound = s.sessions.map Session.bound ∧ (∀ y ∈ t.sessions, y.id = n → y.manager = true)
        ∧ t.outbox = .partition n ([0x10, 0x83, p, 0] ++ s.report p.toNat) :: s.outbox)
    ∧ (p.toNat < 16 → x.bound = none → x.manager = false → (∃ y ∈ s.sessions, y.manager = true) →
      ((∃ y ∈ s.sessions, y.bound = some p.toNat) → exec (.getReport n p) s = refuse 2)
      ∧ ((∀ y ∈ s.sessions, y.bound ≠ some p.toNat) → (s.part p.toNat).state ∈ [1, 2] → ∃ t, exec (.getReport n p) s = .next t
        ∧ (∀ y ∈ t.sessions, y.id = n → y.bound = some p.toNat)
        ∧ t.outbox = .partition n ([0x10, 0x83, p, 0] ++ s.report p.toNat) :: s.outbox))
    ∧ (p.toNat < 16 → x.bound = none → x.manager = false → (∃ y ∈ s.sessions, y.bound = some p.toNat) → ∀ v,
      ∀ i ∈ [Instr.getState n p, .lock n p, .start n p v, .stop n p], exec i s = refuse 2)
    ∧ (p.toNat < 16 → x.bound = none → x.manager = false → (∀ y ∈ s.sessions, y.bound ≠ some p.toNat) → (s.part p.toNat).state ≤ 3 →
      ∃ t, exec (.getState n p) s = .next t ∧ (∀ y ∈ t.sessions, y.id = n → y.bound = some p.toNat)
        ∧ t.outbox = .partition n ([0x10, 0x81, p, 0] ++ bytesOf (s.part p.toNat).stateWord.toNat 4) :: s.outbox)
    ∧ (p.toNat < 16 → ∀ q, x.bound = some q → q ≠ p.toNat → ∀ v,
      ∀ i ∈ [Instr.getState n p, .lock n p, .getReport n p, .start n p v, .stop n p], exec i s = refuse 2)
    ∧ (p.toNat < 16 → x.bound = some p.toNat →
      ((s.part p.toNat).state ≤ 3 → exec (.getState n p) s = .next { s with
        outbox := .partition n ([0x10, 0x81, p, 0] ++ bytesOf (s.part p.toNat).stateWord.toNat 4) :: s.outbox })
      ∧ ((s.part p.toNat).state ≠ 0 → exec (.lock n p) s = refuse 1)
      ∧ ((s.part p.toNat).state = 0 → s.lockOk p.toNat = false → exec (.lock n p) s = refuse 3)
      ∧ ((s.part p.toNat).state = 0 → s.lockOk p.toNat = true → ∃ t, exec (.lock n p) s = .next t
        ∧ (t.part p.toNat).state = 1 ∧ (t.part p.toNat).lockTime = BitVec.ofNat 64 s.wall
        ∧ t.outbox = .partition n ([0x10, 0x82, p, 0] ++ bytesOf (t.part p.toNat).nonce.toNat 8) :: s.outbox)
      ∧ ((s.part p.toNat).state ∉ [1, 2] → exec (.getReport n p) s = refuse 1)
      ∧ ((s.part p.toNat).state ∈ [1, 2] → exec (.getReport n p) s = .next { s with
        outbox := .partition n ([0x10, 0x83, p, 0] ++ s.report p.toNat) :: s.outbox })
      ∧ (∀ v, (s.part p.toNat).state ≠ 1 → exec (.start n p v) s = refuse 1)
      ∧ (∀ v, (s.part p.toNat).state = 1 → v ≠ (s.part p.toNat).nonce → exec (.start n p v) s = refuse 4)
      ∧ (∀ v, (s.part p.toNat).state = 1 → v = (s.part p.toNat).nonce → ∃ t, exec (.start n p v) s = .next t
        ∧ t.part p.toNat = { s.part p.toNat with state := 2 } ∧ t.outbox = .partition n [0x10, 0x84, p, 0] :: s.outbox)
      ∧ ((s.part p.toNat).state = 0 → exec (.stop n p) s = refuse 1)
      ∧ ((s.part p.toNat).state = 3 → (s.part p.toNat).scrub = false → ∃ t, exec (.stop n p) s = .next t
        ∧ (t.part p.toNat).state = 0 ∧ (t.part p.toNat).err = 0 ∧ t.outbox = .partition n [0x10, 0x85, p, 0] :: s.outbox)
      ∧ ((s.part p.toNat).state ∈ [1, 2, 3] → (s.part p.toNat).scrub = true → exec (.stop n p) s =
        .next (s.setPart p.toNat { s.part p.toNat with stopAfter := some n }))
      ∧ ((s.part p.toNat).state ∈ [1, 2] → (s.part p.toNat).scrub = false → ∃ t, exec (.stop n p) s = .next t
        ∧ (t.part p.toNat).scrub = true ∧ (t.part p.toNat).stopAfter = some n)))
  ∧ (∀ (q : BitVec 4) (o : BitVec 12) (w : Bool) (v : BitVec 64),
    (s.powered = false → exec (.ptRegisterWrite q o w v) s = .next s)
    ∧ (s.powered = true → (s.part q.toNat).stopAfter ≠ none → exec (.ptRegisterWrite q o w v) s = .next (s.setPart q.toNat
        { s.part q.toNat with waiting := (s.part q.toNat).waiting ++ [.write o.toNat w v.toNat] }))
    ∧ ((s.part q.toNat).stopAfter = none →
    (s.powered = true → regsHit o.toNat w = [] → exec (.ptRegisterWrite q o w v) s = .next s)
    ∧ (s.powered = true → o = 0x010 → w = true → (s.part q.toNat).state = 0 → (s.part q.toNat).scrub = false →
      exec (.ptRegisterWrite q o w v) s = .next (s.setPart q.toNat { s.part q.toNat with cores := v }))
    ∧ (s.powered = true → o = 0x068 → w = false → (s.part q.toNat).state = 0 → (s.part q.toNat).scrub = false →
      exec (.ptRegisterWrite q o w v) s = .next (s.setPart q.toNat { s.part q.toNat with imgsize := v.setWidth 32 }))
    ∧ (s.powered = true → ∀ r rest, regsHit o.toNat w = r :: rest → (s.part q.toNat).state ∈ [1, 2] → ∃ t,
      exec (.ptRegisterWrite q o w v) s = .next t ∧ (t.part q.toNat).state = 3 ∧ (t.part q.toNat).scrub = true
        ∧ (t.part q.toNat).err = BitVec.ofNat 32 (r.1 * 65536 + 1))))
  ∧ (∀ a : BlockAccess, s.powered = true → s.accesses = [a] → a.at_ ≤ s.wall → a.value = none → s.blockCycle = { s with
      accesses := [], outbox := .partRegister a.part a.off ((s.part a.part).read a.off a.wide) :: s.outbox })
  ∧ (∀ b : Partition, b.read 0x000 false = b.stateWord.toNat ∧ b.read 0x004 false = b.err.toNat ∧ b.read 0x010 true = b.cores.toNat
      ∧ b.read 0x068 false = b.imgsize.toNat)

/-- The host, the board and the fabric: a host access through the aperture reads what the cores see of a partition's range and zero
elsewhere, a store outside such a range is discarded, a store to a queue's TAIL is taken only where it is the current TAIL plus 1 and otherwise
sets ERR and leaves the rest of the queue as it is, and the management registers and the fabric ports do what their rules say: a flit
leaves within its port's window, and one that arrives is served for a partition that names its package. What a flit says and what no rule
describes of it or of a management write is the model's choice (Log 45, Log 49), and so are the numbers of the flit classes, the layout of
header and payload, and the turns that partitions take at a port (Log 63). -/
def Obligations.HostRequests : Prop := ∀ s : State,
  (s.powered = false → ∀ pa v w b o d p n h f m y, ∀ i ∈ [Instr.hostTailWrite pa v, .hostApertureAccess pa w b, .mgWpmoveWrite v,
    .mgRemeasWrite v, .mgThermRead, .managementWrite o d, .fabricAck p n, .laneWidthChange p n h, .fabricFlitReceived p f m y],
    exec i s = .next s)
  ∧ (s.powered = true →
    (∀ (pa : BitVec 52) (v : Word) (g : Nat),
      ((pa.toNat < s.aperture.toNat ∨ s.aperture.toNat + 2 ^ 41 ≤ pa.toNat) → exec (.hostTailWrite pa v) s = .next s)
      ∧ (pa.toNat = s.aperture.toNat + g → g < 2 ^ 41 → exec (.hostTailWrite pa v) s = .next
        (if pa.toNat % 4 = 0 ∧ s.hostRange g = true then s.gWord none g 15 v false else s)))
    ∧ (∀ (rank : Option Nat) (g : Nat) (v old : Word) (t : State), (s.tailAt g).isSome = true → g % 4 = 0 →
      old = BitVec.ofNat 32 (natOfBytes ((List.range 4).map (fun i => s.gStored (g + i)))) → t = s.gWord rank g 15 v false →
      (v = old + 1 → (∀ i, i < 4 → t.gStored (g + i) = v.extractLsb' (8 * i) 8 ∧ t.gByte (g + i) = v.extractLsb' (8 * i) 8)
        ∧ ∀ x, (x < g ∨ g + 4 ≤ x) → t.gStored x = s.gStored x)
      ∧ (v ≠ old + 1 → t.gStored (g + 7) = (s.gByte (g + 7) ||| 4) ∧ ∀ x, x ≠ g + 7 → t.gStored x = s.gStored x))
    ∧ (∀ (pa : BitVec 52) (b : List Byte), exec (.hostApertureAccess pa false b) s = .next { s with
        outbox := .hostRead pa.toNat ((List.range b.length).map (fun i => s.hostByte (pa.toNat + i))) :: s.outbox })
    ∧ (∀ a, (a < s.aperture.toNat ∨ s.aperture.toNat + 2 ^ 41 ≤ a) → s.hostByte a = (0, false))
    ∧ (∀ g, g < 2 ^ 41 → s.hostByte (s.aperture.toNat + g) = if s.hostRange g then s.gSeen 512 0 g else (0, false))
    ∧ (∀ (pa : BitVec 52) (b : List Byte), ∃ t, exec (.hostApertureAccess pa true b) s = .next t
        ∧ ((∀ i g, i < b.length + 4 → pa.toNat / 4 * 4 + i = s.aperture.toNat + g → g < 2 ^ 41 → s.hostRange g = false) → t = s)
        ∧ (∀ g, pa.toNat = s.aperture.toNat + g → g < 2 ^ 41 → pa.toNat % 4 = 0 → b.length = 4 → s.hostRange g = true →
          t = s.gWord none g 15 (BitVec.ofNat 32 (natOfBytes b)) false))
    ∧ (∀ (v : Word) (page rank target : Nat), page = (v.extractLsb' 0 10).toNat → rank = (v.extractLsb' 10 9).toNat →
      target = (v.extractLsb' 19 4).toNat →
      (s.wpmove.getLsbD 31 = true → exec (.mgWpmoveWrite v) s = .next { s with wpmove := s.wpmove ||| 0x40000000 })
      ∧ (s.wpmove.getLsbD 31 = false → page < 768 → (s.part target).state = 0 →
        (s.part (((s.core rank).wattr.get 0 page).extractLsb' 27 4).toNat).state = 0 →
        exec (.mgWpmoveWrite v) s = .next { s with wpmove := v &&& 0x7FFFFF ||| 0x80000000,
                                                   move := some { rank := rank, page := page, target := target, row := 0 } })
      ∧ (s.wpmove.getLsbD 31 = false → (768 ≤ page ∨ (s.part target).state ≠ 0
          ∨ (s.part (((s.core rank).wattr.get 0 page).extractLsb' 27 4).toNat).state ≠ 0) →
        exec (.mgWpmoveWrite v) s = .next { s with wpmove := v &&& 0x7FFFFF ||| 0x40000000 }))
    ∧ (∀ (v : Word) (k : Nat), k = (v.extractLsb' 0 5).toNat →
      ((k < 16 ∨ s.remeas.getLsbD 31 = true) → exec (.mgRemeasWrite v) s = .next s)
      ∧ (16 ≤ k → s.remeas.getLsbD 31 = false → exec (.mgRemeasWrite v) s = .next { s with
        remeas := BitVec.ofNat 32 k ||| 0x80000000
        measures := s.measures ++ [{ image := k, pages := (s.members k).map (fun p => { rank := p.1, page := p.2 }) }] }))
    ∧ (∀ v : Word, v = BitVec.ofNat 32 (s.thermEvents * 65536 + s.thermLim % 256 * 256 + s.sensors.foldl (fun m t => max m t.2) 0 % 256) →
      exec .mgThermRead s = .next { s with thermEvents := 0, outbox := .register 0x10020 v.toNat :: s.outbox }
      ∧ ∀ o, s.readManagement o = if o = 0x10020 then { s with thermEvents := 0, outbox := .register 0x10020 v.toNat :: s.outbox }
        else { s with outbox := .register o (if o = 0x10000 then s.aperture.toNat else if o = 0x10008 then s.remeas.toNat
          else if o = 0x10010 then s.wpmove.toNat else 0) :: s.outbox })
    ∧ (∀ (o : BitVec 20) (d : DWord),
      (o = 0x10000 → exec (.managementWrite o d) s = .next
        (if s.apertureLocked then s else { s with aperture := d &&& 0x000FFE0000000000 }))
      ∧ (o = 0x10008 → exec (.managementWrite o d) s = exec (.mgRemeasWrite (d.extractLsb' 0 32)) s)
      ∧ (o = 0x10010 → exec (.managementWrite o d) s = exec (.mgWpmoveWrite (d.extractLsb' 0 32)) s)
      ∧ (o = 0x10020 → exec (.managementWrite o d) s = .next (if 85 ≤ (d.extractLsb' 8 8).toNat ∧ (d.extractLsb' 8 8).toNat ≤ 105
          then { s with thermLim := (d.extractLsb' 8 8).toNat } else s))
      ∧ (o.toNat ∉ [0x10000, 0x10008, 0x10010, 0x10020] → exec (.managementWrite o d) s = .next s))
    ∧ (∀ p n, ∃ t, exec (.fabricAck p n) s = .next t ∧ t.port p = { s.port p with outstanding := (s.port p).outstanding - n }
      ∧ (∀ q, q ≠ p → t.port q = s.port q)
      ∧ (∀ k, s.flows = [k] → t.flows = if k.port ≠ p then [k] else if k.outstanding ≤ n then []
          else [{ k with outstanding := k.outstanding - n }]))
    ∧ (∀ p n, ((s.unit (unitId 5 p)).state = .testing → ∀ h, exec (.laneWidthChange p n h) s = .next s)
      ∧ ((s.unit (unitId 5 p)).state ≠ .testing →
        (∃ t, exec (.laneWidthChange p n true) s = .next t ∧ (t.port p).half = true ∧ (t.port p).testing = some n
          ∧ (t.port p).window = 2048 ∧ (n < 4 → n ∉ (t.port p).lanes))
        ∧ (∃ t, exec (.laneWidthChange p n false) s = .next t ∧ (t.port p).testing = none
          ∧ ((s.port p).retired = [] → (t.port p).half = false ∧ (t.port p).window = 4096)
          ∧ ((s.port p).retired ≠ [] → (t.port p).half = (s.port p).half))))
    ∧ (∀ (p : Nat) (f : BitVec 12) (m : BitVec 128) (y : BitVec 512) (h : FlitHeader) (pa : Nat), h = flitHeader m → pa = Config.flitAddr y →
      (h.dest ≠ Config.packageNumber → exec (.fabricFlitReceived p f m y) s = .next { s with
        flitsDue := s.flitsDue ++ [{ header := { h with source := f.toNat }, payload := bytesOf y.toNat 64 }] })
      ∧ (h.dest = Config.packageNumber → (s.fabricAllows h.part f.toNat = false ∨ (s.checkRange h.part pa (pa + 63)).isSome = true) →
        exec (.fabricFlitReceived p f m y) s = .next s)
      ∧ (h.dest = Config.packageNumber → s.fabricAllows h.part f.toNat = true → s.checkRange h.part pa (pa + 63) = none →
        (h.cls = 0 → exec (.fabricFlitReceived p f m y) s = .next { s with flitsDue := s.flitsDue ++ [{
          header := { source := Config.packageNumber, dest := f.toNat, part := h.part, cls := 2, stream := h.stream }
          payload := flitPayload 2 pa ((List.range 64).map (fun i => (s.gSeen 512 0 (pa + i)).1)) }] })
        ∧ (h.cls = 1 → pa % 4 = 0 → ∀ b, ((Config.flitData y).take 64) = b → b.length = 4 →
          exec (.fabricFlitReceived p f m y) s = .next (s.gWord none pa 15 (BitVec.ofNat 32 (natOfBytes b)) false))
        ∧ (1 < h.cls → exec (.fabricFlitReceived p f m y) s = .next s)))
    ∧ (∀ (key part dest cls addr : Nat) (b : List Byte) (p : Nat), p = s.flowPort key dest →
      (((if (s.port p).half then 2048 else 4096) ≤ (s.port p).outstanding ∨ s.portTurn p part = false) →
        (s.sendFlit key part dest cls addr b).1 = false ∧ (s.sendFlit key part dest cls addr b).2.outbox = s.outbox
        ∧ ((s.sendFlit key part dest cls addr b).2.port p).outstanding = (s.port p).outstanding)
      ∧ ((s.port p).outstanding < (if (s.port p).half then 2048 else 4096) → s.portTurn p part = true →
        (s.sendFlit key part dest cls addr b).1 = true ∧ ((s.sendFlit key part dest cls addr b).2.port p).outstanding = (s.port p).outstanding + 1
        ∧ (s.sendFlit key part dest cls addr b).2.outbox
          = .flit p { source := Config.packageNumber, dest := dest, part := part, cls := cls, stream := key % 16 } (flitPayload cls addr b) :: s.outbox)))

/-! ### Frames over all instructions -/

/-- Every instruction but NSET, SYSWR, EVPOP, the queue accesses, the stores and full/empty accesses, PUB.def and PUB.clr, MCFG, MLAT,
MSTOP, MMA and MMV leaves every memory and every register of every context as it was in the cycle in which it issues, whether it
performs, waits or traps: what it computes lands later. Where it consumes poison in a containment region, CX_ROWPROG is cleared. Those
that configure leave the register files and the memories. -/
def Obligations.QuietFrame : Prop := ∀ (i : Instr) (s t : State), exec i s = .next t →
  (writesLater i = true → s.quiet t ∧ (s.ctx.sameRegs ((t.core s.cur).ctx s.who)
    ∨ (({ s.ctx with rowProg := 0 } : Ctx).sameRegs ((t.core s.cur).ctx s.who) ∧ s.ctx.contain ≠ []
      ∧ ∃ a v, actOf i = some a ∧ issueFault a s = some (.poison v))))
  ∧ ((match i with
      | .nset .. | .syswr .. | .mcfg .. | .mcfgR .. | .mlat .. | .mstop .. | .mma .. | .mmv .. => true
      | _ => false) = true →
    s.sameOutside t ∧ (∀ r, (s.core r).sameStores (t.core r) ∧ (s.core r).sameSpace (t.core r))
    ∧ ∀ r j, ((t.core r).ctx j).s = ((s.core r).ctx j).s ∧ ((t.core r).ctx j).a = ((s.core r).ctx j).a
      ∧ ((t.core r).ctx j).p = ((s.core r).ctx j).p ∧ ((t.core r).ctx j).v = ((s.core r).ctx j).v
      ∧ ((t.core r).ctx j).vq = ((s.core r).ctx j).vq ∧ ((t.core r).ctx j).q = ((s.core r).ctx j).q)

/-- An instruction of a user context changes no other context, on its core or another, and gives no context other rights: not the
mode, nor the partition, launch or tile range. A pop or a push serves the accesses that wait at a queue already, so QPOP, QPOP.b and QPUSH
change of another context the wait at a queue and nothing else. -/
def Obligations.SlotTouchesOwnContext : Prop := ∀ (i : Instr) (s t : State),
  i.slotClass.isSome = true → s.who ≠ 4 → exec i s = .next t →
  ((match i with
      | .qpop .. | .qpopB .. | .qpush .. => false
      | _ => true) = true → s.othersSame t)
  ∧ (∀ r j, ((s.core r).ctx j).sameRights ((t.core r).ctx j))
  ∧ ∀ r j, (r ≠ s.cur ∨ j ≠ s.who) → (t.core r).ctx j = (s.core r).ctx j
      ∨ ((∃ w, ((s.core r).ctx j).wait = some w ∧ w.atQueue = true) ∧ ∃ w, (t.core r).ctx j = { (s.core r).ctx j with wait := some w })

/-- Every instruction of a slot leaves the memories in their canonical form. That form is the model's own (Log 2). -/
def Obligations.SlotKeepsCanonical : Prop := ∀ (i : Instr) (s t : State),
  i.slotClass.isSome = true → s.canonical → exec i s = .next t → t.canonical

end Statements
end

