-- ==== Sys2Proof/Laws/Map.lean ====
section
/-! SUPPORT. Laws of the sparse map: reads after writes, and the canonical form. -/
namespace Sys2Proof

theorem Map.get_erase_ne {α : Type} (m : Map α) (d : α) {k j : Nat} (h : j ≠ k) : (m.erase k).get d j = m.get d j := by
  induction m with
  | nil => rfl
  | cons e rest ih =>
    obtain ⟨k', v⟩ := e
    by_cases hk : k' = k
    · subst hk; simp [Map.erase, Map.get, ih, Ne.symm h]
    · simp [Map.erase, Map.get, hk, ih]

theorem Map.get_erase_self {α : Type} (m : Map α) (d : α) (k : Nat) : (m.erase k).get d k = d := by
  induction m with
  | nil => rfl
  | cons e rest ih =>
    obtain ⟨k', v⟩ := e
    by_cases hk : k' = k <;> simp [Map.erase, Map.get, hk, ih]

theorem Map.get_insert_ne {α : Type} (m : Map α) (d v : α) {k j : Nat} (h : j ≠ k) : (m.insert k v).get d j = m.get d j := by
  induction m with
  | nil => simp [Map.insert, Map.get, Ne.symm h]
  | cons e rest ih =>
    obtain ⟨k', v'⟩ := e
    by_cases hk : k < k'
    · simp [Map.insert, hk, Map.get, Ne.symm h]
    · simp [Map.insert, hk, Map.get, ih]

/-- No entry of the map is at key `k`. -/
theorem Map.get_insert_self {α : Type} (m : Map α) (d v : α) (k : Nat) (h : m.find k = none) : (m.insert k v).get d k = v := by
  induction m with
  | nil => simp [Map.insert, Map.get]
  | cons e rest ih =>
    obtain ⟨k', v'⟩ := e
    by_cases hk : k < k'
    · simp [Map.insert, hk, Map.get]
    · by_cases hj : k' = k
      · simp [Map.find, hj] at h
      · simp only [Map.find, hj, if_false] at h
        simp [Map.insert, hk, Map.get, hj, ih h]

theorem Map.find_erase_self {α : Type} (m : Map α) (k : Nat) : (m.erase k).find k = none := by
  induction m with
  | nil => rfl
  | cons e rest ih =>
    obtain ⟨k', v⟩ := e
    by_cases hk : k' = k <;> simp [Map.erase, Map.find, hk, ih]

/-- A read of the key put gives the value put. -/
@[simp] theorem Map.get_put_self {α : Type} (m : Map α) (d v : α) (k : Nat) : (m.put k v).get d k = v :=
  Map.get_insert_self _ _ _ _ (Map.find_erase_self m k)

/-- A put leaves every other key. -/
theorem Map.get_put_ne {α : Type} (m : Map α) (d v : α) {k j : Nat} (h : j ≠ k) : (m.put k v).get d j = m.get d j := by
  rw [Map.put, Map.get_insert_ne _ _ _ h, Map.get_erase_ne _ _ h]

/-- A read of the key written gives the value written. -/
@[simp] theorem Map.get_write_self {α : Type} [DecidableEq α] (m : Map α) (d v : α) (k : Nat) : (m.write d k v).get d k = v := by
  by_cases h : v = d
  · simp [Map.write, h, Map.get_erase_self]
  · simp only [Map.write, h, if_false]
    exact Map.get_insert_self _ _ _ _ (Map.find_erase_self m k)

/-- A write leaves every other key. -/
theorem Map.get_write_ne {α : Type} [DecidableEq α] (m : Map α) (d v : α) {k j : Nat} (h : j ≠ k) :
    (m.write d k v).get d j = m.get d j := by
  by_cases hv : v = d
  · simp only [Map.write, hv, if_true]; exact Map.get_erase_ne _ _ h
  · simp only [Map.write, hv, if_false]; rw [Map.get_insert_ne _ _ _ h, Map.get_erase_ne _ _ h]

theorem Map.get_write {α : Type} [DecidableEq α] (m : Map α) (d v : α) (k j : Nat) :
    (m.write d k v).get d j = if j = k then v else m.get d j := by
  by_cases h : j = k
  · subst h; simp
  · simp [h, Map.get_write_ne _ _ _ h]

theorem Map.get_put {α : Type} (m : Map α) (d v : α) (k j : Nat) :
    (m.put k v).get d j = if j = k then v else m.get d j := by
  by_cases h : j = k
  · subst h; simp
  · simp [h, Map.get_put_ne _ _ _ h]

theorem Map.get_clearRange {α : Type} (m : Map α) (d : α) (lo hi j : Nat) :
    (m.clearRange lo hi).get d j = if lo ≤ j ∧ j < hi then d else m.get d j := by
  induction m with
  | nil => simp [Map.clearRange, Map.get]
  | cons e rest ih =>
    obtain ⟨k, v⟩ := e
    by_cases hk : lo ≤ k ∧ k < hi
    · simp only [Map.clearRange, hk, and_self, if_true, ih, Map.get]
      by_cases hj : k = j
      · subst hj; simp [hk]
      · simp [hj]
    · simp only [Map.clearRange, hk, if_false, Map.get, ih]
      by_cases hj : k = j
      · subst hj; simp [hk]
      · simp [hj]

/-! ### The canonical form -/

theorem Map.above_erase {α : Type} (m : Map α) (k j : Nat) (h : Map.above j m = true) : Map.above j (m.erase k) = true := by
  induction m with
  | nil => rfl
  | cons e rest ih =>
    obtain ⟨k', v⟩ := e
    simp only [Map.above, Bool.and_eq_true] at h
    by_cases hk : k' = k
    · simp [Map.erase, hk, ih h.2]
    · simp [Map.erase, hk, Map.above, ih h.2, of_decide_eq_true h.1]

theorem Map.above_insert {α : Type} (m : Map α) (k j : Nat) (v : α) (hk : j < k) (h : Map.above j m = true) :
    Map.above j (m.insert k v) = true := by
  induction m with
  | nil => simp [Map.insert, Map.above, hk]
  | cons e rest ih =>
    obtain ⟨k', v'⟩ := e
    simp only [Map.above, Bool.and_eq_true] at h
    by_cases hkk : k < k'
    · simp [Map.insert, hkk, Map.above, hk, of_decide_eq_true h.1, h.2]
    · simp [Map.insert, hkk, Map.above, of_decide_eq_true h.1, ih h.2]

theorem Map.above_mono {α : Type} (m : Map α) {i j : Nat} (hij : i ≤ j) (h : Map.above j m = true) : Map.above i m = true := by
  induction m with
  | nil => rfl
  | cons e rest ih =>
    obtain ⟨k', v'⟩ := e
    simp only [Map.above, Bool.and_eq_true] at h ⊢
    exact ⟨decide_eq_true (Nat.lt_of_le_of_lt hij (of_decide_eq_true h.1)), ih h.2⟩

theorem Map.above_clearRange {α : Type} (m : Map α) (j lo hi : Nat) (h : Map.above j m = true) :
    Map.above j (m.clearRange lo hi) = true := by
  induction m with
  | nil => rfl
  | cons e rest ih =>
    obtain ⟨k, v⟩ := e
    simp only [Map.above, Bool.and_eq_true] at h
    by_cases hk : lo ≤ k ∧ k < hi
    · simp [Map.clearRange, hk, ih h.2]
    · simp only [Map.clearRange, hk, if_false, Map.above, Bool.and_eq_true]
      exact ⟨h.1, ih h.2⟩

theorem Map.memWf_erase {α : Type} [DecidableEq α] (d : α) (m : Map α) (k : Nat) (h : Map.memWf d m = true) :
    Map.memWf d (m.erase k) = true := by
  induction m with
  | nil => rfl
  | cons e rest ih =>
    obtain ⟨k', v⟩ := e
    simp only [Map.memWf, Bool.and_eq_true] at h
    by_cases hk : k' = k
    · simp only [Map.erase, hk, if_true]; exact ih h.2
    · simp only [Map.erase, hk, if_false, Map.memWf, Bool.and_eq_true]
      exact ⟨⟨h.1.1, Map.above_erase _ _ _ h.1.2⟩, ih h.2⟩

theorem Map.memWf_insert {α : Type} [DecidableEq α] (d : α) (m : Map α) (k : Nat) (v : α) (hv : v ≠ d) (hf : m.find k = none)
    (h : Map.memWf d m = true) : Map.memWf d (m.insert k v) = true := by
  induction m with
  | nil => simp [Map.insert, Map.memWf, Map.above, hv]
  | cons e rest ih =>
    obtain ⟨k', v'⟩ := e
    simp only [Map.memWf, Bool.and_eq_true] at h
    by_cases hk : k < k'
    · simp only [Map.insert, hk, if_true, Map.memWf, Map.above, Bool.and_eq_true]
      exact ⟨⟨by simp [hv], by simp, Map.above_mono _ (Nat.le_of_lt hk) h.1.2⟩, h.1, h.2⟩
    · by_cases hj : k' = k
      · simp [Map.find, hj] at hf
      · simp only [Map.find, hj, if_false] at hf
        simp only [Map.insert, hk, if_false, Map.memWf, Bool.and_eq_true]
        exact ⟨⟨h.1.1, Map.above_insert _ _ _ _ (by omega) h.1.2⟩, ih hf h.2⟩

/-- A write keeps the canonical form. -/
theorem Map.memWf_write {α : Type} [DecidableEq α] (d : α) (m : Map α) (k : Nat) (v : α) (h : Map.memWf d m = true) :
    Map.memWf d (m.write d k v) = true := by
  by_cases hv : v = d
  · simp only [Map.write, hv, if_true]; exact Map.memWf_erase _ _ _ h
  · simp only [Map.write, hv, if_false]
    exact Map.memWf_insert _ _ _ _ hv (Map.find_erase_self m k) (Map.memWf_erase _ _ _ h)

/-- Putting a value that is not the default keeps the canonical form. -/
theorem Map.memWf_put {α : Type} [DecidableEq α] (d : α) (m : Map α) (k : Nat) (v : α) (hv : v ≠ d) (h : Map.memWf d m = true) :
    Map.memWf d (m.put k v) = true :=
  Map.memWf_insert _ _ _ _ hv (Map.find_erase_self m k) (Map.memWf_erase _ _ _ h)

/-- Clearing a range keeps the canonical form. -/
theorem Map.memWf_clearRange {α : Type} [DecidableEq α] (d : α) (m : Map α) (lo hi : Nat) (h : Map.memWf d m = true) :
    Map.memWf d (m.clearRange lo hi) = true := by
  induction m with
  | nil => rfl
  | cons e rest ih =>
    obtain ⟨k, v⟩ := e
    simp only [Map.memWf, Bool.and_eq_true] at h
    by_cases hk : lo ≤ k ∧ k < hi
    · simp only [Map.clearRange, hk, and_self, if_true]; exact ih h.2
    · simp only [Map.clearRange, hk, if_false, Map.memWf, Bool.and_eq_true]
      exact ⟨⟨h.1.1, Map.above_clearRange _ _ _ _ h.1.2⟩, ih h.2⟩

end Sys2Proof
end

