-- ==== Sys2Proof/Laws/State.lean ====
section
/-! SUPPORT. What each named update of the state leaves: one lemma for a field and an update, for simp. -/
namespace Sys2Proof.Machine
open Sys2Proof

/-! ### A core or a context of the package is replaced -/

@[simp] theorem State.setCore_wall (s : State) (r : Nat) (c : Core) : (s.setCore r c).wall = s.wall := rfl
@[simp] theorem State.setCore_cur (s : State) (r : Nat) (c : Core) : (s.setCore r c).cur = s.cur := rfl
@[simp] theorem State.setCore_who (s : State) (r : Nat) (c : Core) : (s.setCore r c).who = s.who := rfl
@[simp] theorem State.setCore_free (s : State) (r : Nat) (c : Core) : (s.setCore r c).free = s.free := rfl
@[simp] theorem State.setCore_inbox (s : State) (r : Nat) (c : Core) : (s.setCore r c).inbox = s.inbox := rfl
@[simp] theorem State.setCore_outbox (s : State) (r : Nat) (c : Core) : (s.setCore r c).outbox = s.outbox := rfl
@[simp] theorem State.setCore_powered (s : State) (r : Nat) (c : Core) : (s.setCore r c).powered = s.powered := rfl
@[simp] theorem State.setCore_start (s : State) (r : Nat) (c : Core) : (s.setCore r c).start = s.start := rfl
@[simp] theorem State.setCore_jobs (s : State) (r : Nat) (c : Core) : (s.setCore r c).jobs = s.jobs := rfl
@[simp] theorem State.setCore_shedTurn (s : State) (r : Nat) (c : Core) : (s.setCore r c).shedTurn = s.shedTurn := rfl
@[simp] theorem State.setCore_rowFailures (s : State) (r : Nat) (c : Core) : (s.setCore r c).rowFailures = s.rowFailures := rfl
@[simp] theorem State.setCore_upsets (s : State) (r : Nat) (c : Core) : (s.setCore r c).upsets = s.upsets := rfl
@[simp] theorem State.setCore_gmem (s : State) (r : Nat) (c : Core) : (s.setCore r c).gmem = s.gmem := rfl
@[simp] theorem State.setCore_gpoison (s : State) (r : Nat) (c : Core) : (s.setCore r c).gpoison = s.gpoison := rfl
@[simp] theorem State.setCore_hmem (s : State) (r : Nat) (c : Core) : (s.setCore r c).hmem = s.hmem := rfl
@[simp] theorem State.setCore_hpoison (s : State) (r : Nat) (c : Core) : (s.setCore r c).hpoison = s.hpoison := rfl
@[simp] theorem State.setCore_amoHeld (s : State) (r : Nat) (c : Core) : (s.setCore r c).amoHeld = s.amoHeld := rfl
@[simp] theorem State.setCore_staged (s : State) (r : Nat) (c : Core) : (s.setCore r c).staged = s.staged := rfl
@[simp] theorem State.setCore_publishing (s : State) (r : Nat) (c : Core) : (s.setCore r c).publishing = s.publishing := rfl
@[simp] theorem State.setCore_merged (s : State) (r : Nat) (c : Core) : (s.setCore r c).merged = s.merged := rfl
@[simp] theorem State.setCore_unwinding (s : State) (r : Nat) (c : Core) : (s.setCore r c).unwinding = s.unwinding := rfl
@[simp] theorem State.setCore_kvReads (s : State) (r : Nat) (c : Core) : (s.setCore r c).kvReads = s.kvReads := rfl
@[simp] theorem State.setCore_walks (s : State) (r : Nat) (c : Core) : (s.setCore r c).walks = s.walks := rfl
@[simp] theorem State.setCore_walkOrder (s : State) (r : Nat) (c : Core) : (s.setCore r c).walkOrder = s.walkOrder := rfl
@[simp] theorem State.setCore_groups (s : State) (r : Nat) (c : Core) : (s.setCore r c).groups = s.groups := rfl
@[simp] theorem State.setCore_groupUpds (s : State) (r : Nat) (c : Core) : (s.setCore r c).groupUpds = s.groupUpds := rfl
@[simp] theorem State.setCore_queues (s : State) (r : Nat) (c : Core) : (s.setCore r c).queues = s.queues := rfl
@[simp] theorem State.setCore_queueGen (s : State) (r : Nat) (c : Core) : (s.setCore r c).queueGen = s.queueGen := rfl
@[simp] theorem State.setCore_notices (s : State) (r : Nat) (c : Core) : (s.setCore r c).notices = s.notices := rfl
@[simp] theorem State.setCore_launches (s : State) (r : Nat) (c : Core) : (s.setCore r c).launches = s.launches := rfl
@[simp] theorem State.setCore_nextSeq (s : State) (r : Nat) (c : Core) : (s.setCore r c).nextSeq = s.nextSeq := rfl
@[simp] theorem State.setCore_nextTag (s : State) (r : Nat) (c : Core) : (s.setCore r c).nextTag = s.nextTag := rfl
@[simp] theorem State.setCore_lqTurn (s : State) (r : Nat) (c : Core) : (s.setCore r c).lqTurn = s.lqTurn := rfl
@[simp] theorem State.setCore_images (s : State) (r : Nat) (c : Core) : (s.setCore r c).images = s.images := rfl
@[simp] theorem State.setCore_ranges (s : State) (r : Nat) (c : Core) : (s.setCore r c).ranges = s.ranges := rfl
@[simp] theorem State.setCore_imageWrites (s : State) (r : Nat) (c : Core) : (s.setCore r c).imageWrites = s.imageWrites := rfl
@[simp] theorem State.setCore_staging (s : State) (r : Nat) (c : Core) : (s.setCore r c).staging = s.staging := rfl
@[simp] theorem State.setCore_cursors (s : State) (r : Nat) (c : Core) : (s.setCore r c).cursors = s.cursors := rfl
@[simp] theorem State.setCore_units (s : State) (r : Nat) (c : Core) : (s.setCore r c).units = s.units := rfl
@[simp] theorem State.setCore_unitCopies (s : State) (r : Nat) (c : Core) : (s.setCore r c).unitCopies = s.unitCopies := rfl
@[simp] theorem State.setCore_leaseCounter (s : State) (r : Nat) (c : Core) : (s.setCore r c).leaseCounter = s.leaseCounter := rfl
@[simp] theorem State.setCore_leases (s : State) (r : Nat) (c : Core) : (s.setCore r c).leases = s.leases := rfl
@[simp] theorem State.setCore_noticesDue (s : State) (r : Nat) (c : Core) : (s.setCore r c).noticesDue = s.noticesDue := rfl
@[simp] theorem State.setCore_rotNext (s : State) (r : Nat) (c : Core) : (s.setCore r c).rotNext = s.rotNext := rfl
@[simp] theorem State.setCore_rotAt (s : State) (r : Nat) (c : Core) : (s.setCore r c).rotAt = s.rotAt := rfl
@[simp] theorem State.setCore_rotUnits (s : State) (r : Nat) (c : Core) : (s.setCore r c).rotUnits = s.rotUnits := rfl
@[simp] theorem State.setCore_rotDelayed (s : State) (r : Nat) (c : Core) : (s.setCore r c).rotDelayed = s.rotDelayed := rfl
@[simp] theorem State.setCore_leasePeriod (s : State) (r : Nat) (c : Core) : (s.setCore r c).leasePeriod = s.leasePeriod := rfl
@[simp] theorem State.setCore_retirements (s : State) (r : Nat) (c : Core) : (s.setCore r c).retirements = s.retirements := rfl
@[simp] theorem State.setCore_lifeMs (s : State) (r : Nat) (c : Core) : (s.setCore r c).lifeMs = s.lifeMs := rfl
@[simp] theorem State.setCore_parts (s : State) (r : Nat) (c : Core) : (s.setCore r c).parts = s.parts := rfl
@[simp] theorem State.setCore_rowOwner (s : State) (r : Nat) (c : Core) : (s.setCore r c).rowOwner = s.rowOwner := rfl
@[simp] theorem State.setCore_unscrubbed (s : State) (r : Nat) (c : Core) : (s.setCore r c).unscrubbed = s.unscrubbed := rfl
@[simp] theorem State.setCore_accesses (s : State) (r : Nat) (c : Core) : (s.setCore r c).accesses = s.accesses := rfl
@[simp] theorem State.setCore_mgReads (s : State) (r : Nat) (c : Core) : (s.setCore r c).mgReads = s.mgReads := rfl
@[simp] theorem State.setCore_endpoints (s : State) (r : Nat) (c : Core) : (s.setCore r c).endpoints = s.endpoints := rfl
@[simp] theorem State.setCore_asks (s : State) (r : Nat) (c : Core) : (s.setCore r c).asks = s.asks := rfl
@[simp] theorem State.setCore_sessions (s : State) (r : Nat) (c : Core) : (s.setCore r c).sessions = s.sessions := rfl
@[simp] theorem State.setCore_nextSession (s : State) (r : Nat) (c : Core) : (s.setCore r c).nextSession = s.nextSession := rfl
@[simp] theorem State.setCore_roots (s : State) (r : Nat) (c : Core) : (s.setCore r c).roots = s.roots := rfl
@[simp] theorem State.setCore_measures (s : State) (r : Nat) (c : Core) : (s.setCore r c).measures = s.measures := rfl
@[simp] theorem State.setCore_aperture (s : State) (r : Nat) (c : Core) : (s.setCore r c).aperture = s.aperture := rfl
@[simp] theorem State.setCore_apertureLocked (s : State) (r : Nat) (c : Core) : (s.setCore r c).apertureLocked = s.apertureLocked := rfl
@[simp] theorem State.setCore_remeas (s : State) (r : Nat) (c : Core) : (s.setCore r c).remeas = s.remeas := rfl
@[simp] theorem State.setCore_wpmove (s : State) (r : Nat) (c : Core) : (s.setCore r c).wpmove = s.wpmove := rfl
@[simp] theorem State.setCore_move (s : State) (r : Nat) (c : Core) : (s.setCore r c).move = s.move := rfl
@[simp] theorem State.setCore_thermEvents (s : State) (r : Nat) (c : Core) : (s.setCore r c).thermEvents = s.thermEvents := rfl
@[simp] theorem State.setCore_thermLim (s : State) (r : Nat) (c : Core) : (s.setCore r c).thermLim = s.thermLim := rfl
@[simp] theorem State.setCore_sensors (s : State) (r : Nat) (c : Core) : (s.setCore r c).sensors = s.sensors := rfl
@[simp] theorem State.setCore_thermMark (s : State) (r : Nat) (c : Core) : (s.setCore r c).thermMark = s.thermMark := rfl
@[simp] theorem State.setCore_overPower (s : State) (r : Nat) (c : Core) : (s.setCore r c).overPower = s.overPower := rfl
@[simp] theorem State.setCore_ports (s : State) (r : Nat) (c : Core) : (s.setCore r c).ports = s.ports := rfl
@[simp] theorem State.setCore_routes (s : State) (r : Nat) (c : Core) : (s.setCore r c).routes = s.routes := rfl
@[simp] theorem State.setCore_flows (s : State) (r : Nat) (c : Core) : (s.setCore r c).flows = s.flows := rfl
@[simp] theorem State.setCore_flitsDue (s : State) (r : Nat) (c : Core) : (s.setCore r c).flitsDue = s.flitsDue := rfl

@[simp] theorem State.updCore_wall (s : State) (f : Core → Core) : (s.updCore f).wall = s.wall := rfl
@[simp] theorem State.updCore_cur (s : State) (f : Core → Core) : (s.updCore f).cur = s.cur := rfl
@[simp] theorem State.updCore_who (s : State) (f : Core → Core) : (s.updCore f).who = s.who := rfl
@[simp] theorem State.updCore_free (s : State) (f : Core → Core) : (s.updCore f).free = s.free := rfl
@[simp] theorem State.updCore_inbox (s : State) (f : Core → Core) : (s.updCore f).inbox = s.inbox := rfl
@[simp] theorem State.updCore_outbox (s : State) (f : Core → Core) : (s.updCore f).outbox = s.outbox := rfl
@[simp] theorem State.updCore_powered (s : State) (f : Core → Core) : (s.updCore f).powered = s.powered := rfl
@[simp] theorem State.updCore_start (s : State) (f : Core → Core) : (s.updCore f).start = s.start := rfl
@[simp] theorem State.updCore_jobs (s : State) (f : Core → Core) : (s.updCore f).jobs = s.jobs := rfl
@[simp] theorem State.updCore_shedTurn (s : State) (f : Core → Core) : (s.updCore f).shedTurn = s.shedTurn := rfl
@[simp] theorem State.updCore_rowFailures (s : State) (f : Core → Core) : (s.updCore f).rowFailures = s.rowFailures := rfl
@[simp] theorem State.updCore_upsets (s : State) (f : Core → Core) : (s.updCore f).upsets = s.upsets := rfl
@[simp] theorem State.updCore_gmem (s : State) (f : Core → Core) : (s.updCore f).gmem = s.gmem := rfl
@[simp] theorem State.updCore_gpoison (s : State) (f : Core → Core) : (s.updCore f).gpoison = s.gpoison := rfl
@[simp] theorem State.updCore_hmem (s : State) (f : Core → Core) : (s.updCore f).hmem = s.hmem := rfl
@[simp] theorem State.updCore_hpoison (s : State) (f : Core → Core) : (s.updCore f).hpoison = s.hpoison := rfl
@[simp] theorem State.updCore_amoHeld (s : State) (f : Core → Core) : (s.updCore f).amoHeld = s.amoHeld := rfl
@[simp] theorem State.updCore_staged (s : State) (f : Core → Core) : (s.updCore f).staged = s.staged := rfl
@[simp] theorem State.updCore_publishing (s : State) (f : Core → Core) : (s.updCore f).publishing = s.publishing := rfl
@[simp] theorem State.updCore_merged (s : State) (f : Core → Core) : (s.updCore f).merged = s.merged := rfl
@[simp] theorem State.updCore_unwinding (s : State) (f : Core → Core) : (s.updCore f).unwinding = s.unwinding := rfl
@[simp] theorem State.updCore_kvReads (s : State) (f : Core → Core) : (s.updCore f).kvReads = s.kvReads := rfl
@[simp] theorem State.updCore_walks (s : State) (f : Core → Core) : (s.updCore f).walks = s.walks := rfl
@[simp] theorem State.updCore_walkOrder (s : State) (f : Core → Core) : (s.updCore f).walkOrder = s.walkOrder := rfl
@[simp] theorem State.updCore_groups (s : State) (f : Core → Core) : (s.updCore f).groups = s.groups := rfl
@[simp] theorem State.updCore_groupUpds (s : State) (f : Core → Core) : (s.updCore f).groupUpds = s.groupUpds := rfl
@[simp] theorem State.updCore_queues (s : State) (f : Core → Core) : (s.updCore f).queues = s.queues := rfl
@[simp] theorem State.updCore_queueGen (s : State) (f : Core → Core) : (s.updCore f).queueGen = s.queueGen := rfl
@[simp] theorem State.updCore_notices (s : State) (f : Core → Core) : (s.updCore f).notices = s.notices := rfl
@[simp] theorem State.updCore_launches (s : State) (f : Core → Core) : (s.updCore f).launches = s.launches := rfl
@[simp] theorem State.updCore_nextSeq (s : State) (f : Core → Core) : (s.updCore f).nextSeq = s.nextSeq := rfl
@[simp] theorem State.updCore_nextTag (s : State) (f : Core → Core) : (s.updCore f).nextTag = s.nextTag := rfl
@[simp] theorem State.updCore_lqTurn (s : State) (f : Core → Core) : (s.updCore f).lqTurn = s.lqTurn := rfl
@[simp] theorem State.updCore_images (s : State) (f : Core → Core) : (s.updCore f).images = s.images := rfl
@[simp] theorem State.updCore_ranges (s : State) (f : Core → Core) : (s.updCore f).ranges = s.ranges := rfl
@[simp] theorem State.updCore_imageWrites (s : State) (f : Core → Core) : (s.updCore f).imageWrites = s.imageWrites := rfl
@[simp] theorem State.updCore_staging (s : State) (f : Core → Core) : (s.updCore f).staging = s.staging := rfl
@[simp] theorem State.updCore_cursors (s : State) (f : Core → Core) : (s.updCore f).cursors = s.cursors := rfl
@[simp] theorem State.updCore_units (s : State) (f : Core → Core) : (s.updCore f).units = s.units := rfl
@[simp] theorem State.updCore_unitCopies (s : State) (f : Core → Core) : (s.updCore f).unitCopies = s.unitCopies := rfl
@[simp] theorem State.updCore_leaseCounter (s : State) (f : Core → Core) : (s.updCore f).leaseCounter = s.leaseCounter := rfl
@[simp] theorem State.updCore_leases (s : State) (f : Core → Core) : (s.updCore f).leases = s.leases := rfl
@[simp] theorem State.updCore_noticesDue (s : State) (f : Core → Core) : (s.updCore f).noticesDue = s.noticesDue := rfl
@[simp] theorem State.updCore_rotNext (s : State) (f : Core → Core) : (s.updCore f).rotNext = s.rotNext := rfl
@[simp] theorem State.updCore_rotAt (s : State) (f : Core → Core) : (s.updCore f).rotAt = s.rotAt := rfl
@[simp] theorem State.updCore_rotUnits (s : State) (f : Core → Core) : (s.updCore f).rotUnits = s.rotUnits := rfl
@[simp] theorem State.updCore_rotDelayed (s : State) (f : Core → Core) : (s.updCore f).rotDelayed = s.rotDelayed := rfl
@[simp] theorem State.updCore_leasePeriod (s : State) (f : Core → Core) : (s.updCore f).leasePeriod = s.leasePeriod := rfl
@[simp] theorem State.updCore_retirements (s : State) (f : Core → Core) : (s.updCore f).retirements = s.retirements := rfl
@[simp] theorem State.updCore_lifeMs (s : State) (f : Core → Core) : (s.updCore f).lifeMs = s.lifeMs := rfl
@[simp] theorem State.updCore_parts (s : State) (f : Core → Core) : (s.updCore f).parts = s.parts := rfl
@[simp] theorem State.updCore_rowOwner (s : State) (f : Core → Core) : (s.updCore f).rowOwner = s.rowOwner := rfl
@[simp] theorem State.updCore_unscrubbed (s : State) (f : Core → Core) : (s.updCore f).unscrubbed = s.unscrubbed := rfl
@[simp] theorem State.updCore_accesses (s : State) (f : Core → Core) : (s.updCore f).accesses = s.accesses := rfl
@[simp] theorem State.updCore_mgReads (s : State) (f : Core → Core) : (s.updCore f).mgReads = s.mgReads := rfl
@[simp] theorem State.updCore_endpoints (s : State) (f : Core → Core) : (s.updCore f).endpoints = s.endpoints := rfl
@[simp] theorem State.updCore_asks (s : State) (f : Core → Core) : (s.updCore f).asks = s.asks := rfl
@[simp] theorem State.updCore_sessions (s : State) (f : Core → Core) : (s.updCore f).sessions = s.sessions := rfl
@[simp] theorem State.updCore_nextSession (s : State) (f : Core → Core) : (s.updCore f).nextSession = s.nextSession := rfl
@[simp] theorem State.updCore_roots (s : State) (f : Core → Core) : (s.updCore f).roots = s.roots := rfl
@[simp] theorem State.updCore_measures (s : State) (f : Core → Core) : (s.updCore f).measures = s.measures := rfl
@[simp] theorem State.updCore_aperture (s : State) (f : Core → Core) : (s.updCore f).aperture = s.aperture := rfl
@[simp] theorem State.updCore_apertureLocked (s : State) (f : Core → Core) : (s.updCore f).apertureLocked = s.apertureLocked := rfl
@[simp] theorem State.updCore_remeas (s : State) (f : Core → Core) : (s.updCore f).remeas = s.remeas := rfl
@[simp] theorem State.updCore_wpmove (s : State) (f : Core → Core) : (s.updCore f).wpmove = s.wpmove := rfl
@[simp] theorem State.updCore_move (s : State) (f : Core → Core) : (s.updCore f).move = s.move := rfl
@[simp] theorem State.updCore_thermEvents (s : State) (f : Core → Core) : (s.updCore f).thermEvents = s.thermEvents := rfl
@[simp] theorem State.updCore_thermLim (s : State) (f : Core → Core) : (s.updCore f).thermLim = s.thermLim := rfl
@[simp] theorem State.updCore_sensors (s : State) (f : Core → Core) : (s.updCore f).sensors = s.sensors := rfl
@[simp] theorem State.updCore_thermMark (s : State) (f : Core → Core) : (s.updCore f).thermMark = s.thermMark := rfl
@[simp] theorem State.updCore_overPower (s : State) (f : Core → Core) : (s.updCore f).overPower = s.overPower := rfl
@[simp] theorem State.updCore_ports (s : State) (f : Core → Core) : (s.updCore f).ports = s.ports := rfl
@[simp] theorem State.updCore_routes (s : State) (f : Core → Core) : (s.updCore f).routes = s.routes := rfl
@[simp] theorem State.updCore_flows (s : State) (f : Core → Core) : (s.updCore f).flows = s.flows := rfl
@[simp] theorem State.updCore_flitsDue (s : State) (f : Core → Core) : (s.updCore f).flitsDue = s.flitsDue := rfl

@[simp] theorem State.setCtx_wall (s : State) (x : Ctx) : (s.setCtx x).wall = s.wall := rfl
@[simp] theorem State.setCtx_cur (s : State) (x : Ctx) : (s.setCtx x).cur = s.cur := rfl
@[simp] theorem State.setCtx_who (s : State) (x : Ctx) : (s.setCtx x).who = s.who := rfl
@[simp] theorem State.setCtx_free (s : State) (x : Ctx) : (s.setCtx x).free = s.free := rfl
@[simp] theorem State.setCtx_inbox (s : State) (x : Ctx) : (s.setCtx x).inbox = s.inbox := rfl
@[simp] theorem State.setCtx_outbox (s : State) (x : Ctx) : (s.setCtx x).outbox = s.outbox := rfl
@[simp] theorem State.setCtx_powered (s : State) (x : Ctx) : (s.setCtx x).powered = s.powered := rfl
@[simp] theorem State.setCtx_start (s : State) (x : Ctx) : (s.setCtx x).start = s.start := rfl
@[simp] theorem State.setCtx_jobs (s : State) (x : Ctx) : (s.setCtx x).jobs = s.jobs := rfl
@[simp] theorem State.setCtx_shedTurn (s : State) (x : Ctx) : (s.setCtx x).shedTurn = s.shedTurn := rfl
@[simp] theorem State.setCtx_rowFailures (s : State) (x : Ctx) : (s.setCtx x).rowFailures = s.rowFailures := rfl
@[simp] theorem State.setCtx_upsets (s : State) (x : Ctx) : (s.setCtx x).upsets = s.upsets := rfl
@[simp] theorem State.setCtx_gmem (s : State) (x : Ctx) : (s.setCtx x).gmem = s.gmem := rfl
@[simp] theorem State.setCtx_gpoison (s : State) (x : Ctx) : (s.setCtx x).gpoison = s.gpoison := rfl
@[simp] theorem State.setCtx_hmem (s : State) (x : Ctx) : (s.setCtx x).hmem = s.hmem := rfl
@[simp] theorem State.setCtx_hpoison (s : State) (x : Ctx) : (s.setCtx x).hpoison = s.hpoison := rfl
@[simp] theorem State.setCtx_amoHeld (s : State) (x : Ctx) : (s.setCtx x).amoHeld = s.amoHeld := rfl
@[simp] theorem State.setCtx_staged (s : State) (x : Ctx) : (s.setCtx x).staged = s.staged := rfl
@[simp] theorem State.setCtx_publishing (s : State) (x : Ctx) : (s.setCtx x).publishing = s.publishing := rfl
@[simp] theorem State.setCtx_merged (s : State) (x : Ctx) : (s.setCtx x).merged = s.merged := rfl
@[simp] theorem State.setCtx_unwinding (s : State) (x : Ctx) : (s.setCtx x).unwinding = s.unwinding := rfl
@[simp] theorem State.setCtx_kvReads (s : State) (x : Ctx) : (s.setCtx x).kvReads = s.kvReads := rfl
@[simp] theorem State.setCtx_walks (s : State) (x : Ctx) : (s.setCtx x).walks = s.walks := rfl
@[simp] theorem State.setCtx_walkOrder (s : State) (x : Ctx) : (s.setCtx x).walkOrder = s.walkOrder := rfl
@[simp] theorem State.setCtx_groups (s : State) (x : Ctx) : (s.setCtx x).groups = s.groups := rfl
@[simp] theorem State.setCtx_groupUpds (s : State) (x : Ctx) : (s.setCtx x).groupUpds = s.groupUpds := rfl
@[simp] theorem State.setCtx_queues (s : State) (x : Ctx) : (s.setCtx x).queues = s.queues := rfl
@[simp] theorem State.setCtx_queueGen (s : State) (x : Ctx) : (s.setCtx x).queueGen = s.queueGen := rfl
@[simp] theorem State.setCtx_notices (s : State) (x : Ctx) : (s.setCtx x).notices = s.notices := rfl
@[simp] theorem State.setCtx_launches (s : State) (x : Ctx) : (s.setCtx x).launches = s.launches := rfl
@[simp] theorem State.setCtx_nextSeq (s : State) (x : Ctx) : (s.setCtx x).nextSeq = s.nextSeq := rfl
@[simp] theorem State.setCtx_nextTag (s : State) (x : Ctx) : (s.setCtx x).nextTag = s.nextTag := rfl
@[simp] theorem State.setCtx_lqTurn (s : State) (x : Ctx) : (s.setCtx x).lqTurn = s.lqTurn := rfl
@[simp] theorem State.setCtx_images (s : State) (x : Ctx) : (s.setCtx x).images = s.images := rfl
@[simp] theorem State.setCtx_ranges (s : State) (x : Ctx) : (s.setCtx x).ranges = s.ranges := rfl
@[simp] theorem State.setCtx_imageWrites (s : State) (x : Ctx) : (s.setCtx x).imageWrites = s.imageWrites := rfl
@[simp] theorem State.setCtx_staging (s : State) (x : Ctx) : (s.setCtx x).staging = s.staging := rfl
@[simp] theorem State.setCtx_cursors (s : State) (x : Ctx) : (s.setCtx x).cursors = s.cursors := rfl
@[simp] theorem State.setCtx_units (s : State) (x : Ctx) : (s.setCtx x).units = s.units := rfl
@[simp] theorem State.setCtx_unitCopies (s : State) (x : Ctx) : (s.setCtx x).unitCopies = s.unitCopies := rfl
@[simp] theorem State.setCtx_leaseCounter (s : State) (x : Ctx) : (s.setCtx x).leaseCounter = s.leaseCounter := rfl
@[simp] theorem State.setCtx_leases (s : State) (x : Ctx) : (s.setCtx x).leases = s.leases := rfl
@[simp] theorem State.setCtx_noticesDue (s : State) (x : Ctx) : (s.setCtx x).noticesDue = s.noticesDue := rfl
@[simp] theorem State.setCtx_rotNext (s : State) (x : Ctx) : (s.setCtx x).rotNext = s.rotNext := rfl
@[simp] theorem State.setCtx_rotAt (s : State) (x : Ctx) : (s.setCtx x).rotAt = s.rotAt := rfl
@[simp] theorem State.setCtx_rotUnits (s : State) (x : Ctx) : (s.setCtx x).rotUnits = s.rotUnits := rfl
@[simp] theorem State.setCtx_rotDelayed (s : State) (x : Ctx) : (s.setCtx x).rotDelayed = s.rotDelayed := rfl
@[simp] theorem State.setCtx_leasePeriod (s : State) (x : Ctx) : (s.setCtx x).leasePeriod = s.leasePeriod := rfl
@[simp] theorem State.setCtx_retirements (s : State) (x : Ctx) : (s.setCtx x).retirements = s.retirements := rfl
@[simp] theorem State.setCtx_lifeMs (s : State) (x : Ctx) : (s.setCtx x).lifeMs = s.lifeMs := rfl
@[simp] theorem State.setCtx_parts (s : State) (x : Ctx) : (s.setCtx x).parts = s.parts := rfl
@[simp] theorem State.setCtx_rowOwner (s : State) (x : Ctx) : (s.setCtx x).rowOwner = s.rowOwner := rfl
@[simp] theorem State.setCtx_unscrubbed (s : State) (x : Ctx) : (s.setCtx x).unscrubbed = s.unscrubbed := rfl
@[simp] theorem State.setCtx_accesses (s : State) (x : Ctx) : (s.setCtx x).accesses = s.accesses := rfl
@[simp] theorem State.setCtx_mgReads (s : State) (x : Ctx) : (s.setCtx x).mgReads = s.mgReads := rfl
@[simp] theorem State.setCtx_endpoints (s : State) (x : Ctx) : (s.setCtx x).endpoints = s.endpoints := rfl
@[simp] theorem State.setCtx_asks (s : State) (x : Ctx) : (s.setCtx x).asks = s.asks := rfl
@[simp] theorem State.setCtx_sessions (s : State) (x : Ctx) : (s.setCtx x).sessions = s.sessions := rfl
@[simp] theorem State.setCtx_nextSession (s : State) (x : Ctx) : (s.setCtx x).nextSession = s.nextSession := rfl
@[simp] theorem State.setCtx_roots (s : State) (x : Ctx) : (s.setCtx x).roots = s.roots := rfl
@[simp] theorem State.setCtx_measures (s : State) (x : Ctx) : (s.setCtx x).measures = s.measures := rfl
@[simp] theorem State.setCtx_aperture (s : State) (x : Ctx) : (s.setCtx x).aperture = s.aperture := rfl
@[simp] theorem State.setCtx_apertureLocked (s : State) (x : Ctx) : (s.setCtx x).apertureLocked = s.apertureLocked := rfl
@[simp] theorem State.setCtx_remeas (s : State) (x : Ctx) : (s.setCtx x).remeas = s.remeas := rfl
@[simp] theorem State.setCtx_wpmove (s : State) (x : Ctx) : (s.setCtx x).wpmove = s.wpmove := rfl
@[simp] theorem State.setCtx_move (s : State) (x : Ctx) : (s.setCtx x).move = s.move := rfl
@[simp] theorem State.setCtx_thermEvents (s : State) (x : Ctx) : (s.setCtx x).thermEvents = s.thermEvents := rfl
@[simp] theorem State.setCtx_thermLim (s : State) (x : Ctx) : (s.setCtx x).thermLim = s.thermLim := rfl
@[simp] theorem State.setCtx_sensors (s : State) (x : Ctx) : (s.setCtx x).sensors = s.sensors := rfl
@[simp] theorem State.setCtx_thermMark (s : State) (x : Ctx) : (s.setCtx x).thermMark = s.thermMark := rfl
@[simp] theorem State.setCtx_overPower (s : State) (x : Ctx) : (s.setCtx x).overPower = s.overPower := rfl
@[simp] theorem State.setCtx_ports (s : State) (x : Ctx) : (s.setCtx x).ports = s.ports := rfl
@[simp] theorem State.setCtx_routes (s : State) (x : Ctx) : (s.setCtx x).routes = s.routes := rfl
@[simp] theorem State.setCtx_flows (s : State) (x : Ctx) : (s.setCtx x).flows = s.flows := rfl
@[simp] theorem State.setCtx_flitsDue (s : State) (x : Ctx) : (s.setCtx x).flitsDue = s.flitsDue := rfl

@[simp] theorem State.updCtx_wall (s : State) (f : Ctx → Ctx) : (s.updCtx f).wall = s.wall := rfl
@[simp] theorem State.updCtx_cur (s : State) (f : Ctx → Ctx) : (s.updCtx f).cur = s.cur := rfl
@[simp] theorem State.updCtx_who (s : State) (f : Ctx → Ctx) : (s.updCtx f).who = s.who := rfl
@[simp] theorem State.updCtx_free (s : State) (f : Ctx → Ctx) : (s.updCtx f).free = s.free := rfl
@[simp] theorem State.updCtx_inbox (s : State) (f : Ctx → Ctx) : (s.updCtx f).inbox = s.inbox := rfl
@[simp] theorem State.updCtx_outbox (s : State) (f : Ctx → Ctx) : (s.updCtx f).outbox = s.outbox := rfl
@[simp] theorem State.updCtx_powered (s : State) (f : Ctx → Ctx) : (s.updCtx f).powered = s.powered := rfl
@[simp] theorem State.updCtx_start (s : State) (f : Ctx → Ctx) : (s.updCtx f).start = s.start := rfl
@[simp] theorem State.updCtx_jobs (s : State) (f : Ctx → Ctx) : (s.updCtx f).jobs = s.jobs := rfl
@[simp] theorem State.updCtx_shedTurn (s : State) (f : Ctx → Ctx) : (s.updCtx f).shedTurn = s.shedTurn := rfl
@[simp] theorem State.updCtx_rowFailures (s : State) (f : Ctx → Ctx) : (s.updCtx f).rowFailures = s.rowFailures := rfl
@[simp] theorem State.updCtx_upsets (s : State) (f : Ctx → Ctx) : (s.updCtx f).upsets = s.upsets := rfl
@[simp] theorem State.updCtx_gmem (s : State) (f : Ctx → Ctx) : (s.updCtx f).gmem = s.gmem := rfl
@[simp] theorem State.updCtx_gpoison (s : State) (f : Ctx → Ctx) : (s.updCtx f).gpoison = s.gpoison := rfl
@[simp] theorem State.updCtx_hmem (s : State) (f : Ctx → Ctx) : (s.updCtx f).hmem = s.hmem := rfl
@[simp] theorem State.updCtx_hpoison (s : State) (f : Ctx → Ctx) : (s.updCtx f).hpoison = s.hpoison := rfl
@[simp] theorem State.updCtx_amoHeld (s : State) (f : Ctx → Ctx) : (s.updCtx f).amoHeld = s.amoHeld := rfl
@[simp] theorem State.updCtx_staged (s : State) (f : Ctx → Ctx) : (s.updCtx f).staged = s.staged := rfl
@[simp] theorem State.updCtx_publishing (s : State) (f : Ctx → Ctx) : (s.updCtx f).publishing = s.publishing := rfl
@[simp] theorem State.updCtx_merged (s : State) (f : Ctx → Ctx) : (s.updCtx f).merged = s.merged := rfl
@[simp] theorem State.updCtx_unwinding (s : State) (f : Ctx → Ctx) : (s.updCtx f).unwinding = s.unwinding := rfl
@[simp] theorem State.updCtx_kvReads (s : State) (f : Ctx → Ctx) : (s.updCtx f).kvReads = s.kvReads := rfl
@[simp] theorem State.updCtx_walks (s : State) (f : Ctx → Ctx) : (s.updCtx f).walks = s.walks := rfl
@[simp] theorem State.updCtx_walkOrder (s : State) (f : Ctx → Ctx) : (s.updCtx f).walkOrder = s.walkOrder := rfl
@[simp] theorem State.updCtx_groups (s : State) (f : Ctx → Ctx) : (s.updCtx f).groups = s.groups := rfl
@[simp] theorem State.updCtx_groupUpds (s : State) (f : Ctx → Ctx) : (s.updCtx f).groupUpds = s.groupUpds := rfl
@[simp] theorem State.updCtx_queues (s : State) (f : Ctx → Ctx) : (s.updCtx f).queues = s.queues := rfl
@[simp] theorem State.updCtx_queueGen (s : State) (f : Ctx → Ctx) : (s.updCtx f).queueGen = s.queueGen := rfl
@[simp] theorem State.updCtx_notices (s : State) (f : Ctx → Ctx) : (s.updCtx f).notices = s.notices := rfl
@[simp] theorem State.updCtx_launches (s : State) (f : Ctx → Ctx) : (s.updCtx f).launches = s.launches := rfl
@[simp] theorem State.updCtx_nextSeq (s : State) (f : Ctx → Ctx) : (s.updCtx f).nextSeq = s.nextSeq := rfl
@[simp] theorem State.updCtx_nextTag (s : State) (f : Ctx → Ctx) : (s.updCtx f).nextTag = s.nextTag := rfl
@[simp] theorem State.updCtx_lqTurn (s : State) (f : Ctx → Ctx) : (s.updCtx f).lqTurn = s.lqTurn := rfl
@[simp] theorem State.updCtx_images (s : State) (f : Ctx → Ctx) : (s.updCtx f).images = s.images := rfl
@[simp] theorem State.updCtx_ranges (s : State) (f : Ctx → Ctx) : (s.updCtx f).ranges = s.ranges := rfl
@[simp] theorem State.updCtx_imageWrites (s : State) (f : Ctx → Ctx) : (s.updCtx f).imageWrites = s.imageWrites := rfl
@[simp] theorem State.updCtx_staging (s : State) (f : Ctx → Ctx) : (s.updCtx f).staging = s.staging := rfl
@[simp] theorem State.updCtx_cursors (s : State) (f : Ctx → Ctx) : (s.updCtx f).cursors = s.cursors := rfl
@[simp] theorem State.updCtx_units (s : State) (f : Ctx → Ctx) : (s.updCtx f).units = s.units := rfl
@[simp] theorem State.updCtx_unitCopies (s : State) (f : Ctx → Ctx) : (s.updCtx f).unitCopies = s.unitCopies := rfl
@[simp] theorem State.updCtx_leaseCounter (s : State) (f : Ctx → Ctx) : (s.updCtx f).leaseCounter = s.leaseCounter := rfl
@[simp] theorem State.updCtx_leases (s : State) (f : Ctx → Ctx) : (s.updCtx f).leases = s.leases := rfl
@[simp] theorem State.updCtx_noticesDue (s : State) (f : Ctx → Ctx) : (s.updCtx f).noticesDue = s.noticesDue := rfl
@[simp] theorem State.updCtx_rotNext (s : State) (f : Ctx → Ctx) : (s.updCtx f).rotNext = s.rotNext := rfl
@[simp] theorem State.updCtx_rotAt (s : State) (f : Ctx → Ctx) : (s.updCtx f).rotAt = s.rotAt := rfl
@[simp] theorem State.updCtx_rotUnits (s : State) (f : Ctx → Ctx) : (s.updCtx f).rotUnits = s.rotUnits := rfl
@[simp] theorem State.updCtx_rotDelayed (s : State) (f : Ctx → Ctx) : (s.updCtx f).rotDelayed = s.rotDelayed := rfl
@[simp] theorem State.updCtx_leasePeriod (s : State) (f : Ctx → Ctx) : (s.updCtx f).leasePeriod = s.leasePeriod := rfl
@[simp] theorem State.updCtx_retirements (s : State) (f : Ctx → Ctx) : (s.updCtx f).retirements = s.retirements := rfl
@[simp] theorem State.updCtx_lifeMs (s : State) (f : Ctx → Ctx) : (s.updCtx f).lifeMs = s.lifeMs := rfl
@[simp] theorem State.updCtx_parts (s : State) (f : Ctx → Ctx) : (s.updCtx f).parts = s.parts := rfl
@[simp] theorem State.updCtx_rowOwner (s : State) (f : Ctx → Ctx) : (s.updCtx f).rowOwner = s.rowOwner := rfl
@[simp] theorem State.updCtx_unscrubbed (s : State) (f : Ctx → Ctx) : (s.updCtx f).unscrubbed = s.unscrubbed := rfl
@[simp] theorem State.updCtx_accesses (s : State) (f : Ctx → Ctx) : (s.updCtx f).accesses = s.accesses := rfl
@[simp] theorem State.updCtx_mgReads (s : State) (f : Ctx → Ctx) : (s.updCtx f).mgReads = s.mgReads := rfl
@[simp] theorem State.updCtx_endpoints (s : State) (f : Ctx → Ctx) : (s.updCtx f).endpoints = s.endpoints := rfl
@[simp] theorem State.updCtx_asks (s : State) (f : Ctx → Ctx) : (s.updCtx f).asks = s.asks := rfl
@[simp] theorem State.updCtx_sessions (s : State) (f : Ctx → Ctx) : (s.updCtx f).sessions = s.sessions := rfl
@[simp] theorem State.updCtx_nextSession (s : State) (f : Ctx → Ctx) : (s.updCtx f).nextSession = s.nextSession := rfl
@[simp] theorem State.updCtx_roots (s : State) (f : Ctx → Ctx) : (s.updCtx f).roots = s.roots := rfl
@[simp] theorem State.updCtx_measures (s : State) (f : Ctx → Ctx) : (s.updCtx f).measures = s.measures := rfl
@[simp] theorem State.updCtx_aperture (s : State) (f : Ctx → Ctx) : (s.updCtx f).aperture = s.aperture := rfl
@[simp] theorem State.updCtx_apertureLocked (s : State) (f : Ctx → Ctx) : (s.updCtx f).apertureLocked = s.apertureLocked := rfl
@[simp] theorem State.updCtx_remeas (s : State) (f : Ctx → Ctx) : (s.updCtx f).remeas = s.remeas := rfl
@[simp] theorem State.updCtx_wpmove (s : State) (f : Ctx → Ctx) : (s.updCtx f).wpmove = s.wpmove := rfl
@[simp] theorem State.updCtx_move (s : State) (f : Ctx → Ctx) : (s.updCtx f).move = s.move := rfl
@[simp] theorem State.updCtx_thermEvents (s : State) (f : Ctx → Ctx) : (s.updCtx f).thermEvents = s.thermEvents := rfl
@[simp] theorem State.updCtx_thermLim (s : State) (f : Ctx → Ctx) : (s.updCtx f).thermLim = s.thermLim := rfl
@[simp] theorem State.updCtx_sensors (s : State) (f : Ctx → Ctx) : (s.updCtx f).sensors = s.sensors := rfl
@[simp] theorem State.updCtx_thermMark (s : State) (f : Ctx → Ctx) : (s.updCtx f).thermMark = s.thermMark := rfl
@[simp] theorem State.updCtx_overPower (s : State) (f : Ctx → Ctx) : (s.updCtx f).overPower = s.overPower := rfl
@[simp] theorem State.updCtx_ports (s : State) (f : Ctx → Ctx) : (s.updCtx f).ports = s.ports := rfl
@[simp] theorem State.updCtx_routes (s : State) (f : Ctx → Ctx) : (s.updCtx f).routes = s.routes := rfl
@[simp] theorem State.updCtx_flows (s : State) (f : Ctx → Ctx) : (s.updCtx f).flows = s.flows := rfl
@[simp] theorem State.updCtx_flitsDue (s : State) (f : Ctx → Ctx) : (s.updCtx f).flitsDue = s.flitsDue := rfl

@[simp] theorem State.emit_wall (s : State) (lat : Nat) (w : List RegWrite) (fl : FpFlags) (p : Bool) : (s.emit lat w fl p).wall = s.wall := rfl
@[simp] theorem State.emit_cur (s : State) (lat : Nat) (w : List RegWrite) (fl : FpFlags) (p : Bool) : (s.emit lat w fl p).cur = s.cur := rfl
@[simp] theorem State.emit_who (s : State) (lat : Nat) (w : List RegWrite) (fl : FpFlags) (p : Bool) : (s.emit lat w fl p).who = s.who := rfl
@[simp] theorem State.emit_free (s : State) (lat : Nat) (w : List RegWrite) (fl : FpFlags) (p : Bool) : (s.emit lat w fl p).free = s.free := rfl
@[simp] theorem State.emit_inbox (s : State) (lat : Nat) (w : List RegWrite) (fl : FpFlags) (p : Bool) : (s.emit lat w fl p).inbox = s.inbox := rfl
@[simp] theorem State.emit_outbox (s : State) (lat : Nat) (w : List RegWrite) (fl : FpFlags) (p : Bool) : (s.emit lat w fl p).outbox = s.outbox := rfl
@[simp] theorem State.emit_powered (s : State) (lat : Nat) (w : List RegWrite) (fl : FpFlags) (p : Bool) : (s.emit lat w fl p).powered = s.powered := rfl
@[simp] theorem State.emit_start (s : State) (lat : Nat) (w : List RegWrite) (fl : FpFlags) (p : Bool) : (s.emit lat w fl p).start = s.start := rfl
@[simp] theorem State.emit_jobs (s : State) (lat : Nat) (w : List RegWrite) (fl : FpFlags) (p : Bool) : (s.emit lat w fl p).jobs = s.jobs := rfl
@[simp] theorem State.emit_shedTurn (s : State) (lat : Nat) (w : List RegWrite) (fl : FpFlags) (p : Bool) : (s.emit lat w fl p).shedTurn = s.shedTurn := rfl
@[simp] theorem State.emit_rowFailures (s : State) (lat : Nat) (w : List RegWrite) (fl : FpFlags) (p : Bool) : (s.emit lat w fl p).rowFailures = s.rowFailures := rfl
@[simp] theorem State.emit_upsets (s : State) (lat : Nat) (w : List RegWrite) (fl : FpFlags) (p : Bool) : (s.emit lat w fl p).upsets = s.upsets := rfl
@[simp] theorem State.emit_gmem (s : State) (lat : Nat) (w : List RegWrite) (fl : FpFlags) (p : Bool) : (s.emit lat w fl p).gmem = s.gmem := rfl
@[simp] theorem State.emit_gpoison (s : State) (lat : Nat) (w : List RegWrite) (fl : FpFlags) (p : Bool) : (s.emit lat w fl p).gpoison = s.gpoison := rfl
@[simp] theorem State.emit_hmem (s : State) (lat : Nat) (w : List RegWrite) (fl : FpFlags) (p : Bool) : (s.emit lat w fl p).hmem = s.hmem := rfl
@[simp] theorem State.emit_hpoison (s : State) (lat : Nat) (w : List RegWrite) (fl : FpFlags) (p : Bool) : (s.emit lat w fl p).hpoison = s.hpoison := rfl
@[simp] theorem State.emit_amoHeld (s : State) (lat : Nat) (w : List RegWrite) (fl : FpFlags) (p : Bool) : (s.emit lat w fl p).amoHeld = s.amoHeld := rfl
@[simp] theorem State.emit_staged (s : State) (lat : Nat) (w : List RegWrite) (fl : FpFlags) (p : Bool) : (s.emit lat w fl p).staged = s.staged := rfl
@[simp] theorem State.emit_publishing (s : State) (lat : Nat) (w : List RegWrite) (fl : FpFlags) (p : Bool) : (s.emit lat w fl p).publishing = s.publishing := rfl
@[simp] theorem State.emit_merged (s : State) (lat : Nat) (w : List RegWrite) (fl : FpFlags) (p : Bool) : (s.emit lat w fl p).merged = s.merged := rfl
@[simp] theorem State.emit_unwinding (s : State) (lat : Nat) (w : List RegWrite) (fl : FpFlags) (p : Bool) : (s.emit lat w fl p).unwinding = s.unwinding := rfl
@[simp] theorem State.emit_kvReads (s : State) (lat : Nat) (w : List RegWrite) (fl : FpFlags) (p : Bool) : (s.emit lat w fl p).kvReads = s.kvReads := rfl
@[simp] theorem State.emit_walks (s : State) (lat : Nat) (w : List RegWrite) (fl : FpFlags) (p : Bool) : (s.emit lat w fl p).walks = s.walks := rfl
@[simp] theorem State.emit_walkOrder (s : State) (lat : Nat) (w : List RegWrite) (fl : FpFlags) (p : Bool) : (s.emit lat w fl p).walkOrder = s.walkOrder := rfl
@[simp] theorem State.emit_groups (s : State) (lat : Nat) (w : List RegWrite) (fl : FpFlags) (p : Bool) : (s.emit lat w fl p).groups = s.groups := rfl
@[simp] theorem State.emit_groupUpds (s : State) (lat : Nat) (w : List RegWrite) (fl : FpFlags) (p : Bool) : (s.emit lat w fl p).groupUpds = s.groupUpds := rfl
@[simp] theorem State.emit_queues (s : State) (lat : Nat) (w : List RegWrite) (fl : FpFlags) (p : Bool) : (s.emit lat w fl p).queues = s.queues := rfl
@[simp] theorem State.emit_queueGen (s : State) (lat : Nat) (w : List RegWrite) (fl : FpFlags) (p : Bool) : (s.emit lat w fl p).queueGen = s.queueGen := rfl
@[simp] theorem State.emit_notices (s : State) (lat : Nat) (w : List RegWrite) (fl : FpFlags) (p : Bool) : (s.emit lat w fl p).notices = s.notices := rfl
@[simp] theorem State.emit_launches (s : State) (lat : Nat) (w : List RegWrite) (fl : FpFlags) (p : Bool) : (s.emit lat w fl p).launches = s.launches := rfl
@[simp] theorem State.emit_nextSeq (s : State) (lat : Nat) (w : List RegWrite) (fl : FpFlags) (p : Bool) : (s.emit lat w fl p).nextSeq = s.nextSeq := rfl
@[simp] theorem State.emit_nextTag (s : State) (lat : Nat) (w : List RegWrite) (fl : FpFlags) (p : Bool) : (s.emit lat w fl p).nextTag = s.nextTag := rfl
@[simp] theorem State.emit_lqTurn (s : State) (lat : Nat) (w : List RegWrite) (fl : FpFlags) (p : Bool) : (s.emit lat w fl p).lqTurn = s.lqTurn := rfl
@[simp] theorem State.emit_images (s : State) (lat : Nat) (w : List RegWrite) (fl : FpFlags) (p : Bool) : (s.emit lat w fl p).images = s.images := rfl
@[simp] theorem State.emit_ranges (s : State) (lat : Nat) (w : List RegWrite) (fl : FpFlags) (p : Bool) : (s.emit lat w fl p).ranges = s.ranges := rfl
@[simp] theorem State.emit_imageWrites (s : State) (lat : Nat) (w : List RegWrite) (fl : FpFlags) (p : Bool) : (s.emit lat w fl p).imageWrites = s.imageWrites := rfl
@[simp] theorem State.emit_staging (s : State) (lat : Nat) (w : List RegWrite) (fl : FpFlags) (p : Bool) : (s.emit lat w fl p).staging = s.staging := rfl
@[simp] theorem State.emit_cursors (s : State) (lat : Nat) (w : List RegWrite) (fl : FpFlags) (p : Bool) : (s.emit lat w fl p).cursors = s.cursors := rfl
@[simp] theorem State.emit_units (s : State) (lat : Nat) (w : List RegWrite) (fl : FpFlags) (p : Bool) : (s.emit lat w fl p).units = s.units := rfl
@[simp] theorem State.emit_unitCopies (s : State) (lat : Nat) (w : List RegWrite) (fl : FpFlags) (p : Bool) : (s.emit lat w fl p).unitCopies = s.unitCopies := rfl
@[simp] theorem State.emit_leaseCounter (s : State) (lat : Nat) (w : List RegWrite) (fl : FpFlags) (p : Bool) : (s.emit lat w fl p).leaseCounter = s.leaseCounter := rfl
@[simp] theorem State.emit_leases (s : State) (lat : Nat) (w : List RegWrite) (fl : FpFlags) (p : Bool) : (s.emit lat w fl p).leases = s.leases := rfl
@[simp] theorem State.emit_noticesDue (s : State) (lat : Nat) (w : List RegWrite) (fl : FpFlags) (p : Bool) : (s.emit lat w fl p).noticesDue = s.noticesDue := rfl
@[simp] theorem State.emit_rotNext (s : State) (lat : Nat) (w : List RegWrite) (fl : FpFlags) (p : Bool) : (s.emit lat w fl p).rotNext = s.rotNext := rfl
@[simp] theorem State.emit_rotAt (s : State) (lat : Nat) (w : List RegWrite) (fl : FpFlags) (p : Bool) : (s.emit lat w fl p).rotAt = s.rotAt := rfl
@[simp] theorem State.emit_rotUnits (s : State) (lat : Nat) (w : List RegWrite) (fl : FpFlags) (p : Bool) : (s.emit lat w fl p).rotUnits = s.rotUnits := rfl
@[simp] theorem State.emit_rotDelayed (s : State) (lat : Nat) (w : List RegWrite) (fl : FpFlags) (p : Bool) : (s.emit lat w fl p).rotDelayed = s.rotDelayed := rfl
@[simp] theorem State.emit_leasePeriod (s : State) (lat : Nat) (w : List RegWrite) (fl : FpFlags) (p : Bool) : (s.emit lat w fl p).leasePeriod = s.leasePeriod := rfl
@[simp] theorem State.emit_retirements (s : State) (lat : Nat) (w : List RegWrite) (fl : FpFlags) (p : Bool) : (s.emit lat w fl p).retirements = s.retirements := rfl
@[simp] theorem State.emit_lifeMs (s : State) (lat : Nat) (w : List RegWrite) (fl : FpFlags) (p : Bool) : (s.emit lat w fl p).lifeMs = s.lifeMs := rfl
@[simp] theorem State.emit_parts (s : State) (lat : Nat) (w : List RegWrite) (fl : FpFlags) (p : Bool) : (s.emit lat w fl p).parts = s.parts := rfl
@[simp] theorem State.emit_rowOwner (s : State) (lat : Nat) (w : List RegWrite) (fl : FpFlags) (p : Bool) : (s.emit lat w fl p).rowOwner = s.rowOwner := rfl
@[simp] theorem State.emit_unscrubbed (s : State) (lat : Nat) (w : List RegWrite) (fl : FpFlags) (p : Bool) : (s.emit lat w fl p).unscrubbed = s.unscrubbed := rfl
@[simp] theorem State.emit_accesses (s : State) (lat : Nat) (w : List RegWrite) (fl : FpFlags) (p : Bool) : (s.emit lat w fl p).accesses = s.accesses := rfl
@[simp] theorem State.emit_mgReads (s : State) (lat : Nat) (w : List RegWrite) (fl : FpFlags) (p : Bool) : (s.emit lat w fl p).mgReads = s.mgReads := rfl
@[simp] theorem State.emit_endpoints (s : State) (lat : Nat) (w : List RegWrite) (fl : FpFlags) (p : Bool) : (s.emit lat w fl p).endpoints = s.endpoints := rfl
@[simp] theorem State.emit_asks (s : State) (lat : Nat) (w : List RegWrite) (fl : FpFlags) (p : Bool) : (s.emit lat w fl p).asks = s.asks := rfl
@[simp] theorem State.emit_sessions (s : State) (lat : Nat) (w : List RegWrite) (fl : FpFlags) (p : Bool) : (s.emit lat w fl p).sessions = s.sessions := rfl
@[simp] theorem State.emit_nextSession (s : State) (lat : Nat) (w : List RegWrite) (fl : FpFlags) (p : Bool) : (s.emit lat w fl p).nextSession = s.nextSession := rfl
@[simp] theorem State.emit_roots (s : State) (lat : Nat) (w : List RegWrite) (fl : FpFlags) (p : Bool) : (s.emit lat w fl p).roots = s.roots := rfl
@[simp] theorem State.emit_measures (s : State) (lat : Nat) (w : List RegWrite) (fl : FpFlags) (p : Bool) : (s.emit lat w fl p).measures = s.measures := rfl
@[simp] theorem State.emit_aperture (s : State) (lat : Nat) (w : List RegWrite) (fl : FpFlags) (p : Bool) : (s.emit lat w fl p).aperture = s.aperture := rfl
@[simp] theorem State.emit_apertureLocked (s : State) (lat : Nat) (w : List RegWrite) (fl : FpFlags) (p : Bool) : (s.emit lat w fl p).apertureLocked = s.apertureLocked := rfl
@[simp] theorem State.emit_remeas (s : State) (lat : Nat) (w : List RegWrite) (fl : FpFlags) (p : Bool) : (s.emit lat w fl p).remeas = s.remeas := rfl
@[simp] theorem State.emit_wpmove (s : State) (lat : Nat) (w : List RegWrite) (fl : FpFlags) (p : Bool) : (s.emit lat w fl p).wpmove = s.wpmove := rfl
@[simp] theorem State.emit_move (s : State) (lat : Nat) (w : List RegWrite) (fl : FpFlags) (p : Bool) : (s.emit lat w fl p).move = s.move := rfl
@[simp] theorem State.emit_thermEvents (s : State) (lat : Nat) (w : List RegWrite) (fl : FpFlags) (p : Bool) : (s.emit lat w fl p).thermEvents = s.thermEvents := rfl
@[simp] theorem State.emit_thermLim (s : State) (lat : Nat) (w : List RegWrite) (fl : FpFlags) (p : Bool) : (s.emit lat w fl p).thermLim = s.thermLim := rfl
@[simp] theorem State.emit_sensors (s : State) (lat : Nat) (w : List RegWrite) (fl : FpFlags) (p : Bool) : (s.emit lat w fl p).sensors = s.sensors := rfl
@[simp] theorem State.emit_thermMark (s : State) (lat : Nat) (w : List RegWrite) (fl : FpFlags) (p : Bool) : (s.emit lat w fl p).thermMark = s.thermMark := rfl
@[simp] theorem State.emit_overPower (s : State) (lat : Nat) (w : List RegWrite) (fl : FpFlags) (p : Bool) : (s.emit lat w fl p).overPower = s.overPower := rfl
@[simp] theorem State.emit_ports (s : State) (lat : Nat) (w : List RegWrite) (fl : FpFlags) (p : Bool) : (s.emit lat w fl p).ports = s.ports := rfl
@[simp] theorem State.emit_routes (s : State) (lat : Nat) (w : List RegWrite) (fl : FpFlags) (p : Bool) : (s.emit lat w fl p).routes = s.routes := rfl
@[simp] theorem State.emit_flows (s : State) (lat : Nat) (w : List RegWrite) (fl : FpFlags) (p : Bool) : (s.emit lat w fl p).flows = s.flows := rfl
@[simp] theorem State.emit_flitsDue (s : State) (lat : Nat) (w : List RegWrite) (fl : FpFlags) (p : Bool) : (s.emit lat w fl p).flitsDue = s.flitsDue := rfl

@[simp] theorem State.setUnit_wall (s : State) (i : Nat) (u : HealthUnit) : (s.setUnit i u).wall = s.wall := rfl
@[simp] theorem State.setUnit_cores (s : State) (i : Nat) (u : HealthUnit) : (s.setUnit i u).cores = s.cores := rfl
@[simp] theorem State.setUnit_cur (s : State) (i : Nat) (u : HealthUnit) : (s.setUnit i u).cur = s.cur := rfl
@[simp] theorem State.setUnit_who (s : State) (i : Nat) (u : HealthUnit) : (s.setUnit i u).who = s.who := rfl
@[simp] theorem State.setUnit_free (s : State) (i : Nat) (u : HealthUnit) : (s.setUnit i u).free = s.free := rfl
@[simp] theorem State.setUnit_inbox (s : State) (i : Nat) (u : HealthUnit) : (s.setUnit i u).inbox = s.inbox := rfl
@[simp] theorem State.setUnit_outbox (s : State) (i : Nat) (u : HealthUnit) : (s.setUnit i u).outbox = s.outbox := rfl
@[simp] theorem State.setUnit_powered (s : State) (i : Nat) (u : HealthUnit) : (s.setUnit i u).powered = s.powered := rfl
@[simp] theorem State.setUnit_start (s : State) (i : Nat) (u : HealthUnit) : (s.setUnit i u).start = s.start := rfl
@[simp] theorem State.setUnit_jobs (s : State) (i : Nat) (u : HealthUnit) : (s.setUnit i u).jobs = s.jobs := rfl
@[simp] theorem State.setUnit_shedTurn (s : State) (i : Nat) (u : HealthUnit) : (s.setUnit i u).shedTurn = s.shedTurn := rfl
@[simp] theorem State.setUnit_rowFailures (s : State) (i : Nat) (u : HealthUnit) : (s.setUnit i u).rowFailures = s.rowFailures := rfl
@[simp] theorem State.setUnit_upsets (s : State) (i : Nat) (u : HealthUnit) : (s.setUnit i u).upsets = s.upsets := rfl
@[simp] theorem State.setUnit_gmem (s : State) (i : Nat) (u : HealthUnit) : (s.setUnit i u).gmem = s.gmem := rfl
@[simp] theorem State.setUnit_gpoison (s : State) (i : Nat) (u : HealthUnit) : (s.setUnit i u).gpoison = s.gpoison := rfl
@[simp] theorem State.setUnit_hmem (s : State) (i : Nat) (u : HealthUnit) : (s.setUnit i u).hmem = s.hmem := rfl
@[simp] theorem State.setUnit_hpoison (s : State) (i : Nat) (u : HealthUnit) : (s.setUnit i u).hpoison = s.hpoison := rfl
@[simp] theorem State.setUnit_amoHeld (s : State) (i : Nat) (u : HealthUnit) : (s.setUnit i u).amoHeld = s.amoHeld := rfl
@[simp] theorem State.setUnit_staged (s : State) (i : Nat) (u : HealthUnit) : (s.setUnit i u).staged = s.staged := rfl
@[simp] theorem State.setUnit_publishing (s : State) (i : Nat) (u : HealthUnit) : (s.setUnit i u).publishing = s.publishing := rfl
@[simp] theorem State.setUnit_merged (s : State) (i : Nat) (u : HealthUnit) : (s.setUnit i u).merged = s.merged := rfl
@[simp] theorem State.setUnit_unwinding (s : State) (i : Nat) (u : HealthUnit) : (s.setUnit i u).unwinding = s.unwinding := rfl
@[simp] theorem State.setUnit_kvReads (s : State) (i : Nat) (u : HealthUnit) : (s.setUnit i u).kvReads = s.kvReads := rfl
@[simp] theorem State.setUnit_walks (s : State) (i : Nat) (u : HealthUnit) : (s.setUnit i u).walks = s.walks := rfl
@[simp] theorem State.setUnit_walkOrder (s : State) (i : Nat) (u : HealthUnit) : (s.setUnit i u).walkOrder = s.walkOrder := rfl
@[simp] theorem State.setUnit_groups (s : State) (i : Nat) (u : HealthUnit) : (s.setUnit i u).groups = s.groups := rfl
@[simp] theorem State.setUnit_groupUpds (s : State) (i : Nat) (u : HealthUnit) : (s.setUnit i u).groupUpds = s.groupUpds := rfl
@[simp] theorem State.setUnit_queues (s : State) (i : Nat) (u : HealthUnit) : (s.setUnit i u).queues = s.queues := rfl
@[simp] theorem State.setUnit_queueGen (s : State) (i : Nat) (u : HealthUnit) : (s.setUnit i u).queueGen = s.queueGen := rfl
@[simp] theorem State.setUnit_notices (s : State) (i : Nat) (u : HealthUnit) : (s.setUnit i u).notices = s.notices := rfl
@[simp] theorem State.setUnit_launches (s : State) (i : Nat) (u : HealthUnit) : (s.setUnit i u).launches = s.launches := rfl
@[simp] theorem State.setUnit_nextSeq (s : State) (i : Nat) (u : HealthUnit) : (s.setUnit i u).nextSeq = s.nextSeq := rfl
@[simp] theorem State.setUnit_nextTag (s : State) (i : Nat) (u : HealthUnit) : (s.setUnit i u).nextTag = s.nextTag := rfl
@[simp] theorem State.setUnit_lqTurn (s : State) (i : Nat) (u : HealthUnit) : (s.setUnit i u).lqTurn = s.lqTurn := rfl
@[simp] theorem State.setUnit_images (s : State) (i : Nat) (u : HealthUnit) : (s.setUnit i u).images = s.images := rfl
@[simp] theorem State.setUnit_ranges (s : State) (i : Nat) (u : HealthUnit) : (s.setUnit i u).ranges = s.ranges := rfl
@[simp] theorem State.setUnit_imageWrites (s : State) (i : Nat) (u : HealthUnit) : (s.setUnit i u).imageWrites = s.imageWrites := rfl
@[simp] theorem State.setUnit_staging (s : State) (i : Nat) (u : HealthUnit) : (s.setUnit i u).staging = s.staging := rfl
@[simp] theorem State.setUnit_cursors (s : State) (i : Nat) (u : HealthUnit) : (s.setUnit i u).cursors = s.cursors := rfl
@[simp] theorem State.setUnit_unitCopies (s : State) (i : Nat) (u : HealthUnit) : (s.setUnit i u).unitCopies = s.unitCopies := rfl
@[simp] theorem State.setUnit_leaseCounter (s : State) (i : Nat) (u : HealthUnit) : (s.setUnit i u).leaseCounter = s.leaseCounter := rfl
@[simp] theorem State.setUnit_leases (s : State) (i : Nat) (u : HealthUnit) : (s.setUnit i u).leases = s.leases := rfl
@[simp] theorem State.setUnit_noticesDue (s : State) (i : Nat) (u : HealthUnit) : (s.setUnit i u).noticesDue = s.noticesDue := rfl
@[simp] theorem State.setUnit_rotNext (s : State) (i : Nat) (u : HealthUnit) : (s.setUnit i u).rotNext = s.rotNext := rfl
@[simp] theorem State.setUnit_rotAt (s : State) (i : Nat) (u : HealthUnit) : (s.setUnit i u).rotAt = s.rotAt := rfl
@[simp] theorem State.setUnit_rotUnits (s : State) (i : Nat) (u : HealthUnit) : (s.setUnit i u).rotUnits = s.rotUnits := rfl
@[simp] theorem State.setUnit_rotDelayed (s : State) (i : Nat) (u : HealthUnit) : (s.setUnit i u).rotDelayed = s.rotDelayed := rfl
@[simp] theorem State.setUnit_leasePeriod (s : State) (i : Nat) (u : HealthUnit) : (s.setUnit i u).leasePeriod = s.leasePeriod := rfl
@[simp] theorem State.setUnit_retirements (s : State) (i : Nat) (u : HealthUnit) : (s.setUnit i u).retirements = s.retirements := rfl
@[simp] theorem State.setUnit_lifeMs (s : State) (i : Nat) (u : HealthUnit) : (s.setUnit i u).lifeMs = s.lifeMs := rfl
@[simp] theorem State.setUnit_parts (s : State) (i : Nat) (u : HealthUnit) : (s.setUnit i u).parts = s.parts := rfl
@[simp] theorem State.setUnit_rowOwner (s : State) (i : Nat) (u : HealthUnit) : (s.setUnit i u).rowOwner = s.rowOwner := rfl
@[simp] theorem State.setUnit_unscrubbed (s : State) (i : Nat) (u : HealthUnit) : (s.setUnit i u).unscrubbed = s.unscrubbed := rfl
@[simp] theorem State.setUnit_accesses (s : State) (i : Nat) (u : HealthUnit) : (s.setUnit i u).accesses = s.accesses := rfl
@[simp] theorem State.setUnit_mgReads (s : State) (i : Nat) (u : HealthUnit) : (s.setUnit i u).mgReads = s.mgReads := rfl
@[simp] theorem State.setUnit_endpoints (s : State) (i : Nat) (u : HealthUnit) : (s.setUnit i u).endpoints = s.endpoints := rfl
@[simp] theorem State.setUnit_asks (s : State) (i : Nat) (u : HealthUnit) : (s.setUnit i u).asks = s.asks := rfl
@[simp] theorem State.setUnit_sessions (s : State) (i : Nat) (u : HealthUnit) : (s.setUnit i u).sessions = s.sessions := rfl
@[simp] theorem State.setUnit_nextSession (s : State) (i : Nat) (u : HealthUnit) : (s.setUnit i u).nextSession = s.nextSession := rfl
@[simp] theorem State.setUnit_roots (s : State) (i : Nat) (u : HealthUnit) : (s.setUnit i u).roots = s.roots := rfl
@[simp] theorem State.setUnit_measures (s : State) (i : Nat) (u : HealthUnit) : (s.setUnit i u).measures = s.measures := rfl
@[simp] theorem State.setUnit_aperture (s : State) (i : Nat) (u : HealthUnit) : (s.setUnit i u).aperture = s.aperture := rfl
@[simp] theorem State.setUnit_apertureLocked (s : State) (i : Nat) (u : HealthUnit) : (s.setUnit i u).apertureLocked = s.apertureLocked := rfl
@[simp] theorem State.setUnit_remeas (s : State) (i : Nat) (u : HealthUnit) : (s.setUnit i u).remeas = s.remeas := rfl
@[simp] theorem State.setUnit_wpmove (s : State) (i : Nat) (u : HealthUnit) : (s.setUnit i u).wpmove = s.wpmove := rfl
@[simp] theorem State.setUnit_move (s : State) (i : Nat) (u : HealthUnit) : (s.setUnit i u).move = s.move := rfl
@[simp] theorem State.setUnit_thermEvents (s : State) (i : Nat) (u : HealthUnit) : (s.setUnit i u).thermEvents = s.thermEvents := rfl
@[simp] theorem State.setUnit_thermLim (s : State) (i : Nat) (u : HealthUnit) : (s.setUnit i u).thermLim = s.thermLim := rfl
@[simp] theorem State.setUnit_sensors (s : State) (i : Nat) (u : HealthUnit) : (s.setUnit i u).sensors = s.sensors := rfl
@[simp] theorem State.setUnit_thermMark (s : State) (i : Nat) (u : HealthUnit) : (s.setUnit i u).thermMark = s.thermMark := rfl
@[simp] theorem State.setUnit_overPower (s : State) (i : Nat) (u : HealthUnit) : (s.setUnit i u).overPower = s.overPower := rfl
@[simp] theorem State.setUnit_ports (s : State) (i : Nat) (u : HealthUnit) : (s.setUnit i u).ports = s.ports := rfl
@[simp] theorem State.setUnit_routes (s : State) (i : Nat) (u : HealthUnit) : (s.setUnit i u).routes = s.routes := rfl
@[simp] theorem State.setUnit_flows (s : State) (i : Nat) (u : HealthUnit) : (s.setUnit i u).flows = s.flows := rfl
@[simp] theorem State.setUnit_flitsDue (s : State) (i : Nat) (u : HealthUnit) : (s.setUnit i u).flitsDue = s.flitsDue := rfl

/-! ### A context of a core is replaced -/

@[simp] theorem Core.setCtx_holder (c : Core) (i : Nat) (x : Ctx) : (c.setCtx i x).holder = c.holder := rfl
@[simp] theorem Core.setCtx_switchLeft (c : Core) (i : Nat) (x : Ctx) : (c.setCtx i x).switchLeft = c.switchLeft := rfl
@[simp] theorem Core.setCtx_lastHolder (c : Core) (i : Nat) (x : Ctx) : (c.setCtx i x).lastHolder = c.lastHolder := rfl
@[simp] theorem Core.setCtx_entering (c : Core) (i : Nat) (x : Ctx) : (c.setCtx i x).entering = c.entering := rfl
@[simp] theorem Core.setCtx_ucyc (c : Core) (i : Nat) (x : Ctx) : (c.setCtx i x).ucyc = c.ucyc := rfl
@[simp] theorem Core.setCtx_ispace (c : Core) (i : Nat) (x : Ctx) : (c.setCtx i x).ispace = c.ispace := rfl
@[simp] theorem Core.setCtx_ipoison (c : Core) (i : Nat) (x : Ctx) : (c.setCtx i x).ipoison = c.ipoison := rfl
@[simp] theorem Core.setCtx_fetchBuf (c : Core) (i : Nat) (x : Ctx) : (c.setCtx i x).fetchBuf = c.fetchBuf := rfl
@[simp] theorem Core.setCtx_aspace (c : Core) (i : Nat) (x : Ctx) : (c.setCtx i x).aspace = c.aspace := rfl
@[simp] theorem Core.setCtx_full (c : Core) (i : Nat) (x : Ctx) : (c.setCtx i x).full = c.full := rfl
@[simp] theorem Core.setCtx_apoison (c : Core) (i : Nat) (x : Ctx) : (c.setCtx i x).apoison = c.apoison := rfl
@[simp] theorem Core.setCtx_tiles (c : Core) (i : Nat) (x : Ctx) : (c.setCtx i x).tiles = c.tiles := rfl
@[simp] theorem Core.setCtx_wspace (c : Core) (i : Nat) (x : Ctx) : (c.setCtx i x).wspace = c.wspace := rfl
@[simp] theorem Core.setCtx_wattr (c : Core) (i : Nat) (x : Ctx) : (c.setCtx i x).wattr = c.wattr := rfl
@[simp] theorem Core.setCtx_wear (c : Core) (i : Nat) (x : Ctx) : (c.setCtx i x).wear = c.wear := rfl
@[simp] theorem Core.setCtx_remaps (c : Core) (i : Nat) (x : Ctx) : (c.setCtx i x).remaps = c.remaps := rfl
@[simp] theorem Core.setCtx_deadSpares (c : Core) (i : Nat) (x : Ctx) : (c.setCtx i x).deadSpares = c.deadSpares := rfl
@[simp] theorem Core.setCtx_failedRows (c : Core) (i : Nat) (x : Ctx) : (c.setCtx i x).failedRows = c.failedRows := rfl
@[simp] theorem Core.setCtx_remapCopies (c : Core) (i : Nat) (x : Ctx) : (c.setCtx i x).remapCopies = c.remapCopies := rfl
@[simp] theorem Core.setCtx_unfinished (c : Core) (i : Nat) (x : Ctx) : (c.setCtx i x).unfinished = c.unfinished := rfl
@[simp] theorem Core.setCtx_wpoison (c : Core) (i : Nat) (x : Ctx) : (c.setCtx i x).wpoison = c.wpoison := rfl
@[simp] theorem Core.setCtx_wErr (c : Core) (i : Nat) (x : Ctx) : (c.setCtx i x).wErr = c.wErr := rfl
@[simp] theorem Core.setCtx_corrLog (c : Core) (i : Nat) (x : Ctx) : (c.setCtx i x).corrLog = c.corrLog := rfl
@[simp] theorem Core.setCtx_bankRead (c : Core) (i : Nat) (x : Ctx) : (c.setCtx i x).bankRead = c.bankRead := rfl
@[simp] theorem Core.setCtx_bankWait (c : Core) (i : Nat) (x : Ctx) : (c.setCtx i x).bankWait = c.bankWait := rfl
@[simp] theorem Core.setCtx_port (c : Core) (i : Nat) (x : Ctx) : (c.setCtx i x).port = c.port := rfl
@[simp] theorem Core.setCtx_cmds (c : Core) (i : Nat) (x : Ctx) : (c.setCtx i x).cmds = c.cmds := rfl
@[simp] theorem Core.setCtx_ops (c : Core) (i : Nat) (x : Ctx) : (c.setCtx i x).ops = c.ops := rfl
@[simp] theorem Core.setCtx_nextOp (c : Core) (i : Nat) (x : Ctx) : (c.setCtx i x).nextOp = c.nextOp := rfl
@[simp] theorem Core.setCtx_seq (c : Core) (i : Nat) (x : Ctx) : (c.setCtx i x).seq = c.seq := rfl
@[simp] theorem Core.setCtx_barriers (c : Core) (i : Nat) (x : Ctx) : (c.setCtx i x).barriers = c.barriers := rfl
@[simp] theorem Core.setCtx_gbuf (c : Core) (i : Nat) (x : Ctx) : (c.setCtx i x).gbuf = c.gbuf := rfl
@[simp] theorem Core.setCtx_dirty (c : Core) (i : Nat) (x : Ctx) : (c.setCtx i x).dirty = c.dirty := rfl
@[simp] theorem Core.setCtx_handleWait (c : Core) (i : Nat) (x : Ctx) : (c.setCtx i x).handleWait = c.handleWait := rfl
@[simp] theorem Core.setCtx_events (c : Core) (i : Nat) (x : Ctx) : (c.setCtx i x).events = c.events := rfl
@[simp] theorem Core.setCtx_held (c : Core) (i : Nat) (x : Ctx) : (c.setCtx i x).held = c.held := rfl
@[simp] theorem Core.setCtx_freeze (c : Core) (i : Nat) (x : Ctx) : (c.setCtx i x).freeze = c.freeze := rfl
@[simp] theorem Core.setCtx_stretch (c : Core) (i : Nat) (x : Ctx) : (c.setCtx i x).stretch = c.stretch := rfl
@[simp] theorem Core.setCtx_lanes (c : Core) (i : Nat) (x : Ctx) : (c.setCtx i x).lanes = c.lanes := rfl
@[simp] theorem Core.setCtx_sync (c : Core) (i : Nat) (x : Ctx) : (c.setCtx i x).sync = c.sync := rfl
@[simp] theorem Core.setCtx_groups (c : Core) (i : Nat) (x : Ctx) : (c.setCtx i x).groups = c.groups := rfl
@[simp] theorem Core.setCtx_svcQueue (c : Core) (i : Nat) (x : Ctx) : (c.setCtx i x).svcQueue = c.svcQueue := rfl
@[simp] theorem Core.setCtx_svc (c : Core) (i : Nat) (x : Ctx) : (c.setCtx i x).svc = c.svc := rfl
@[simp] theorem Core.setCtx_frozen (c : Core) (i : Nat) (x : Ctx) : (c.setCtx i x).frozen = c.frozen := rfl
@[simp] theorem Core.setCtx_wPortUsed (c : Core) (i : Nat) (x : Ctx) : (c.setCtx i x).wPortUsed = c.wPortUsed := rfl
@[simp] theorem Core.setCtx_nextRegion (c : Core) (i : Nat) (x : Ctx) : (c.setCtx i x).nextRegion = c.nextRegion := rfl
@[simp] theorem Core.setCtx_committed (c : Core) (i : Nat) (x : Ctx) : (c.setCtx i x).committed = c.committed := rfl

/-! ### A register of a context is written -/

@[simp] theorem Ctx.wa_s (x : Ctx) (r : Nat) (v : DWord) : (x.wa r v).s = x.s := rfl
@[simp] theorem Ctx.wa_p (x : Ctx) (r : Nat) (v : DWord) : (x.wa r v).p = x.p := rfl
@[simp] theorem Ctx.wa_v (x : Ctx) (r : Nat) (v : DWord) : (x.wa r v).v = x.v := rfl
@[simp] theorem Ctx.wa_vq (x : Ctx) (r : Nat) (v : DWord) : (x.wa r v).vq = x.vq := rfl
@[simp] theorem Ctx.wa_q (x : Ctx) (r : Nat) (v : DWord) : (x.wa r v).q = x.q := rfl
@[simp] theorem Ctx.wa_n (x : Ctx) (r : Nat) (v : DWord) : (x.wa r v).n = x.n := rfl
@[simp] theorem Ctx.wa_fmt (x : Ctx) (r : Nat) (v : DWord) : (x.wa r v).fmt = x.fmt := rfl
@[simp] theorem Ctx.wa_lfmt (x : Ctx) (r : Nat) (v : DWord) : (x.wa r v).lfmt = x.lfmt := rfl
@[simp] theorem Ctx.wa_mcfg (x : Ctx) (r : Nat) (v : DWord) : (x.wa r v).mcfg = x.mcfg := rfl
@[simp] theorem Ctx.wa_mscale (x : Ctx) (r : Nat) (v : DWord) : (x.wa r v).mscale = x.mscale := rfl
@[simp] theorem Ctx.wa_mlat (x : Ctx) (r : Nat) (v : DWord) : (x.wa r v).mlat = x.mlat := rfl
@[simp] theorem Ctx.wa_mlatBase (x : Ctx) (r : Nat) (v : DWord) : (x.wa r v).mlatBase = x.mlatBase := rfl
@[simp] theorem Ctx.wa_trapVec (x : Ctx) (r : Nat) (v : DWord) : (x.wa r v).trapVec = x.trapVec := rfl
@[simp] theorem Ctx.wa_trapCause (x : Ctx) (r : Nat) (v : DWord) : (x.wa r v).trapCause = x.trapCause := rfl
@[simp] theorem Ctx.wa_trapPc (x : Ctx) (r : Nat) (v : DWord) : (x.wa r v).trapPc = x.trapPc := rfl
@[simp] theorem Ctx.wa_trapInfo (x : Ctx) (r : Nat) (v : DWord) : (x.wa r v).trapInfo = x.trapInfo := rfl
@[simp] theorem Ctx.wa_stkLim (x : Ctx) (r : Nat) (v : DWord) : (x.wa r v).stkLim = x.stkLim := rfl
@[simp] theorem Ctx.wa_fpFlags (x : Ctx) (r : Nat) (v : DWord) : (x.wa r v).fpFlags = x.fpFlags := rfl
@[simp] theorem Ctx.wa_fpPend (x : Ctx) (r : Nat) (v : DWord) : (x.wa r v).fpPend = x.fpPend := rfl
@[simp] theorem Ctx.wa_heapBase (x : Ctx) (r : Nat) (v : DWord) : (x.wa r v).heapBase = x.heapBase := rfl
@[simp] theorem Ctx.wa_heapLim (x : Ctx) (r : Nat) (v : DWord) : (x.wa r v).heapLim = x.heapLim := rfl
@[simp] theorem Ctx.wa_heapOff (x : Ctx) (r : Nat) (v : DWord) : (x.wa r v).heapOff = x.heapOff := rfl
@[simp] theorem Ctx.wa_contain (x : Ctx) (r : Nat) (v : DWord) : (x.wa r v).contain = x.contain := rfl
@[simp] theorem Ctx.wa_rowProg (x : Ctx) (r : Nat) (v : DWord) : (x.wa r v).rowProg = x.rowProg := rfl
@[simp] theorem Ctx.wa_prio (x : Ctx) (r : Nat) (v : DWord) : (x.wa r v).prio = x.prio := rfl
@[simp] theorem Ctx.wa_svcSel (x : Ctx) (r : Nat) (v : DWord) : (x.wa r v).svcSel = x.svcSel := rfl
@[simp] theorem Ctx.wa_inTrap (x : Ctx) (r : Nat) (v : DWord) : (x.wa r v).inTrap = x.inTrap := rfl
@[simp] theorem Ctx.wa_priv (x : Ctx) (r : Nat) (v : DWord) : (x.wa r v).priv = x.priv := rfl
@[simp] theorem Ctx.wa_pc (x : Ctx) (r : Nat) (v : DWord) : (x.wa r v).pc = x.pc := rfl
@[simp] theorem Ctx.wa_liveHalf (x : Ctx) (r : Nat) (v : DWord) : (x.wa r v).liveHalf = x.liveHalf := rfl
@[simp] theorem Ctx.wa_owedN (x : Ctx) (r : Nat) (v : DWord) : (x.wa r v).owedN = x.owedN := rfl
@[simp] theorem Ctx.wa_owedB (x : Ctx) (r : Nat) (v : DWord) : (x.wa r v).owedB = x.owedB := rfl
@[simp] theorem Ctx.wa_savedB (x : Ctx) (r : Nat) (v : DWord) : (x.wa r v).savedB = x.savedB := rfl
@[simp] theorem Ctx.wa_bubbles (x : Ctx) (r : Nat) (v : DWord) : (x.wa r v).bubbles = x.bubbles := rfl
@[simp] theorem Ctx.wa_loop (x : Ctx) (r : Nat) (v : DWord) : (x.wa r v).loop = x.loop := rfl
@[simp] theorem Ctx.wa_suspended (x : Ctx) (r : Nat) (v : DWord) : (x.wa r v).suspended = x.suspended := rfl
@[simp] theorem Ctx.wa_windows (x : Ctx) (r : Nat) (v : DWord) : (x.wa r v).windows = x.windows := rfl
@[simp] theorem Ctx.wa_pend (x : Ctx) (r : Nat) (v : DWord) : (x.wa r v).pend = x.pend := rfl
@[simp] theorem Ctx.wa_replay (x : Ctx) (r : Nat) (v : DWord) : (x.wa r v).replay = x.replay := rfl
@[simp] theorem Ctx.wa_replayAt (x : Ctx) (r : Nat) (v : DWord) : (x.wa r v).replayAt = x.replayAt := rfl
@[simp] theorem Ctx.wa_replayArmed (x : Ctx) (r : Nat) (v : DWord) : (x.wa r v).replayArmed = x.replayArmed := rfl
@[simp] theorem Ctx.wa_clock (x : Ctx) (r : Nat) (v : DWord) : (x.wa r v).clock = x.clock := rfl
@[simp] theorem Ctx.wa_quantumAt (x : Ctx) (r : Nat) (v : DWord) : (x.wa r v).quantumAt = x.quantumAt := rfl
@[simp] theorem Ctx.wa_quantumDone (x : Ctx) (r : Nat) (v : DWord) : (x.wa r v).quantumDone = x.quantumDone := rfl
@[simp] theorem Ctx.wa_life (x : Ctx) (r : Nat) (v : DWord) : (x.wa r v).life = x.life := rfl
@[simp] theorem Ctx.wa_wait (x : Ctx) (r : Nat) (v : DWord) : (x.wa r v).wait = x.wait := rfl
@[simp] theorem Ctx.wa_waitOver (x : Ctx) (r : Nat) (v : DWord) : (x.wa r v).waitOver = x.waitOver := rfl
@[simp] theorem Ctx.wa_svcHeld (x : Ctx) (r : Nat) (v : DWord) : (x.wa r v).svcHeld = x.svcHeld := rfl
@[simp] theorem Ctx.wa_after (x : Ctx) (r : Nat) (v : DWord) : (x.wa r v).after = x.after := rfl
@[simp] theorem Ctx.wa_savedAfter (x : Ctx) (r : Nat) (v : DWord) : (x.wa r v).savedAfter = x.savedAfter := rfl
@[simp] theorem Ctx.wa_engineTraps (x : Ctx) (r : Nat) (v : DWord) : (x.wa r v).engineTraps = x.engineTraps := rfl
@[simp] theorem Ctx.wa_xfer (x : Ctx) (r : Nat) (v : DWord) : (x.wa r v).xfer = x.xfer := rfl
@[simp] theorem Ctx.wa_poison (x : Ctx) (r : Nat) (v : DWord) : (x.wa r v).poison = x.poison := rfl
@[simp] theorem Ctx.wa_launch (x : Ctx) (r : Nat) (v : DWord) : (x.wa r v).launch = x.launch := rfl
@[simp] theorem Ctx.wa_launchCtx (x : Ctx) (r : Nat) (v : DWord) : (x.wa r v).launchCtx = x.launchCtx := rfl
@[simp] theorem Ctx.wa_originRank (x : Ctx) (r : Nat) (v : DWord) : (x.wa r v).originRank = x.originRank := rfl
@[simp] theorem Ctx.wa_part (x : Ctx) (r : Nat) (v : DWord) : (x.wa r v).part = x.part := rfl
@[simp] theorem Ctx.wa_tileBase (x : Ctx) (r : Nat) (v : DWord) : (x.wa r v).tileBase = x.tileBase := rfl
@[simp] theorem Ctx.wa_tileCount (x : Ctx) (r : Nat) (v : DWord) : (x.wa r v).tileCount = x.tileCount := rfl
@[simp] theorem Ctx.wa_startedAt (x : Ctx) (r : Nat) (v : DWord) : (x.wa r v).startedAt = x.startedAt := rfl
@[simp] theorem Ctx.wa_feFrozen (x : Ctx) (r : Nat) (v : DWord) : (x.wa r v).feFrozen = x.feFrozen := rfl
@[simp] theorem Ctx.wa_tag (x : Ctx) (r : Nat) (v : DWord) : (x.wa r v).tag = x.tag := rfl
@[simp] theorem Ctx.wa_kvRefused (x : Ctx) (r : Nat) (v : DWord) : (x.wa r v).kvRefused = x.kvRefused := rfl
@[simp] theorem Ctx.wa_svcFor (x : Ctx) (r : Nat) (v : DWord) : (x.wa r v).svcFor = x.svcFor := rfl
@[simp] theorem Ctx.wa_syncSaved (x : Ctx) (r : Nat) (v : DWord) : (x.wa r v).syncSaved = x.syncSaved := rfl
@[simp] theorem Ctx.wa_dumped (x : Ctx) (r : Nat) (v : DWord) : (x.wa r v).dumped = x.dumped := rfl
@[simp] theorem Ctx.wa_trapOp (x : Ctx) (r : Nat) (v : DWord) : (x.wa r v).trapOp = x.trapOp := rfl
@[simp] theorem Ctx.wa_trapSeq (x : Ctx) (r : Nat) (v : DWord) : (x.wa r v).trapSeq = x.trapSeq := rfl
@[simp] theorem Ctx.wa_replayOwed (x : Ctx) (r : Nat) (v : DWord) : (x.wa r v).replayOwed = x.replayOwed := rfl
@[simp] theorem Ctx.wa_afterNow (x : Ctx) (r : Nat) (v : DWord) : (x.wa r v).afterNow = x.afterNow := rfl
@[simp] theorem Ctx.wa_returns (x : Ctx) (r : Nat) (v : DWord) : (x.wa r v).returns = x.returns := rfl

@[simp] theorem Ctx.wv_s (x : Ctx) (r : Nat) (v m : VReg) : (x.wv r v m).s = x.s := rfl
@[simp] theorem Ctx.wv_a (x : Ctx) (r : Nat) (v m : VReg) : (x.wv r v m).a = x.a := rfl
@[simp] theorem Ctx.wv_p (x : Ctx) (r : Nat) (v m : VReg) : (x.wv r v m).p = x.p := rfl
@[simp] theorem Ctx.wv_vq (x : Ctx) (r : Nat) (v m : VReg) : (x.wv r v m).vq = x.vq := rfl
@[simp] theorem Ctx.wv_q (x : Ctx) (r : Nat) (v m : VReg) : (x.wv r v m).q = x.q := rfl
@[simp] theorem Ctx.wv_n (x : Ctx) (r : Nat) (v m : VReg) : (x.wv r v m).n = x.n := rfl
@[simp] theorem Ctx.wv_fmt (x : Ctx) (r : Nat) (v m : VReg) : (x.wv r v m).fmt = x.fmt := rfl
@[simp] theorem Ctx.wv_lfmt (x : Ctx) (r : Nat) (v m : VReg) : (x.wv r v m).lfmt = x.lfmt := rfl
@[simp] theorem Ctx.wv_mcfg (x : Ctx) (r : Nat) (v m : VReg) : (x.wv r v m).mcfg = x.mcfg := rfl
@[simp] theorem Ctx.wv_mscale (x : Ctx) (r : Nat) (v m : VReg) : (x.wv r v m).mscale = x.mscale := rfl
@[simp] theorem Ctx.wv_mlat (x : Ctx) (r : Nat) (v m : VReg) : (x.wv r v m).mlat = x.mlat := rfl
@[simp] theorem Ctx.wv_mlatBase (x : Ctx) (r : Nat) (v m : VReg) : (x.wv r v m).mlatBase = x.mlatBase := rfl
@[simp] theorem Ctx.wv_trapVec (x : Ctx) (r : Nat) (v m : VReg) : (x.wv r v m).trapVec = x.trapVec := rfl
@[simp] theorem Ctx.wv_trapCause (x : Ctx) (r : Nat) (v m : VReg) : (x.wv r v m).trapCause = x.trapCause := rfl
@[simp] theorem Ctx.wv_trapPc (x : Ctx) (r : Nat) (v m : VReg) : (x.wv r v m).trapPc = x.trapPc := rfl
@[simp] theorem Ctx.wv_trapInfo (x : Ctx) (r : Nat) (v m : VReg) : (x.wv r v m).trapInfo = x.trapInfo := rfl
@[simp] theorem Ctx.wv_stkLim (x : Ctx) (r : Nat) (v m : VReg) : (x.wv r v m).stkLim = x.stkLim := rfl
@[simp] theorem Ctx.wv_fpFlags (x : Ctx) (r : Nat) (v m : VReg) : (x.wv r v m).fpFlags = x.fpFlags := rfl
@[simp] theorem Ctx.wv_fpPend (x : Ctx) (r : Nat) (v m : VReg) : (x.wv r v m).fpPend = x.fpPend := rfl
@[simp] theorem Ctx.wv_heapBase (x : Ctx) (r : Nat) (v m : VReg) : (x.wv r v m).heapBase = x.heapBase := rfl
@[simp] theorem Ctx.wv_heapLim (x : Ctx) (r : Nat) (v m : VReg) : (x.wv r v m).heapLim = x.heapLim := rfl
@[simp] theorem Ctx.wv_heapOff (x : Ctx) (r : Nat) (v m : VReg) : (x.wv r v m).heapOff = x.heapOff := rfl
@[simp] theorem Ctx.wv_contain (x : Ctx) (r : Nat) (v m : VReg) : (x.wv r v m).contain = x.contain := rfl
@[simp] theorem Ctx.wv_rowProg (x : Ctx) (r : Nat) (v m : VReg) : (x.wv r v m).rowProg = x.rowProg := rfl
@[simp] theorem Ctx.wv_prio (x : Ctx) (r : Nat) (v m : VReg) : (x.wv r v m).prio = x.prio := rfl
@[simp] theorem Ctx.wv_svcSel (x : Ctx) (r : Nat) (v m : VReg) : (x.wv r v m).svcSel = x.svcSel := rfl
@[simp] theorem Ctx.wv_inTrap (x : Ctx) (r : Nat) (v m : VReg) : (x.wv r v m).inTrap = x.inTrap := rfl
@[simp] theorem Ctx.wv_priv (x : Ctx) (r : Nat) (v m : VReg) : (x.wv r v m).priv = x.priv := rfl
@[simp] theorem Ctx.wv_pc (x : Ctx) (r : Nat) (v m : VReg) : (x.wv r v m).pc = x.pc := rfl
@[simp] theorem Ctx.wv_liveHalf (x : Ctx) (r : Nat) (v m : VReg) : (x.wv r v m).liveHalf = x.liveHalf := rfl
@[simp] theorem Ctx.wv_owedN (x : Ctx) (r : Nat) (v m : VReg) : (x.wv r v m).owedN = x.owedN := rfl
@[simp] theorem Ctx.wv_owedB (x : Ctx) (r : Nat) (v m : VReg) : (x.wv r v m).owedB = x.owedB := rfl
@[simp] theorem Ctx.wv_savedB (x : Ctx) (r : Nat) (v m : VReg) : (x.wv r v m).savedB = x.savedB := rfl
@[simp] theorem Ctx.wv_bubbles (x : Ctx) (r : Nat) (v m : VReg) : (x.wv r v m).bubbles = x.bubbles := rfl
@[simp] theorem Ctx.wv_loop (x : Ctx) (r : Nat) (v m : VReg) : (x.wv r v m).loop = x.loop := rfl
@[simp] theorem Ctx.wv_suspended (x : Ctx) (r : Nat) (v m : VReg) : (x.wv r v m).suspended = x.suspended := rfl
@[simp] theorem Ctx.wv_windows (x : Ctx) (r : Nat) (v m : VReg) : (x.wv r v m).windows = x.windows := rfl
@[simp] theorem Ctx.wv_pend (x : Ctx) (r : Nat) (v m : VReg) : (x.wv r v m).pend = x.pend := rfl
@[simp] theorem Ctx.wv_replay (x : Ctx) (r : Nat) (v m : VReg) : (x.wv r v m).replay = x.replay := rfl
@[simp] theorem Ctx.wv_replayAt (x : Ctx) (r : Nat) (v m : VReg) : (x.wv r v m).replayAt = x.replayAt := rfl
@[simp] theorem Ctx.wv_replayArmed (x : Ctx) (r : Nat) (v m : VReg) : (x.wv r v m).replayArmed = x.replayArmed := rfl
@[simp] theorem Ctx.wv_clock (x : Ctx) (r : Nat) (v m : VReg) : (x.wv r v m).clock = x.clock := rfl
@[simp] theorem Ctx.wv_quantumAt (x : Ctx) (r : Nat) (v m : VReg) : (x.wv r v m).quantumAt = x.quantumAt := rfl
@[simp] theorem Ctx.wv_quantumDone (x : Ctx) (r : Nat) (v m : VReg) : (x.wv r v m).quantumDone = x.quantumDone := rfl
@[simp] theorem Ctx.wv_life (x : Ctx) (r : Nat) (v m : VReg) : (x.wv r v m).life = x.life := rfl
@[simp] theorem Ctx.wv_wait (x : Ctx) (r : Nat) (v m : VReg) : (x.wv r v m).wait = x.wait := rfl
@[simp] theorem Ctx.wv_waitOver (x : Ctx) (r : Nat) (v m : VReg) : (x.wv r v m).waitOver = x.waitOver := rfl
@[simp] theorem Ctx.wv_svcHeld (x : Ctx) (r : Nat) (v m : VReg) : (x.wv r v m).svcHeld = x.svcHeld := rfl
@[simp] theorem Ctx.wv_after (x : Ctx) (r : Nat) (v m : VReg) : (x.wv r v m).after = x.after := rfl
@[simp] theorem Ctx.wv_savedAfter (x : Ctx) (r : Nat) (v m : VReg) : (x.wv r v m).savedAfter = x.savedAfter := rfl
@[simp] theorem Ctx.wv_engineTraps (x : Ctx) (r : Nat) (v m : VReg) : (x.wv r v m).engineTraps = x.engineTraps := rfl
@[simp] theorem Ctx.wv_xfer (x : Ctx) (r : Nat) (v m : VReg) : (x.wv r v m).xfer = x.xfer := rfl
@[simp] theorem Ctx.wv_poison (x : Ctx) (r : Nat) (v m : VReg) : (x.wv r v m).poison = x.poison := rfl
@[simp] theorem Ctx.wv_launch (x : Ctx) (r : Nat) (v m : VReg) : (x.wv r v m).launch = x.launch := rfl
@[simp] theorem Ctx.wv_launchCtx (x : Ctx) (r : Nat) (v m : VReg) : (x.wv r v m).launchCtx = x.launchCtx := rfl
@[simp] theorem Ctx.wv_originRank (x : Ctx) (r : Nat) (v m : VReg) : (x.wv r v m).originRank = x.originRank := rfl
@[simp] theorem Ctx.wv_part (x : Ctx) (r : Nat) (v m : VReg) : (x.wv r v m).part = x.part := rfl
@[simp] theorem Ctx.wv_tileBase (x : Ctx) (r : Nat) (v m : VReg) : (x.wv r v m).tileBase = x.tileBase := rfl
@[simp] theorem Ctx.wv_tileCount (x : Ctx) (r : Nat) (v m : VReg) : (x.wv r v m).tileCount = x.tileCount := rfl
@[simp] theorem Ctx.wv_startedAt (x : Ctx) (r : Nat) (v m : VReg) : (x.wv r v m).startedAt = x.startedAt := rfl
@[simp] theorem Ctx.wv_feFrozen (x : Ctx) (r : Nat) (v m : VReg) : (x.wv r v m).feFrozen = x.feFrozen := rfl
@[simp] theorem Ctx.wv_tag (x : Ctx) (r : Nat) (v m : VReg) : (x.wv r v m).tag = x.tag := rfl
@[simp] theorem Ctx.wv_kvRefused (x : Ctx) (r : Nat) (v m : VReg) : (x.wv r v m).kvRefused = x.kvRefused := rfl
@[simp] theorem Ctx.wv_svcFor (x : Ctx) (r : Nat) (v m : VReg) : (x.wv r v m).svcFor = x.svcFor := rfl
@[simp] theorem Ctx.wv_syncSaved (x : Ctx) (r : Nat) (v m : VReg) : (x.wv r v m).syncSaved = x.syncSaved := rfl
@[simp] theorem Ctx.wv_dumped (x : Ctx) (r : Nat) (v m : VReg) : (x.wv r v m).dumped = x.dumped := rfl
@[simp] theorem Ctx.wv_trapOp (x : Ctx) (r : Nat) (v m : VReg) : (x.wv r v m).trapOp = x.trapOp := rfl
@[simp] theorem Ctx.wv_trapSeq (x : Ctx) (r : Nat) (v m : VReg) : (x.wv r v m).trapSeq = x.trapSeq := rfl
@[simp] theorem Ctx.wv_replayOwed (x : Ctx) (r : Nat) (v m : VReg) : (x.wv r v m).replayOwed = x.replayOwed := rfl
@[simp] theorem Ctx.wv_afterNow (x : Ctx) (r : Nat) (v m : VReg) : (x.wv r v m).afterNow = x.afterNow := rfl
@[simp] theorem Ctx.wv_returns (x : Ctx) (r : Nat) (v m : VReg) : (x.wv r v m).returns = x.returns := rfl

@[simp] theorem Ctx.wq_s (x : Ctx) (q i : Nat) (c : Bool) (l : List Word) : (x.wq q i c l).s = x.s := rfl
@[simp] theorem Ctx.wq_a (x : Ctx) (q i : Nat) (c : Bool) (l : List Word) : (x.wq q i c l).a = x.a := rfl
@[simp] theorem Ctx.wq_p (x : Ctx) (q i : Nat) (c : Bool) (l : List Word) : (x.wq q i c l).p = x.p := rfl
@[simp] theorem Ctx.wq_v (x : Ctx) (q i : Nat) (c : Bool) (l : List Word) : (x.wq q i c l).v = x.v := rfl
@[simp] theorem Ctx.wq_vq (x : Ctx) (q i : Nat) (c : Bool) (l : List Word) : (x.wq q i c l).vq = x.vq := rfl
@[simp] theorem Ctx.wq_n (x : Ctx) (q i : Nat) (c : Bool) (l : List Word) : (x.wq q i c l).n = x.n := rfl
@[simp] theorem Ctx.wq_fmt (x : Ctx) (q i : Nat) (c : Bool) (l : List Word) : (x.wq q i c l).fmt = x.fmt := rfl
@[simp] theorem Ctx.wq_lfmt (x : Ctx) (q i : Nat) (c : Bool) (l : List Word) : (x.wq q i c l).lfmt = x.lfmt := rfl
@[simp] theorem Ctx.wq_mcfg (x : Ctx) (q i : Nat) (c : Bool) (l : List Word) : (x.wq q i c l).mcfg = x.mcfg := rfl
@[simp] theorem Ctx.wq_mscale (x : Ctx) (q i : Nat) (c : Bool) (l : List Word) : (x.wq q i c l).mscale = x.mscale := rfl
@[simp] theorem Ctx.wq_mlat (x : Ctx) (q i : Nat) (c : Bool) (l : List Word) : (x.wq q i c l).mlat = x.mlat := rfl
@[simp] theorem Ctx.wq_mlatBase (x : Ctx) (q i : Nat) (c : Bool) (l : List Word) : (x.wq q i c l).mlatBase = x.mlatBase := rfl
@[simp] theorem Ctx.wq_trapVec (x : Ctx) (q i : Nat) (c : Bool) (l : List Word) : (x.wq q i c l).trapVec = x.trapVec := rfl
@[simp] theorem Ctx.wq_trapCause (x : Ctx) (q i : Nat) (c : Bool) (l : List Word) : (x.wq q i c l).trapCause = x.trapCause := rfl
@[simp] theorem Ctx.wq_trapPc (x : Ctx) (q i : Nat) (c : Bool) (l : List Word) : (x.wq q i c l).trapPc = x.trapPc := rfl
@[simp] theorem Ctx.wq_trapInfo (x : Ctx) (q i : Nat) (c : Bool) (l : List Word) : (x.wq q i c l).trapInfo = x.trapInfo := rfl
@[simp] theorem Ctx.wq_stkLim (x : Ctx) (q i : Nat) (c : Bool) (l : List Word) : (x.wq q i c l).stkLim = x.stkLim := rfl
@[simp] theorem Ctx.wq_fpFlags (x : Ctx) (q i : Nat) (c : Bool) (l : List Word) : (x.wq q i c l).fpFlags = x.fpFlags := rfl
@[simp] theorem Ctx.wq_fpPend (x : Ctx) (q i : Nat) (c : Bool) (l : List Word) : (x.wq q i c l).fpPend = x.fpPend := rfl
@[simp] theorem Ctx.wq_heapBase (x : Ctx) (q i : Nat) (c : Bool) (l : List Word) : (x.wq q i c l).heapBase = x.heapBase := rfl
@[simp] theorem Ctx.wq_heapLim (x : Ctx) (q i : Nat) (c : Bool) (l : List Word) : (x.wq q i c l).heapLim = x.heapLim := rfl
@[simp] theorem Ctx.wq_heapOff (x : Ctx) (q i : Nat) (c : Bool) (l : List Word) : (x.wq q i c l).heapOff = x.heapOff := rfl
@[simp] theorem Ctx.wq_contain (x : Ctx) (q i : Nat) (c : Bool) (l : List Word) : (x.wq q i c l).contain = x.contain := rfl
@[simp] theorem Ctx.wq_rowProg (x : Ctx) (q i : Nat) (c : Bool) (l : List Word) : (x.wq q i c l).rowProg = x.rowProg := rfl
@[simp] theorem Ctx.wq_prio (x : Ctx) (q i : Nat) (c : Bool) (l : List Word) : (x.wq q i c l).prio = x.prio := rfl
@[simp] theorem Ctx.wq_svcSel (x : Ctx) (q i : Nat) (c : Bool) (l : List Word) : (x.wq q i c l).svcSel = x.svcSel := rfl
@[simp] theorem Ctx.wq_inTrap (x : Ctx) (q i : Nat) (c : Bool) (l : List Word) : (x.wq q i c l).inTrap = x.inTrap := rfl
@[simp] theorem Ctx.wq_priv (x : Ctx) (q i : Nat) (c : Bool) (l : List Word) : (x.wq q i c l).priv = x.priv := rfl
@[simp] theorem Ctx.wq_pc (x : Ctx) (q i : Nat) (c : Bool) (l : List Word) : (x.wq q i c l).pc = x.pc := rfl
@[simp] theorem Ctx.wq_liveHalf (x : Ctx) (q i : Nat) (c : Bool) (l : List Word) : (x.wq q i c l).liveHalf = x.liveHalf := rfl
@[simp] theorem Ctx.wq_owedN (x : Ctx) (q i : Nat) (c : Bool) (l : List Word) : (x.wq q i c l).owedN = x.owedN := rfl
@[simp] theorem Ctx.wq_owedB (x : Ctx) (q i : Nat) (c : Bool) (l : List Word) : (x.wq q i c l).owedB = x.owedB := rfl
@[simp] theorem Ctx.wq_savedB (x : Ctx) (q i : Nat) (c : Bool) (l : List Word) : (x.wq q i c l).savedB = x.savedB := rfl
@[simp] theorem Ctx.wq_bubbles (x : Ctx) (q i : Nat) (c : Bool) (l : List Word) : (x.wq q i c l).bubbles = x.bubbles := rfl
@[simp] theorem Ctx.wq_loop (x : Ctx) (q i : Nat) (c : Bool) (l : List Word) : (x.wq q i c l).loop = x.loop := rfl
@[simp] theorem Ctx.wq_suspended (x : Ctx) (q i : Nat) (c : Bool) (l : List Word) : (x.wq q i c l).suspended = x.suspended := rfl
@[simp] theorem Ctx.wq_windows (x : Ctx) (q i : Nat) (c : Bool) (l : List Word) : (x.wq q i c l).windows = x.windows := rfl
@[simp] theorem Ctx.wq_pend (x : Ctx) (q i : Nat) (c : Bool) (l : List Word) : (x.wq q i c l).pend = x.pend := rfl
@[simp] theorem Ctx.wq_replay (x : Ctx) (q i : Nat) (c : Bool) (l : List Word) : (x.wq q i c l).replay = x.replay := rfl
@[simp] theorem Ctx.wq_replayAt (x : Ctx) (q i : Nat) (c : Bool) (l : List Word) : (x.wq q i c l).replayAt = x.replayAt := rfl
@[simp] theorem Ctx.wq_replayArmed (x : Ctx) (q i : Nat) (c : Bool) (l : List Word) : (x.wq q i c l).replayArmed = x.replayArmed := rfl
@[simp] theorem Ctx.wq_clock (x : Ctx) (q i : Nat) (c : Bool) (l : List Word) : (x.wq q i c l).clock = x.clock := rfl
@[simp] theorem Ctx.wq_quantumAt (x : Ctx) (q i : Nat) (c : Bool) (l : List Word) : (x.wq q i c l).quantumAt = x.quantumAt := rfl
@[simp] theorem Ctx.wq_quantumDone (x : Ctx) (q i : Nat) (c : Bool) (l : List Word) : (x.wq q i c l).quantumDone = x.quantumDone := rfl
@[simp] theorem Ctx.wq_life (x : Ctx) (q i : Nat) (c : Bool) (l : List Word) : (x.wq q i c l).life = x.life := rfl
@[simp] theorem Ctx.wq_wait (x : Ctx) (q i : Nat) (c : Bool) (l : List Word) : (x.wq q i c l).wait = x.wait := rfl
@[simp] theorem Ctx.wq_waitOver (x : Ctx) (q i : Nat) (c : Bool) (l : List Word) : (x.wq q i c l).waitOver = x.waitOver := rfl
@[simp] theorem Ctx.wq_svcHeld (x : Ctx) (q i : Nat) (c : Bool) (l : List Word) : (x.wq q i c l).svcHeld = x.svcHeld := rfl
@[simp] theorem Ctx.wq_after (x : Ctx) (q i : Nat) (c : Bool) (l : List Word) : (x.wq q i c l).after = x.after := rfl
@[simp] theorem Ctx.wq_savedAfter (x : Ctx) (q i : Nat) (c : Bool) (l : List Word) : (x.wq q i c l).savedAfter = x.savedAfter := rfl
@[simp] theorem Ctx.wq_engineTraps (x : Ctx) (q i : Nat) (c : Bool) (l : List Word) : (x.wq q i c l).engineTraps = x.engineTraps := rfl
@[simp] theorem Ctx.wq_xfer (x : Ctx) (q i : Nat) (c : Bool) (l : List Word) : (x.wq q i c l).xfer = x.xfer := rfl
@[simp] theorem Ctx.wq_poison (x : Ctx) (q i : Nat) (c : Bool) (l : List Word) : (x.wq q i c l).poison = x.poison := rfl
@[simp] theorem Ctx.wq_launch (x : Ctx) (q i : Nat) (c : Bool) (l : List Word) : (x.wq q i c l).launch = x.launch := rfl
@[simp] theorem Ctx.wq_launchCtx (x : Ctx) (q i : Nat) (c : Bool) (l : List Word) : (x.wq q i c l).launchCtx = x.launchCtx := rfl
@[simp] theorem Ctx.wq_originRank (x : Ctx) (q i : Nat) (c : Bool) (l : List Word) : (x.wq q i c l).originRank = x.originRank := rfl
@[simp] theorem Ctx.wq_part (x : Ctx) (q i : Nat) (c : Bool) (l : List Word) : (x.wq q i c l).part = x.part := rfl
@[simp] theorem Ctx.wq_tileBase (x : Ctx) (q i : Nat) (c : Bool) (l : List Word) : (x.wq q i c l).tileBase = x.tileBase := rfl
@[simp] theorem Ctx.wq_tileCount (x : Ctx) (q i : Nat) (c : Bool) (l : List Word) : (x.wq q i c l).tileCount = x.tileCount := rfl
@[simp] theorem Ctx.wq_startedAt (x : Ctx) (q i : Nat) (c : Bool) (l : List Word) : (x.wq q i c l).startedAt = x.startedAt := rfl
@[simp] theorem Ctx.wq_feFrozen (x : Ctx) (q i : Nat) (c : Bool) (l : List Word) : (x.wq q i c l).feFrozen = x.feFrozen := rfl
@[simp] theorem Ctx.wq_tag (x : Ctx) (q i : Nat) (c : Bool) (l : List Word) : (x.wq q i c l).tag = x.tag := rfl
@[simp] theorem Ctx.wq_kvRefused (x : Ctx) (q i : Nat) (c : Bool) (l : List Word) : (x.wq q i c l).kvRefused = x.kvRefused := rfl
@[simp] theorem Ctx.wq_svcFor (x : Ctx) (q i : Nat) (c : Bool) (l : List Word) : (x.wq q i c l).svcFor = x.svcFor := rfl
@[simp] theorem Ctx.wq_syncSaved (x : Ctx) (q i : Nat) (c : Bool) (l : List Word) : (x.wq q i c l).syncSaved = x.syncSaved := rfl
@[simp] theorem Ctx.wq_dumped (x : Ctx) (q i : Nat) (c : Bool) (l : List Word) : (x.wq q i c l).dumped = x.dumped := rfl
@[simp] theorem Ctx.wq_trapOp (x : Ctx) (q i : Nat) (c : Bool) (l : List Word) : (x.wq q i c l).trapOp = x.trapOp := rfl
@[simp] theorem Ctx.wq_trapSeq (x : Ctx) (q i : Nat) (c : Bool) (l : List Word) : (x.wq q i c l).trapSeq = x.trapSeq := rfl
@[simp] theorem Ctx.wq_replayOwed (x : Ctx) (q i : Nat) (c : Bool) (l : List Word) : (x.wq q i c l).replayOwed = x.replayOwed := rfl
@[simp] theorem Ctx.wq_afterNow (x : Ctx) (q i : Nat) (c : Bool) (l : List Word) : (x.wq q i c l).afterNow = x.afterNow := rfl
@[simp] theorem Ctx.wq_returns (x : Ctx) (q i : Nat) (c : Bool) (l : List Word) : (x.wq q i c l).returns = x.returns := rfl

@[simp] theorem Ctx.ws_a (x : Ctx) (r : Nat) (v : Word) : (x.ws r v).a = x.a := by unfold Ctx.ws; split <;> rfl
@[simp] theorem Ctx.ws_p (x : Ctx) (r : Nat) (v : Word) : (x.ws r v).p = x.p := by unfold Ctx.ws; split <;> rfl
@[simp] theorem Ctx.ws_v (x : Ctx) (r : Nat) (v : Word) : (x.ws r v).v = x.v := by unfold Ctx.ws; split <;> rfl
@[simp] theorem Ctx.ws_vq (x : Ctx) (r : Nat) (v : Word) : (x.ws r v).vq = x.vq := by unfold Ctx.ws; split <;> rfl
@[simp] theorem Ctx.ws_q (x : Ctx) (r : Nat) (v : Word) : (x.ws r v).q = x.q := by unfold Ctx.ws; split <;> rfl
@[simp] theorem Ctx.ws_n (x : Ctx) (r : Nat) (v : Word) : (x.ws r v).n = x.n := by unfold Ctx.ws; split <;> rfl
@[simp] theorem Ctx.ws_fmt (x : Ctx) (r : Nat) (v : Word) : (x.ws r v).fmt = x.fmt := by unfold Ctx.ws; split <;> rfl
@[simp] theorem Ctx.ws_lfmt (x : Ctx) (r : Nat) (v : Word) : (x.ws r v).lfmt = x.lfmt := by unfold Ctx.ws; split <;> rfl
@[simp] theorem Ctx.ws_mcfg (x : Ctx) (r : Nat) (v : Word) : (x.ws r v).mcfg = x.mcfg := by unfold Ctx.ws; split <;> rfl
@[simp] theorem Ctx.ws_mscale (x : Ctx) (r : Nat) (v : Word) : (x.ws r v).mscale = x.mscale := by unfold Ctx.ws; split <;> rfl
@[simp] theorem Ctx.ws_mlat (x : Ctx) (r : Nat) (v : Word) : (x.ws r v).mlat = x.mlat := by unfold Ctx.ws; split <;> rfl
@[simp] theorem Ctx.ws_mlatBase (x : Ctx) (r : Nat) (v : Word) : (x.ws r v).mlatBase = x.mlatBase := by unfold Ctx.ws; split <;> rfl
@[simp] theorem Ctx.ws_trapVec (x : Ctx) (r : Nat) (v : Word) : (x.ws r v).trapVec = x.trapVec := by unfold Ctx.ws; split <;> rfl
@[simp] theorem Ctx.ws_trapCause (x : Ctx) (r : Nat) (v : Word) : (x.ws r v).trapCause = x.trapCause := by unfold Ctx.ws; split <;> rfl
@[simp] theorem Ctx.ws_trapPc (x : Ctx) (r : Nat) (v : Word) : (x.ws r v).trapPc = x.trapPc := by unfold Ctx.ws; split <;> rfl
@[simp] theorem Ctx.ws_trapInfo (x : Ctx) (r : Nat) (v : Word) : (x.ws r v).trapInfo = x.trapInfo := by unfold Ctx.ws; split <;> rfl
@[simp] theorem Ctx.ws_stkLim (x : Ctx) (r : Nat) (v : Word) : (x.ws r v).stkLim = x.stkLim := by unfold Ctx.ws; split <;> rfl
@[simp] theorem Ctx.ws_fpFlags (x : Ctx) (r : Nat) (v : Word) : (x.ws r v).fpFlags = x.fpFlags := by unfold Ctx.ws; split <;> rfl
@[simp] theorem Ctx.ws_fpPend (x : Ctx) (r : Nat) (v : Word) : (x.ws r v).fpPend = x.fpPend := by unfold Ctx.ws; split <;> rfl
@[simp] theorem Ctx.ws_heapBase (x : Ctx) (r : Nat) (v : Word) : (x.ws r v).heapBase = x.heapBase := by unfold Ctx.ws; split <;> rfl
@[simp] theorem Ctx.ws_heapLim (x : Ctx) (r : Nat) (v : Word) : (x.ws r v).heapLim = x.heapLim := by unfold Ctx.ws; split <;> rfl
@[simp] theorem Ctx.ws_heapOff (x : Ctx) (r : Nat) (v : Word) : (x.ws r v).heapOff = x.heapOff := by unfold Ctx.ws; split <;> rfl
@[simp] theorem Ctx.ws_contain (x : Ctx) (r : Nat) (v : Word) : (x.ws r v).contain = x.contain := by unfold Ctx.ws; split <;> rfl
@[simp] theorem Ctx.ws_rowProg (x : Ctx) (r : Nat) (v : Word) : (x.ws r v).rowProg = x.rowProg := by unfold Ctx.ws; split <;> rfl
@[simp] theorem Ctx.ws_prio (x : Ctx) (r : Nat) (v : Word) : (x.ws r v).prio = x.prio := by unfold Ctx.ws; split <;> rfl
@[simp] theorem Ctx.ws_svcSel (x : Ctx) (r : Nat) (v : Word) : (x.ws r v).svcSel = x.svcSel := by unfold Ctx.ws; split <;> rfl
@[simp] theorem Ctx.ws_inTrap (x : Ctx) (r : Nat) (v : Word) : (x.ws r v).inTrap = x.inTrap := by unfold Ctx.ws; split <;> rfl
@[simp] theorem Ctx.ws_priv (x : Ctx) (r : Nat) (v : Word) : (x.ws r v).priv = x.priv := by unfold Ctx.ws; split <;> rfl
@[simp] theorem Ctx.ws_pc (x : Ctx) (r : Nat) (v : Word) : (x.ws r v).pc = x.pc := by unfold Ctx.ws; split <;> rfl
@[simp] theorem Ctx.ws_liveHalf (x : Ctx) (r : Nat) (v : Word) : (x.ws r v).liveHalf = x.liveHalf := by unfold Ctx.ws; split <;> rfl
@[simp] theorem Ctx.ws_owedN (x : Ctx) (r : Nat) (v : Word) : (x.ws r v).owedN = x.owedN := by unfold Ctx.ws; split <;> rfl
@[simp] theorem Ctx.ws_owedB (x : Ctx) (r : Nat) (v : Word) : (x.ws r v).owedB = x.owedB := by unfold Ctx.ws; split <;> rfl
@[simp] theorem Ctx.ws_savedB (x : Ctx) (r : Nat) (v : Word) : (x.ws r v).savedB = x.savedB := by unfold Ctx.ws; split <;> rfl
@[simp] theorem Ctx.ws_bubbles (x : Ctx) (r : Nat) (v : Word) : (x.ws r v).bubbles = x.bubbles := by unfold Ctx.ws; split <;> rfl
@[simp] theorem Ctx.ws_loop (x : Ctx) (r : Nat) (v : Word) : (x.ws r v).loop = x.loop := by unfold Ctx.ws; split <;> rfl
@[simp] theorem Ctx.ws_suspended (x : Ctx) (r : Nat) (v : Word) : (x.ws r v).suspended = x.suspended := by unfold Ctx.ws; split <;> rfl
@[simp] theorem Ctx.ws_windows (x : Ctx) (r : Nat) (v : Word) : (x.ws r v).windows = x.windows := by unfold Ctx.ws; split <;> rfl
@[simp] theorem Ctx.ws_pend (x : Ctx) (r : Nat) (v : Word) : (x.ws r v).pend = x.pend := by unfold Ctx.ws; split <;> rfl
@[simp] theorem Ctx.ws_replay (x : Ctx) (r : Nat) (v : Word) : (x.ws r v).replay = x.replay := by unfold Ctx.ws; split <;> rfl
@[simp] theorem Ctx.ws_replayAt (x : Ctx) (r : Nat) (v : Word) : (x.ws r v).replayAt = x.replayAt := by unfold Ctx.ws; split <;> rfl
@[simp] theorem Ctx.ws_replayArmed (x : Ctx) (r : Nat) (v : Word) : (x.ws r v).replayArmed = x.replayArmed := by unfold Ctx.ws; split <;> rfl
@[simp] theorem Ctx.ws_clock (x : Ctx) (r : Nat) (v : Word) : (x.ws r v).clock = x.clock := by unfold Ctx.ws; split <;> rfl
@[simp] theorem Ctx.ws_quantumAt (x : Ctx) (r : Nat) (v : Word) : (x.ws r v).quantumAt = x.quantumAt := by unfold Ctx.ws; split <;> rfl
@[simp] theorem Ctx.ws_quantumDone (x : Ctx) (r : Nat) (v : Word) : (x.ws r v).quantumDone = x.quantumDone := by unfold Ctx.ws; split <;> rfl
@[simp] theorem Ctx.ws_life (x : Ctx) (r : Nat) (v : Word) : (x.ws r v).life = x.life := by unfold Ctx.ws; split <;> rfl
@[simp] theorem Ctx.ws_wait (x : Ctx) (r : Nat) (v : Word) : (x.ws r v).wait = x.wait := by unfold Ctx.ws; split <;> rfl
@[simp] theorem Ctx.ws_waitOver (x : Ctx) (r : Nat) (v : Word) : (x.ws r v).waitOver = x.waitOver := by unfold Ctx.ws; split <;> rfl
@[simp] theorem Ctx.ws_svcHeld (x : Ctx) (r : Nat) (v : Word) : (x.ws r v).svcHeld = x.svcHeld := by unfold Ctx.ws; split <;> rfl
@[simp] theorem Ctx.ws_after (x : Ctx) (r : Nat) (v : Word) : (x.ws r v).after = x.after := by unfold Ctx.ws; split <;> rfl
@[simp] theorem Ctx.ws_savedAfter (x : Ctx) (r : Nat) (v : Word) : (x.ws r v).savedAfter = x.savedAfter := by unfold Ctx.ws; split <;> rfl
@[simp] theorem Ctx.ws_engineTraps (x : Ctx) (r : Nat) (v : Word) : (x.ws r v).engineTraps = x.engineTraps := by unfold Ctx.ws; split <;> rfl
@[simp] theorem Ctx.ws_xfer (x : Ctx) (r : Nat) (v : Word) : (x.ws r v).xfer = x.xfer := by unfold Ctx.ws; split <;> rfl
@[simp] theorem Ctx.ws_poison (x : Ctx) (r : Nat) (v : Word) : (x.ws r v).poison = x.poison := by unfold Ctx.ws; split <;> rfl
@[simp] theorem Ctx.ws_launch (x : Ctx) (r : Nat) (v : Word) : (x.ws r v).launch = x.launch := by unfold Ctx.ws; split <;> rfl
@[simp] theorem Ctx.ws_launchCtx (x : Ctx) (r : Nat) (v : Word) : (x.ws r v).launchCtx = x.launchCtx := by unfold Ctx.ws; split <;> rfl
@[simp] theorem Ctx.ws_originRank (x : Ctx) (r : Nat) (v : Word) : (x.ws r v).originRank = x.originRank := by unfold Ctx.ws; split <;> rfl
@[simp] theorem Ctx.ws_part (x : Ctx) (r : Nat) (v : Word) : (x.ws r v).part = x.part := by unfold Ctx.ws; split <;> rfl
@[simp] theorem Ctx.ws_tileBase (x : Ctx) (r : Nat) (v : Word) : (x.ws r v).tileBase = x.tileBase := by unfold Ctx.ws; split <;> rfl
@[simp] theorem Ctx.ws_tileCount (x : Ctx) (r : Nat) (v : Word) : (x.ws r v).tileCount = x.tileCount := by unfold Ctx.ws; split <;> rfl
@[simp] theorem Ctx.ws_startedAt (x : Ctx) (r : Nat) (v : Word) : (x.ws r v).startedAt = x.startedAt := by unfold Ctx.ws; split <;> rfl
@[simp] theorem Ctx.ws_feFrozen (x : Ctx) (r : Nat) (v : Word) : (x.ws r v).feFrozen = x.feFrozen := by unfold Ctx.ws; split <;> rfl
@[simp] theorem Ctx.ws_tag (x : Ctx) (r : Nat) (v : Word) : (x.ws r v).tag = x.tag := by unfold Ctx.ws; split <;> rfl
@[simp] theorem Ctx.ws_kvRefused (x : Ctx) (r : Nat) (v : Word) : (x.ws r v).kvRefused = x.kvRefused := by unfold Ctx.ws; split <;> rfl
@[simp] theorem Ctx.ws_svcFor (x : Ctx) (r : Nat) (v : Word) : (x.ws r v).svcFor = x.svcFor := by unfold Ctx.ws; split <;> rfl
@[simp] theorem Ctx.ws_syncSaved (x : Ctx) (r : Nat) (v : Word) : (x.ws r v).syncSaved = x.syncSaved := by unfold Ctx.ws; split <;> rfl
@[simp] theorem Ctx.ws_dumped (x : Ctx) (r : Nat) (v : Word) : (x.ws r v).dumped = x.dumped := by unfold Ctx.ws; split <;> rfl
@[simp] theorem Ctx.ws_trapOp (x : Ctx) (r : Nat) (v : Word) : (x.ws r v).trapOp = x.trapOp := by unfold Ctx.ws; split <;> rfl
@[simp] theorem Ctx.ws_trapSeq (x : Ctx) (r : Nat) (v : Word) : (x.ws r v).trapSeq = x.trapSeq := by unfold Ctx.ws; split <;> rfl
@[simp] theorem Ctx.ws_replayOwed (x : Ctx) (r : Nat) (v : Word) : (x.ws r v).replayOwed = x.replayOwed := by unfold Ctx.ws; split <;> rfl
@[simp] theorem Ctx.ws_afterNow (x : Ctx) (r : Nat) (v : Word) : (x.ws r v).afterNow = x.afterNow := by unfold Ctx.ws; split <;> rfl
@[simp] theorem Ctx.ws_returns (x : Ctx) (r : Nat) (v : Word) : (x.ws r v).returns = x.returns := by unfold Ctx.ws; split <;> rfl

@[simp] theorem Ctx.wp_s (x : Ctx) (r : Nat) (v : Bool) : (x.wp r v).s = x.s := by unfold Ctx.wp; split <;> rfl
@[simp] theorem Ctx.wp_a (x : Ctx) (r : Nat) (v : Bool) : (x.wp r v).a = x.a := by unfold Ctx.wp; split <;> rfl
@[simp] theorem Ctx.wp_v (x : Ctx) (r : Nat) (v : Bool) : (x.wp r v).v = x.v := by unfold Ctx.wp; split <;> rfl
@[simp] theorem Ctx.wp_vq (x : Ctx) (r : Nat) (v : Bool) : (x.wp r v).vq = x.vq := by unfold Ctx.wp; split <;> rfl
@[simp] theorem Ctx.wp_q (x : Ctx) (r : Nat) (v : Bool) : (x.wp r v).q = x.q := by unfold Ctx.wp; split <;> rfl
@[simp] theorem Ctx.wp_n (x : Ctx) (r : Nat) (v : Bool) : (x.wp r v).n = x.n := by unfold Ctx.wp; split <;> rfl
@[simp] theorem Ctx.wp_fmt (x : Ctx) (r : Nat) (v : Bool) : (x.wp r v).fmt = x.fmt := by unfold Ctx.wp; split <;> rfl
@[simp] theorem Ctx.wp_lfmt (x : Ctx) (r : Nat) (v : Bool) : (x.wp r v).lfmt = x.lfmt := by unfold Ctx.wp; split <;> rfl
@[simp] theorem Ctx.wp_mcfg (x : Ctx) (r : Nat) (v : Bool) : (x.wp r v).mcfg = x.mcfg := by unfold Ctx.wp; split <;> rfl
@[simp] theorem Ctx.wp_mscale (x : Ctx) (r : Nat) (v : Bool) : (x.wp r v).mscale = x.mscale := by unfold Ctx.wp; split <;> rfl
@[simp] theorem Ctx.wp_mlat (x : Ctx) (r : Nat) (v : Bool) : (x.wp r v).mlat = x.mlat := by unfold Ctx.wp; split <;> rfl
@[simp] theorem Ctx.wp_mlatBase (x : Ctx) (r : Nat) (v : Bool) : (x.wp r v).mlatBase = x.mlatBase := by unfold Ctx.wp; split <;> rfl
@[simp] theorem Ctx.wp_trapVec (x : Ctx) (r : Nat) (v : Bool) : (x.wp r v).trapVec = x.trapVec := by unfold Ctx.wp; split <;> rfl
@[simp] theorem Ctx.wp_trapCause (x : Ctx) (r : Nat) (v : Bool) : (x.wp r v).trapCause = x.trapCause := by unfold Ctx.wp; split <;> rfl
@[simp] theorem Ctx.wp_trapPc (x : Ctx) (r : Nat) (v : Bool) : (x.wp r v).trapPc = x.trapPc := by unfold Ctx.wp; split <;> rfl
@[simp] theorem Ctx.wp_trapInfo (x : Ctx) (r : Nat) (v : Bool) : (x.wp r v).trapInfo = x.trapInfo := by unfold Ctx.wp; split <;> rfl
@[simp] theorem Ctx.wp_stkLim (x : Ctx) (r : Nat) (v : Bool) : (x.wp r v).stkLim = x.stkLim := by unfold Ctx.wp; split <;> rfl
@[simp] theorem Ctx.wp_fpFlags (x : Ctx) (r : Nat) (v : Bool) : (x.wp r v).fpFlags = x.fpFlags := by unfold Ctx.wp; split <;> rfl
@[simp] theorem Ctx.wp_fpPend (x : Ctx) (r : Nat) (v : Bool) : (x.wp r v).fpPend = x.fpPend := by unfold Ctx.wp; split <;> rfl
@[simp] theorem Ctx.wp_heapBase (x : Ctx) (r : Nat) (v : Bool) : (x.wp r v).heapBase = x.heapBase := by unfold Ctx.wp; split <;> rfl
@[simp] theorem Ctx.wp_heapLim (x : Ctx) (r : Nat) (v : Bool) : (x.wp r v).heapLim = x.heapLim := by unfold Ctx.wp; split <;> rfl
@[simp] theorem Ctx.wp_heapOff (x : Ctx) (r : Nat) (v : Bool) : (x.wp r v).heapOff = x.heapOff := by unfold Ctx.wp; split <;> rfl
@[simp] theorem Ctx.wp_contain (x : Ctx) (r : Nat) (v : Bool) : (x.wp r v).contain = x.contain := by unfold Ctx.wp; split <;> rfl
@[simp] theorem Ctx.wp_rowProg (x : Ctx) (r : Nat) (v : Bool) : (x.wp r v).rowProg = x.rowProg := by unfold Ctx.wp; split <;> rfl
@[simp] theorem Ctx.wp_prio (x : Ctx) (r : Nat) (v : Bool) : (x.wp r v).prio = x.prio := by unfold Ctx.wp; split <;> rfl
@[simp] theorem Ctx.wp_svcSel (x : Ctx) (r : Nat) (v : Bool) : (x.wp r v).svcSel = x.svcSel := by unfold Ctx.wp; split <;> rfl
@[simp] theorem Ctx.wp_inTrap (x : Ctx) (r : Nat) (v : Bool) : (x.wp r v).inTrap = x.inTrap := by unfold Ctx.wp; split <;> rfl
@[simp] theorem Ctx.wp_priv (x : Ctx) (r : Nat) (v : Bool) : (x.wp r v).priv = x.priv := by unfold Ctx.wp; split <;> rfl
@[simp] theorem Ctx.wp_pc (x : Ctx) (r : Nat) (v : Bool) : (x.wp r v).pc = x.pc := by unfold Ctx.wp; split <;> rfl
@[simp] theorem Ctx.wp_liveHalf (x : Ctx) (r : Nat) (v : Bool) : (x.wp r v).liveHalf = x.liveHalf := by unfold Ctx.wp; split <;> rfl
@[simp] theorem Ctx.wp_owedN (x : Ctx) (r : Nat) (v : Bool) : (x.wp r v).owedN = x.owedN := by unfold Ctx.wp; split <;> rfl
@[simp] theorem Ctx.wp_owedB (x : Ctx) (r : Nat) (v : Bool) : (x.wp r v).owedB = x.owedB := by unfold Ctx.wp; split <;> rfl
@[simp] theorem Ctx.wp_savedB (x : Ctx) (r : Nat) (v : Bool) : (x.wp r v).savedB = x.savedB := by unfold Ctx.wp; split <;> rfl
@[simp] theorem Ctx.wp_bubbles (x : Ctx) (r : Nat) (v : Bool) : (x.wp r v).bubbles = x.bubbles := by unfold Ctx.wp; split <;> rfl
@[simp] theorem Ctx.wp_loop (x : Ctx) (r : Nat) (v : Bool) : (x.wp r v).loop = x.loop := by unfold Ctx.wp; split <;> rfl
@[simp] theorem Ctx.wp_suspended (x : Ctx) (r : Nat) (v : Bool) : (x.wp r v).suspended = x.suspended := by unfold Ctx.wp; split <;> rfl
@[simp] theorem Ctx.wp_windows (x : Ctx) (r : Nat) (v : Bool) : (x.wp r v).windows = x.windows := by unfold Ctx.wp; split <;> rfl
@[simp] theorem Ctx.wp_pend (x : Ctx) (r : Nat) (v : Bool) : (x.wp r v).pend = x.pend := by unfold Ctx.wp; split <;> rfl
@[simp] theorem Ctx.wp_replay (x : Ctx) (r : Nat) (v : Bool) : (x.wp r v).replay = x.replay := by unfold Ctx.wp; split <;> rfl
@[simp] theorem Ctx.wp_replayAt (x : Ctx) (r : Nat) (v : Bool) : (x.wp r v).replayAt = x.replayAt := by unfold Ctx.wp; split <;> rfl
@[simp] theorem Ctx.wp_replayArmed (x : Ctx) (r : Nat) (v : Bool) : (x.wp r v).replayArmed = x.replayArmed := by unfold Ctx.wp; split <;> rfl
@[simp] theorem Ctx.wp_clock (x : Ctx) (r : Nat) (v : Bool) : (x.wp r v).clock = x.clock := by unfold Ctx.wp; split <;> rfl
@[simp] theorem Ctx.wp_quantumAt (x : Ctx) (r : Nat) (v : Bool) : (x.wp r v).quantumAt = x.quantumAt := by unfold Ctx.wp; split <;> rfl
@[simp] theorem Ctx.wp_quantumDone (x : Ctx) (r : Nat) (v : Bool) : (x.wp r v).quantumDone = x.quantumDone := by unfold Ctx.wp; split <;> rfl
@[simp] theorem Ctx.wp_life (x : Ctx) (r : Nat) (v : Bool) : (x.wp r v).life = x.life := by unfold Ctx.wp; split <;> rfl
@[simp] theorem Ctx.wp_wait (x : Ctx) (r : Nat) (v : Bool) : (x.wp r v).wait = x.wait := by unfold Ctx.wp; split <;> rfl
@[simp] theorem Ctx.wp_waitOver (x : Ctx) (r : Nat) (v : Bool) : (x.wp r v).waitOver = x.waitOver := by unfold Ctx.wp; split <;> rfl
@[simp] theorem Ctx.wp_svcHeld (x : Ctx) (r : Nat) (v : Bool) : (x.wp r v).svcHeld = x.svcHeld := by unfold Ctx.wp; split <;> rfl
@[simp] theorem Ctx.wp_after (x : Ctx) (r : Nat) (v : Bool) : (x.wp r v).after = x.after := by unfold Ctx.wp; split <;> rfl
@[simp] theorem Ctx.wp_savedAfter (x : Ctx) (r : Nat) (v : Bool) : (x.wp r v).savedAfter = x.savedAfter := by unfold Ctx.wp; split <;> rfl
@[simp] theorem Ctx.wp_engineTraps (x : Ctx) (r : Nat) (v : Bool) : (x.wp r v).engineTraps = x.engineTraps := by unfold Ctx.wp; split <;> rfl
@[simp] theorem Ctx.wp_xfer (x : Ctx) (r : Nat) (v : Bool) : (x.wp r v).xfer = x.xfer := by unfold Ctx.wp; split <;> rfl
@[simp] theorem Ctx.wp_poison (x : Ctx) (r : Nat) (v : Bool) : (x.wp r v).poison = x.poison := by unfold Ctx.wp; split <;> rfl
@[simp] theorem Ctx.wp_launch (x : Ctx) (r : Nat) (v : Bool) : (x.wp r v).launch = x.launch := by unfold Ctx.wp; split <;> rfl
@[simp] theorem Ctx.wp_launchCtx (x : Ctx) (r : Nat) (v : Bool) : (x.wp r v).launchCtx = x.launchCtx := by unfold Ctx.wp; split <;> rfl
@[simp] theorem Ctx.wp_originRank (x : Ctx) (r : Nat) (v : Bool) : (x.wp r v).originRank = x.originRank := by unfold Ctx.wp; split <;> rfl
@[simp] theorem Ctx.wp_part (x : Ctx) (r : Nat) (v : Bool) : (x.wp r v).part = x.part := by unfold Ctx.wp; split <;> rfl
@[simp] theorem Ctx.wp_tileBase (x : Ctx) (r : Nat) (v : Bool) : (x.wp r v).tileBase = x.tileBase := by unfold Ctx.wp; split <;> rfl
@[simp] theorem Ctx.wp_tileCount (x : Ctx) (r : Nat) (v : Bool) : (x.wp r v).tileCount = x.tileCount := by unfold Ctx.wp; split <;> rfl
@[simp] theorem Ctx.wp_startedAt (x : Ctx) (r : Nat) (v : Bool) : (x.wp r v).startedAt = x.startedAt := by unfold Ctx.wp; split <;> rfl
@[simp] theorem Ctx.wp_feFrozen (x : Ctx) (r : Nat) (v : Bool) : (x.wp r v).feFrozen = x.feFrozen := by unfold Ctx.wp; split <;> rfl
@[simp] theorem Ctx.wp_tag (x : Ctx) (r : Nat) (v : Bool) : (x.wp r v).tag = x.tag := by unfold Ctx.wp; split <;> rfl
@[simp] theorem Ctx.wp_kvRefused (x : Ctx) (r : Nat) (v : Bool) : (x.wp r v).kvRefused = x.kvRefused := by unfold Ctx.wp; split <;> rfl
@[simp] theorem Ctx.wp_svcFor (x : Ctx) (r : Nat) (v : Bool) : (x.wp r v).svcFor = x.svcFor := by unfold Ctx.wp; split <;> rfl
@[simp] theorem Ctx.wp_syncSaved (x : Ctx) (r : Nat) (v : Bool) : (x.wp r v).syncSaved = x.syncSaved := by unfold Ctx.wp; split <;> rfl
@[simp] theorem Ctx.wp_dumped (x : Ctx) (r : Nat) (v : Bool) : (x.wp r v).dumped = x.dumped := by unfold Ctx.wp; split <;> rfl
@[simp] theorem Ctx.wp_trapOp (x : Ctx) (r : Nat) (v : Bool) : (x.wp r v).trapOp = x.trapOp := by unfold Ctx.wp; split <;> rfl
@[simp] theorem Ctx.wp_trapSeq (x : Ctx) (r : Nat) (v : Bool) : (x.wp r v).trapSeq = x.trapSeq := by unfold Ctx.wp; split <;> rfl
@[simp] theorem Ctx.wp_replayOwed (x : Ctx) (r : Nat) (v : Bool) : (x.wp r v).replayOwed = x.replayOwed := by unfold Ctx.wp; split <;> rfl
@[simp] theorem Ctx.wp_afterNow (x : Ctx) (r : Nat) (v : Bool) : (x.wp r v).afterNow = x.afterNow := by unfold Ctx.wp; split <;> rfl
@[simp] theorem Ctx.wp_returns (x : Ctx) (r : Nat) (v : Bool) : (x.wp r v).returns = x.returns := by unfold Ctx.wp; split <;> rfl

@[simp] theorem Ctx.wvq_s (x : Ctx) (r : Nat) (v : BitVec 64) : (x.wvq r v).s = x.s := by unfold Ctx.wvq; split <;> rfl
@[simp] theorem Ctx.wvq_a (x : Ctx) (r : Nat) (v : BitVec 64) : (x.wvq r v).a = x.a := by unfold Ctx.wvq; split <;> rfl
@[simp] theorem Ctx.wvq_p (x : Ctx) (r : Nat) (v : BitVec 64) : (x.wvq r v).p = x.p := by unfold Ctx.wvq; split <;> rfl
@[simp] theorem Ctx.wvq_v (x : Ctx) (r : Nat) (v : BitVec 64) : (x.wvq r v).v = x.v := by unfold Ctx.wvq; split <;> rfl
@[simp] theorem Ctx.wvq_q (x : Ctx) (r : Nat) (v : BitVec 64) : (x.wvq r v).q = x.q := by unfold Ctx.wvq; split <;> rfl
@[simp] theorem Ctx.wvq_n (x : Ctx) (r : Nat) (v : BitVec 64) : (x.wvq r v).n = x.n := by unfold Ctx.wvq; split <;> rfl
@[simp] theorem Ctx.wvq_fmt (x : Ctx) (r : Nat) (v : BitVec 64) : (x.wvq r v).fmt = x.fmt := by unfold Ctx.wvq; split <;> rfl
@[simp] theorem Ctx.wvq_lfmt (x : Ctx) (r : Nat) (v : BitVec 64) : (x.wvq r v).lfmt = x.lfmt := by unfold Ctx.wvq; split <;> rfl
@[simp] theorem Ctx.wvq_mcfg (x : Ctx) (r : Nat) (v : BitVec 64) : (x.wvq r v).mcfg = x.mcfg := by unfold Ctx.wvq; split <;> rfl
@[simp] theorem Ctx.wvq_mscale (x : Ctx) (r : Nat) (v : BitVec 64) : (x.wvq r v).mscale = x.mscale := by unfold Ctx.wvq; split <;> rfl
@[simp] theorem Ctx.wvq_mlat (x : Ctx) (r : Nat) (v : BitVec 64) : (x.wvq r v).mlat = x.mlat := by unfold Ctx.wvq; split <;> rfl
@[simp] theorem Ctx.wvq_mlatBase (x : Ctx) (r : Nat) (v : BitVec 64) : (x.wvq r v).mlatBase = x.mlatBase := by unfold Ctx.wvq; split <;> rfl
@[simp] theorem Ctx.wvq_trapVec (x : Ctx) (r : Nat) (v : BitVec 64) : (x.wvq r v).trapVec = x.trapVec := by unfold Ctx.wvq; split <;> rfl
@[simp] theorem Ctx.wvq_trapCause (x : Ctx) (r : Nat) (v : BitVec 64) : (x.wvq r v).trapCause = x.trapCause := by unfold Ctx.wvq; split <;> rfl
@[simp] theorem Ctx.wvq_trapPc (x : Ctx) (r : Nat) (v : BitVec 64) : (x.wvq r v).trapPc = x.trapPc := by unfold Ctx.wvq; split <;> rfl
@[simp] theorem Ctx.wvq_trapInfo (x : Ctx) (r : Nat) (v : BitVec 64) : (x.wvq r v).trapInfo = x.trapInfo := by unfold Ctx.wvq; split <;> rfl
@[simp] theorem Ctx.wvq_stkLim (x : Ctx) (r : Nat) (v : BitVec 64) : (x.wvq r v).stkLim = x.stkLim := by unfold Ctx.wvq; split <;> rfl
@[simp] theorem Ctx.wvq_fpFlags (x : Ctx) (r : Nat) (v : BitVec 64) : (x.wvq r v).fpFlags = x.fpFlags := by unfold Ctx.wvq; split <;> rfl
@[simp] theorem Ctx.wvq_fpPend (x : Ctx) (r : Nat) (v : BitVec 64) : (x.wvq r v).fpPend = x.fpPend := by unfold Ctx.wvq; split <;> rfl
@[simp] theorem Ctx.wvq_heapBase (x : Ctx) (r : Nat) (v : BitVec 64) : (x.wvq r v).heapBase = x.heapBase := by unfold Ctx.wvq; split <;> rfl
@[simp] theorem Ctx.wvq_heapLim (x : Ctx) (r : Nat) (v : BitVec 64) : (x.wvq r v).heapLim = x.heapLim := by unfold Ctx.wvq; split <;> rfl
@[simp] theorem Ctx.wvq_heapOff (x : Ctx) (r : Nat) (v : BitVec 64) : (x.wvq r v).heapOff = x.heapOff := by unfold Ctx.wvq; split <;> rfl
@[simp] theorem Ctx.wvq_contain (x : Ctx) (r : Nat) (v : BitVec 64) : (x.wvq r v).contain = x.contain := by unfold Ctx.wvq; split <;> rfl
@[simp] theorem Ctx.wvq_rowProg (x : Ctx) (r : Nat) (v : BitVec 64) : (x.wvq r v).rowProg = x.rowProg := by unfold Ctx.wvq; split <;> rfl
@[simp] theorem Ctx.wvq_prio (x : Ctx) (r : Nat) (v : BitVec 64) : (x.wvq r v).prio = x.prio := by unfold Ctx.wvq; split <;> rfl
@[simp] theorem Ctx.wvq_svcSel (x : Ctx) (r : Nat) (v : BitVec 64) : (x.wvq r v).svcSel = x.svcSel := by unfold Ctx.wvq; split <;> rfl
@[simp] theorem Ctx.wvq_inTrap (x : Ctx) (r : Nat) (v : BitVec 64) : (x.wvq r v).inTrap = x.inTrap := by unfold Ctx.wvq; split <;> rfl
@[simp] theorem Ctx.wvq_priv (x : Ctx) (r : Nat) (v : BitVec 64) : (x.wvq r v).priv = x.priv := by unfold Ctx.wvq; split <;> rfl
@[simp] theorem Ctx.wvq_pc (x : Ctx) (r : Nat) (v : BitVec 64) : (x.wvq r v).pc = x.pc := by unfold Ctx.wvq; split <;> rfl
@[simp] theorem Ctx.wvq_liveHalf (x : Ctx) (r : Nat) (v : BitVec 64) : (x.wvq r v).liveHalf = x.liveHalf := by unfold Ctx.wvq; split <;> rfl
@[simp] theorem Ctx.wvq_owedN (x : Ctx) (r : Nat) (v : BitVec 64) : (x.wvq r v).owedN = x.owedN := by unfold Ctx.wvq; split <;> rfl
@[simp] theorem Ctx.wvq_owedB (x : Ctx) (r : Nat) (v : BitVec 64) : (x.wvq r v).owedB = x.owedB := by unfold Ctx.wvq; split <;> rfl
@[simp] theorem Ctx.wvq_savedB (x : Ctx) (r : Nat) (v : BitVec 64) : (x.wvq r v).savedB = x.savedB := by unfold Ctx.wvq; split <;> rfl
@[simp] theorem Ctx.wvq_bubbles (x : Ctx) (r : Nat) (v : BitVec 64) : (x.wvq r v).bubbles = x.bubbles := by unfold Ctx.wvq; split <;> rfl
@[simp] theorem Ctx.wvq_loop (x : Ctx) (r : Nat) (v : BitVec 64) : (x.wvq r v).loop = x.loop := by unfold Ctx.wvq; split <;> rfl
@[simp] theorem Ctx.wvq_suspended (x : Ctx) (r : Nat) (v : BitVec 64) : (x.wvq r v).suspended = x.suspended := by unfold Ctx.wvq; split <;> rfl
@[simp] theorem Ctx.wvq_windows (x : Ctx) (r : Nat) (v : BitVec 64) : (x.wvq r v).windows = x.windows := by unfold Ctx.wvq; split <;> rfl
@[simp] theorem Ctx.wvq_pend (x : Ctx) (r : Nat) (v : BitVec 64) : (x.wvq r v).pend = x.pend := by unfold Ctx.wvq; split <;> rfl
@[simp] theorem Ctx.wvq_replay (x : Ctx) (r : Nat) (v : BitVec 64) : (x.wvq r v).replay = x.replay := by unfold Ctx.wvq; split <;> rfl
@[simp] theorem Ctx.wvq_replayAt (x : Ctx) (r : Nat) (v : BitVec 64) : (x.wvq r v).replayAt = x.replayAt := by unfold Ctx.wvq; split <;> rfl
@[simp] theorem Ctx.wvq_replayArmed (x : Ctx) (r : Nat) (v : BitVec 64) : (x.wvq r v).replayArmed = x.replayArmed := by unfold Ctx.wvq; split <;> rfl
@[simp] theorem Ctx.wvq_clock (x : Ctx) (r : Nat) (v : BitVec 64) : (x.wvq r v).clock = x.clock := by unfold Ctx.wvq; split <;> rfl
@[simp] theorem Ctx.wvq_quantumAt (x : Ctx) (r : Nat) (v : BitVec 64) : (x.wvq r v).quantumAt = x.quantumAt := by unfold Ctx.wvq; split <;> rfl
@[simp] theorem Ctx.wvq_quantumDone (x : Ctx) (r : Nat) (v : BitVec 64) : (x.wvq r v).quantumDone = x.quantumDone := by unfold Ctx.wvq; split <;> rfl
@[simp] theorem Ctx.wvq_life (x : Ctx) (r : Nat) (v : BitVec 64) : (x.wvq r v).life = x.life := by unfold Ctx.wvq; split <;> rfl
@[simp] theorem Ctx.wvq_wait (x : Ctx) (r : Nat) (v : BitVec 64) : (x.wvq r v).wait = x.wait := by unfold Ctx.wvq; split <;> rfl
@[simp] theorem Ctx.wvq_waitOver (x : Ctx) (r : Nat) (v : BitVec 64) : (x.wvq r v).waitOver = x.waitOver := by unfold Ctx.wvq; split <;> rfl
@[simp] theorem Ctx.wvq_svcHeld (x : Ctx) (r : Nat) (v : BitVec 64) : (x.wvq r v).svcHeld = x.svcHeld := by unfold Ctx.wvq; split <;> rfl
@[simp] theorem Ctx.wvq_after (x : Ctx) (r : Nat) (v : BitVec 64) : (x.wvq r v).after = x.after := by unfold Ctx.wvq; split <;> rfl
@[simp] theorem Ctx.wvq_savedAfter (x : Ctx) (r : Nat) (v : BitVec 64) : (x.wvq r v).savedAfter = x.savedAfter := by unfold Ctx.wvq; split <;> rfl
@[simp] theorem Ctx.wvq_engineTraps (x : Ctx) (r : Nat) (v : BitVec 64) : (x.wvq r v).engineTraps = x.engineTraps := by unfold Ctx.wvq; split <;> rfl
@[simp] theorem Ctx.wvq_xfer (x : Ctx) (r : Nat) (v : BitVec 64) : (x.wvq r v).xfer = x.xfer := by unfold Ctx.wvq; split <;> rfl
@[simp] theorem Ctx.wvq_poison (x : Ctx) (r : Nat) (v : BitVec 64) : (x.wvq r v).poison = x.poison := by unfold Ctx.wvq; split <;> rfl
@[simp] theorem Ctx.wvq_launch (x : Ctx) (r : Nat) (v : BitVec 64) : (x.wvq r v).launch = x.launch := by unfold Ctx.wvq; split <;> rfl
@[simp] theorem Ctx.wvq_launchCtx (x : Ctx) (r : Nat) (v : BitVec 64) : (x.wvq r v).launchCtx = x.launchCtx := by unfold Ctx.wvq; split <;> rfl
@[simp] theorem Ctx.wvq_originRank (x : Ctx) (r : Nat) (v : BitVec 64) : (x.wvq r v).originRank = x.originRank := by unfold Ctx.wvq; split <;> rfl
@[simp] theorem Ctx.wvq_part (x : Ctx) (r : Nat) (v : BitVec 64) : (x.wvq r v).part = x.part := by unfold Ctx.wvq; split <;> rfl
@[simp] theorem Ctx.wvq_tileBase (x : Ctx) (r : Nat) (v : BitVec 64) : (x.wvq r v).tileBase = x.tileBase := by unfold Ctx.wvq; split <;> rfl
@[simp] theorem Ctx.wvq_tileCount (x : Ctx) (r : Nat) (v : BitVec 64) : (x.wvq r v).tileCount = x.tileCount := by unfold Ctx.wvq; split <;> rfl
@[simp] theorem Ctx.wvq_startedAt (x : Ctx) (r : Nat) (v : BitVec 64) : (x.wvq r v).startedAt = x.startedAt := by unfold Ctx.wvq; split <;> rfl
@[simp] theorem Ctx.wvq_feFrozen (x : Ctx) (r : Nat) (v : BitVec 64) : (x.wvq r v).feFrozen = x.feFrozen := by unfold Ctx.wvq; split <;> rfl
@[simp] theorem Ctx.wvq_tag (x : Ctx) (r : Nat) (v : BitVec 64) : (x.wvq r v).tag = x.tag := by unfold Ctx.wvq; split <;> rfl
@[simp] theorem Ctx.wvq_kvRefused (x : Ctx) (r : Nat) (v : BitVec 64) : (x.wvq r v).kvRefused = x.kvRefused := by unfold Ctx.wvq; split <;> rfl
@[simp] theorem Ctx.wvq_svcFor (x : Ctx) (r : Nat) (v : BitVec 64) : (x.wvq r v).svcFor = x.svcFor := by unfold Ctx.wvq; split <;> rfl
@[simp] theorem Ctx.wvq_syncSaved (x : Ctx) (r : Nat) (v : BitVec 64) : (x.wvq r v).syncSaved = x.syncSaved := by unfold Ctx.wvq; split <;> rfl
@[simp] theorem Ctx.wvq_dumped (x : Ctx) (r : Nat) (v : BitVec 64) : (x.wvq r v).dumped = x.dumped := by unfold Ctx.wvq; split <;> rfl
@[simp] theorem Ctx.wvq_trapOp (x : Ctx) (r : Nat) (v : BitVec 64) : (x.wvq r v).trapOp = x.trapOp := by unfold Ctx.wvq; split <;> rfl
@[simp] theorem Ctx.wvq_trapSeq (x : Ctx) (r : Nat) (v : BitVec 64) : (x.wvq r v).trapSeq = x.trapSeq := by unfold Ctx.wvq; split <;> rfl
@[simp] theorem Ctx.wvq_replayOwed (x : Ctx) (r : Nat) (v : BitVec 64) : (x.wvq r v).replayOwed = x.replayOwed := by unfold Ctx.wvq; split <;> rfl
@[simp] theorem Ctx.wvq_afterNow (x : Ctx) (r : Nat) (v : BitVec 64) : (x.wvq r v).afterNow = x.afterNow := by unfold Ctx.wvq; split <;> rfl
@[simp] theorem Ctx.wvq_returns (x : Ctx) (r : Nat) (v : BitVec 64) : (x.wvq r v).returns = x.returns := by unfold Ctx.wvq; split <;> rfl

/-! ### Reads after updates -/

@[simp] theorem State.core_setCore_self (s : State) (r : Nat) (c : Core) : (s.setCore r c).core r = c := by
  simp [State.core, State.setCore]

theorem State.core_setCore_ne (s : State) {r q : Nat} (c : Core) (h : q ≠ r) : (s.setCore r c).core q = s.core q := by
  simp [State.core, State.setCore, Map.get_put_ne _ _ _ h]

theorem State.core_setCore (s : State) (r q : Nat) (c : Core) : (s.setCore r c).core q = if q = r then c else s.core q := by
  by_cases h : q = r
  · subst h; simp
  · simp [h, State.core_setCore_ne]

@[simp] theorem Core.ctx_setCtx_self (c : Core) (i : Nat) (x : Ctx) : (c.setCtx i x).ctx i = x := by
  simp [Core.ctx, Core.setCtx]

theorem Core.ctx_setCtx_ne (c : Core) {i j : Nat} (x : Ctx) (h : j ≠ i) : (c.setCtx i x).ctx j = c.ctx j := by
  simp [Core.ctx, Core.setCtx, Map.get_put_ne _ _ _ h]

theorem Core.ctx_setCtx (c : Core) (i j : Nat) (x : Ctx) : (c.setCtx i x).ctx j = if j = i then x else c.ctx j := by
  by_cases h : j = i
  · subst h; simp
  · simp [h, Core.ctx_setCtx_ne]

@[simp] theorem State.me_updCore (s : State) (f : Core → Core) : (s.updCore f).me = f s.me := by
  simp [State.me, State.updCore]

theorem State.core_updCore (s : State) (f : Core → Core) (q : Nat) :
    (s.updCore f).core q = if q = s.cur then f s.me else s.core q := by
  simp [State.updCore, State.core_setCore]

@[simp] theorem State.me_setCtx (s : State) (x : Ctx) : (s.setCtx x).me = s.me.setCtx s.who x := by
  simp [State.setCtx]

@[simp] theorem State.ctx_setCtx (s : State) (x : Ctx) : (s.setCtx x).ctx = x := by
  simp [State.ctx, State.setCtx]

@[simp] theorem State.me_updCtx (s : State) (f : Ctx → Ctx) : (s.updCtx f).me = s.me.setCtx s.who (f s.ctx) := by
  simp [State.updCtx]

@[simp] theorem State.ctx_updCtx (s : State) (f : Ctx → Ctx) : (s.updCtx f).ctx = f s.ctx := by
  simp [State.updCtx]

@[simp] theorem State.ctx_updCore (s : State) (f : Core → Core) : (s.updCore f).ctx = (f s.me).ctx s.who := by
  simp [State.ctx]

/-! ### Registers (R5, R15, R18) -/

/-- s0 reads 0, whatever was written. -/
@[simp] theorem Ctx.rs_zero (x : Ctx) : x.rs 0#5 = 0#32 := rfl

/-- A scalar register reads what was written last; s0 reads 0. -/
theorem Ctx.rs_ws (x : Ctx) (r : BitVec 5) (k : Nat) (v : Word) :
    (x.ws k v).rs r = if r.toNat = k ∧ r ≠ 0 then v else x.rs r := by
  by_cases hr : r = 0
  · subst hr; simp
  · have h0 : r.toNat ≠ 0 := fun h => hr (BitVec.eq_of_toNat_eq (by simpa using h))
    by_cases hk : k = 0
    · subst hk; simp [Ctx.ws, h0]
    · have hz : r ≠ 0#5 := hr
      simp only [Ctx.ws, hk, if_false, Ctx.rs, Map.get_write, hr]
      simp [hz]

/-- An address register reads what was written last. -/
theorem Ctx.ra_wa (x : Ctx) (r : BitVec 4) (k : Nat) (v : DWord) :
    (x.wa k v).ra r = if r.toNat = k then v else x.ra r := by
  simp [Ctx.wa, Ctx.ra, Map.get_write]

/-- A vector register takes the masked bits. -/
theorem Ctx.rv_wv (x : Ctx) (r k : Nat) (v m : VReg) :
    (x.wv k v m).rv r = if r = k then (x.rv k &&& ~~~m) ||| (v &&& m) else x.rv r := by
  simp [Ctx.wv, Ctx.rv, Map.get_write]

/-- vq0 reads all ones, whatever was written. -/
@[simp] theorem Ctx.rvq_zero (x : Ctx) : x.rvq 0 = BitVec.allOnes 64 := rfl

/-- A mask register reads what was written last; vq0 reads all ones. -/
theorem Ctx.rvq_wvq (x : Ctx) (r k : Nat) (v : BitVec 64) :
    (x.wvq k v).rvq r = if r = k ∧ r ≠ 0 then v else x.rvq r := by
  by_cases hr : r = 0
  · subst hr; simp
  · by_cases hk : k = 0
    · subst hk; simp [Ctx.wvq, hr]
    · simp [Ctx.wvq, hk, Ctx.rvq, hr, Map.get_write]

end Sys2Proof.Machine
end

