-- ==== Sys2Proof/Laws/Act.lean ====
section
/-! SUPPORT. What the meaning of one slot word can do (R17, R20): the laws that a statement about an instruction cites. -/
namespace Sys2Proof.Machine
open Sys2Proof

/-- The meaning of a slot instruction is its Act run alone. -/
theorem exec_act {i : Instr} {a : Act} (s : State) (h : actOf i = some a) :
    exec i s = .next (runAct i (slotOf i) a s) := by
  cases i <;> first
    | (simp only [actOf, Option.some.injEq] at h; subst h; rfl)
    | (simp [actOf] at h)

/-- An instruction that nothing holds waits for no array. -/
theorem arrayHeld_of_holdIn {a : Act} {k : Nat} {s : State} (h : a.holdIn k s = none) : a.arrayHeld s = none := by
  have h0 : a.hold s = none := by
    unfold Act.holdIn at h
    split at h
    · cases h
    · exact h
  simp [Act.arrayHeld, h0]

/-- An instruction whose guard is false waits for no array. -/
theorem arrayHeld_of_guard {a : Act} {s : State} (h : a.guarded s = false) : a.arrayHeld s = none := by simp [Act.arrayHeld, h]

/-- An instruction that performs in the class of none but the M slot waits for no array: its hold is no array's. -/
theorem arrayHeld_of_hold {a : Act} {s : State} (h : a.hold s ≠ some .bubble ∧ a.hold s ≠ some .array) : a.arrayHeld s = none := by
  unfold Act.arrayHeld
  split
  · split <;> simp_all
  · rfl

/-- An instruction that issues performs on the state at issue. -/
theorem runAct_issues {i : Instr} {a : Act} {s : State} (h : s.issues i a) :
    runAct i (slotOf i) a s = a.perform (slotOf i) s s := by
  obtain ⟨hw, hb, hp, ⟨hg, hq⟩, hu, hc, hh⟩ := h
  have h0 : i.decodeCheck = none := by simpa [Instr.wf] using hw
  have h1 : decodeFault i a s = none := by
    unfold decodeFault
    by_cases p : a.priv = true
    · simp [h0, hb, hp p]
    · simp [h0, hb, p]
  have h2 : issueFault a s = none := by simp [issueFault, Act.guarded, hq, hg, hu, hc]
  simp [runAct, h1, h2, arrayHeld_of_holdIn hh, Act.guarded, hg, hh]

/-- An instruction that issues answers the state that its performance leaves. -/
theorem exec_issues {i : Instr} {a : Act} {s : State} (ha : actOf i = some a) (h : s.issues i a) :
    exec i s = .next (a.perform (slotOf i) s s) := by rw [exec_act s ha, runAct_issues h]

/-- Outcomes of a slot word alone: a trap at decode, a wait for the array, a fault at issue, nothing, a hold, or the performance
(R17, R20, R169). -/
theorem runAct_cases (i : Instr) (k : Nat) (a : Act) (s : State) :
    (∃ c, decodeFault i a s = some c ∧ runAct i k a s = s.takeTrap { cause := c, slot := k, info := 0 }) ∨
    (∃ h, decodeFault i a s = none ∧ a.arrayHeld s = some h ∧ runAct i k a s = s.holdAt h) ∨
    (∃ f, issueFault a s = some f ∧ runAct i k a s = s.takeFault k f) ∨
    (a.guarded s = false ∧ runAct i k a s = s) ∨
    (∃ h, a.guarded s = true ∧ a.holdIn k s = some h ∧ runAct i k a s = s.holdAt h) ∨
    (decodeFault i a s = none ∧ issueFault a s = none ∧ a.guarded s = true ∧ a.holdIn k s = none
      ∧ runAct i k a s = a.perform k s s) := by
  unfold runAct
  cases h1 : decodeFault i a s with
  | some c => exact .inl ⟨c, rfl, rfl⟩
  | none =>
    cases h5 : a.arrayHeld s with
    | some h => exact .inr (.inl ⟨h, rfl, rfl, rfl⟩)
    | none =>
      cases h2 : issueFault a s with
      | some f => exact .inr (.inr (.inl ⟨f, rfl, rfl⟩))
      | none =>
        cases h3 : a.guarded s with
        | false => exact .inr (.inr (.inr (.inl ⟨rfl, by simp⟩)))
        | true =>
          cases h4 : a.holdIn k s with
          | some h => exact .inr (.inr (.inr (.inr (.inl ⟨h, rfl, rfl, by simp⟩))))
          | none => exact .inr (.inr (.inr (.inr (.inr ⟨rfl, rfl, rfl, rfl, by simp⟩))))

/-- Every slot instruction has a meaning as an Act. -/
theorem actOf_isSome {i : Instr} {c : SlotClass} (h : i.slotClass = some c) : (actOf i).isSome = true := by
  cases i <;> first
    | rfl
    | (simp [Instr.slotClass] at h)

end Sys2Proof.Machine
end

