-- ==== Sys2Proof/Laws/Land.lean ====
section
/-! SUPPORT. Results in flight: what putting one in flight does, and what landing one leaves (R15, R36, R55). -/
namespace Sys2Proof.Machine
open Sys2Proof

/-! ### Putting a result in flight -/

/-- A result with the last place in issue order goes to the end. -/
theorem insertPend_last (e : Pend) (l : List Pend) (h : ∀ f ∈ l, f.seq ≤ e.seq) : insertPend e l = l ++ [e] := by
  induction l with
  | nil => rfl
  | cons f l ih =>
    have := h f (by simp)
    simp only [insertPend, Nat.not_lt.2 this, if_false, List.cons_append, ih (fun g hg => h g (by simp [hg]))]

/-- Inserting adds exactly the result. -/
theorem mem_insertPend (e f : Pend) (l : List Pend) : f ∈ insertPend e l ↔ f = e ∨ f ∈ l := by
  induction l with
  | nil => simp [insertPend]
  | cons g l ih =>
    simp only [insertPend]
    split
    · simp
    · simp only [List.mem_cons, ih]
      constructor <;> intro h <;> rcases h with h | h | h <;> simp [h]

/-- Inserting adds one result. -/
theorem length_insertPend (e : Pend) (l : List Pend) : (insertPend e l).length = l.length + 1 := by
  induction l with
  | nil => rfl
  | cons g l ih =>
    simp only [insertPend]
    split
    · simp
    · simp [ih]

/-- The acting context after a result is put in flight: only the list of results has changed. -/
theorem State.ctx_emit (s : State) (lat : Nat) (ws : List RegWrite) (fl : FpFlags) (bad : Bool) :
    (s.emit lat ws fl bad).ctx = { s.ctx with pend := insertPend ⟨s.ctx.clock + lat, s.me.seq, ws, fl, bad⟩ s.ctx.pend } := by
  simp only [State.emit, State.ctx_updCtx, State.ctx_updCore]
  rfl

/-- Another core is as it was. -/
theorem State.core_emit_ne (s : State) (lat : Nat) (ws : List RegWrite) (fl : FpFlags) (bad : Bool) {r : Nat} (h : r ≠ s.cur) :
    (s.emit lat ws fl bad).core r = s.core r := by
  simp [State.emit, State.updCtx, State.setCtx, State.core_updCore, h]

/-- Another context of the acting core is as it was. -/
theorem State.ctx_emit_ne (s : State) (lat : Nat) (ws : List RegWrite) (fl : FpFlags) (bad : Bool) {j : Nat} (h : j ≠ s.who) :
    (s.emit lat ws fl bad).me.ctx j = s.me.ctx j := by
  simp only [State.emit, State.me_updCtx, State.me_updCore]
  exact Core.ctx_setCtx_ne _ _ h

/-! ### Landing -/

@[simp] theorem Core.ctx_setTile (c : Core) (t : Nat) (x : Tile) (j : Nat) : (c.setTile t x).ctx j = c.ctx j := rfl

@[simp] theorem Core.ctx_putElem (c : Core) (fmt : AccFmt) (t i v : Nat) (p : Bool) (j : Nat) :
    (c.putElem fmt t i v p).ctx j = c.ctx j := by
  unfold Core.putElem
  split <;> rfl

/-- A row written to a tile leaves every context. -/
@[simp] theorem Core.ctx_putRow (c : Core) (fmt : AccFmt) (t row type : Nat) (p : Bool) (k : Nat) (l : List Nat) (j : Nat) :
    ((c.putRow fmt t row type p k l).1).ctx j = c.ctx j := by
  induction l generalizing c k with
  | nil => rfl
  | cons v l ih => simp [Core.putRow, ih]

/-- Sums written to a tile leave every context. -/
@[simp] theorem Core.ctx_putSums (c : Core) (fmt : AccFmt) (t rows cols : Nat) (p : Map Bool) (k : Nat) (l : List Nat) (j : Nat) :
    (c.putSums fmt t rows cols p k l).ctx j = c.ctx j := by
  induction l generalizing c k with
  | nil => rfl
  | cons v l ih => simp only [Core.putSums, ih]; split <;> simp

/-- A commit leaves every context. -/
@[simp] theorem Core.ctx_commitCmd (c : Core) (m : MCmd) (j : Nat) : (c.commitCmd m).ctx j = c.ctx j := by
  simp only [Core.commitCmd, Core.ctx_putSums]
  split <;> rfl

/-- What landing one destination leaves: the other contexts, the results in flight, the flags already found, and every register that
it does not name. -/
theorem landWrite_frame (fmts : Nat → AccFmt) (c : Core) (x : Ctx) (b : Bool) (w : RegWrite) :
    (∀ j, (landWrite fmts c x b w).1.ctx j = c.ctx j)
    ∧ (landWrite fmts c x b w).2.1.pend = x.pend ∧ (landWrite fmts c x b w).2.1.fpPend = x.fpPend
    ∧ (∀ r, w.intoS r = false → (landWrite fmts c x b w).2.1.s.get 0 r = x.s.get 0 r)
    ∧ (∀ r, w.intoA r = false → (landWrite fmts c x b w).2.1.a.get 0 r = x.a.get 0 r)
    ∧ (∀ r, w.intoV r = false → (landWrite fmts c x b w).2.1.v.get 0 r = x.v.get 0 r)
    ∧ (∀ r, w.intoVq r = false → (landWrite fmts c x b w).2.1.vq.get 0 r = x.vq.get 0 r) := by
  cases w with
  | s n v =>
    refine ⟨fun _ => rfl, ?_, ?_, fun r h => ?_, fun r h => ?_, fun r h => ?_, fun r h => ?_⟩ <;>
      simp only [landWrite, Ctx.ws] <;> split <;> try rfl
    exact Map.get_write_ne _ _ _ (fun e => by simp [RegWrite.intoS, e] at h)
  | a n v =>
    refine ⟨fun _ => rfl, rfl, rfl, fun r h => rfl, fun r h => ?_, fun r h => rfl, fun r h => rfl⟩
    exact Map.get_write_ne _ _ _ (fun e => by simp [RegWrite.intoA, e] at h)
  | p n v =>
    refine ⟨fun _ => rfl, ?_, ?_, fun r h => ?_, fun r h => ?_, fun r h => ?_, fun r h => ?_⟩ <;>
      simp only [landWrite, Ctx.wp] <;> split <;> rfl
  | v n v m =>
    refine ⟨fun _ => rfl, rfl, rfl, fun r h => rfl, fun r h => rfl, fun r h => ?_, fun r h => rfl⟩
    exact Map.get_write_ne _ _ _ (fun e => by simp [RegWrite.intoV, e] at h)
  | vq n v =>
    refine ⟨fun _ => rfl, ?_, ?_, fun r h => ?_, fun r h => ?_, fun r h => ?_, fun r h => ?_⟩ <;>
      simp only [landWrite, Ctx.wvq] <;> split <;> try rfl
    exact Map.get_write_ne _ _ _ (fun e => by simp [RegWrite.intoVq, e] at h)
  | q t i col v => exact ⟨fun _ => rfl, rfl, rfl, fun r h => rfl, fun r h => rfl, fun r h => rfl, fun r h => rfl⟩
  | accRow t row type lanes =>
    exact ⟨fun j => by simp [landWrite], rfl, rfl, fun r h => rfl, fun r h => rfl, fun r h => rfl, fun r h => rfl⟩
  | mzero t f sc => exact ⟨fun _ => rfl, rfl, rfl, fun r h => rfl, fun r h => rfl, fun r h => rfl, fun r h => rfl⟩
  | commit id =>
    simp only [landWrite]
    split
    · exact ⟨fun _ => rfl, rfl, rfl, fun r h => rfl, fun r h => rfl, fun r h => rfl, fun r h => rfl⟩
    · rename_i m _
      exact ⟨fun j => Core.ctx_commitCmd c m j, rfl, rfl, fun r h => rfl, fun r h => rfl, fun r h => rfl, fun r h => rfl⟩

end Sys2Proof.Machine
end

