-- ==== Sys2Proof/Laws/Memory.lean ====
section
/-! SUPPORT. Every operation over a memory keeps the canonical form, and what reading a byte gives after a write. -/
namespace Sys2Proof

/-- Entries of a canonical memory are not what an unlisted address reads as. -/
theorem Map.memWf_ne {α : Type} [DecidableEq α] {d : α} {m : Map α} (h : Map.memWf d m = true) : ∀ e ∈ m, e.2 ≠ d := by
  induction m with
  | nil => simp
  | cons e rest ih =>
    obtain ⟨k, v⟩ := e
    simp only [Map.memWf, Bool.and_eq_true] at h
    intro f hf
    rcases List.mem_cons.1 hf with rfl | hf
    · exact of_decide_eq_true h.1.1
    · exact ih h.2 f hf

theorem Map.above_filter {α : Type} (p : Nat × α → Bool) (m : Map α) (j : Nat) (h : Map.above j m = true) :
    Map.above j (m.filter p) = true := by
  induction m with
  | nil => rfl
  | cons e rest ih =>
    obtain ⟨k, v⟩ := e
    simp only [Map.above, Bool.and_eq_true] at h
    by_cases hp : p (k, v) = true
    · simp [hp, Map.above, of_decide_eq_true h.1, ih h.2]
    · simpa [List.filter_cons, hp] using ih h.2

/-- A part of a canonical memory is canonical. -/
theorem Map.memWf_filter {α : Type} [DecidableEq α] (d : α) (p : Nat × α → Bool) (m : Map α) (h : Map.memWf d m = true) :
    Map.memWf d (m.filter p) = true := by
  induction m with
  | nil => rfl
  | cons e rest ih =>
    obtain ⟨k, v⟩ := e
    simp only [Map.memWf, Bool.and_eq_true] at h
    by_cases hp : p (k, v) = true
    · simp only [List.filter_cons, hp, if_true, Map.memWf, Bool.and_eq_true]
      exact ⟨⟨h.1.1, Map.above_filter p rest k h.1.2⟩, ih h.2⟩
    · simpa [List.filter_cons, hp] using ih h.2

/-- Putting entries of a canonical memory, wherever they are put, keeps the canonical form. -/
theorem Map.memWf_foldPut {α : Type} [DecidableEq α] (d : α) (place : Nat → Option Nat) (l : List (Nat × α)) (m : Map α)
    (hl : ∀ e ∈ l, e.2 ≠ d) (h : Map.memWf d m = true) :
    Map.memWf d (l.foldl (fun r e => match place e.1 with
      | some k => r.put k e.2
      | none => r) m) = true := by
  induction l generalizing m with
  | nil => exact h
  | cons e rest ih =>
    refine ih _ (fun f hf => hl f (by simp [hf])) ?_
    cases hk : place e.1 with
    | none => simpa [hk] using h
    | some k => simp only [hk]; exact Map.memWf_put _ _ _ _ (hl e (by simp)) h

/-- Writing entries, whatever they hold, keeps the canonical form. -/
theorem Map.memWf_foldWrite {α β : Type} [DecidableEq α] (d : α) (key : β → Nat) (val : β → α) (l : List β) (m : Map α)
    (h : Map.memWf d m = true) : Map.memWf d (l.foldl (fun r e => r.write d (key e) (val e)) m) = true := by
  induction l generalizing m with
  | nil => exact h
  | cons e rest ih => exact ih _ (Map.memWf_write _ _ _ _ h)

namespace Machine

/-! ### The canonical form is kept -/

/-- A run of bytes keeps the canonical form. -/
theorem Memory.wf_putBytes (m : Map Byte) (a : Nat) (l : List Byte) (h : Memory.wf m = true) : Memory.wf (putBytes m a l) = true := by
  induction l generalizing m a with
  | nil => exact h
  | cons b rest ih => exact ih _ _ (Map.memWf_write _ _ _ _ h)

/-- The bytes of a row keep the canonical form. -/
theorem Memory.wf_putRowBytes (m : Map Byte) (row i v n : Nat) (h : Memory.wf m = true) :
    Memory.wf (putRowBytes m row i v n) = true := by
  induction n generalizing m i v with
  | zero => exact h
  | succ n ih => exact ih _ _ _ (Map.memWf_write _ _ _ _ h)

/-- A row written to W-space keeps the canonical form. -/
theorem Memory.wf_setRow (c : Core) (row : Nat) (v : Row) (h : Memory.wf c.wspace = true) :
    Memory.wf (c.setRow row v).wspace = true := by
  unfold Core.setRow
  generalize 512 = n
  exact Memory.wf_putRowBytes _ _ _ _ n h

/-- Bytes written to A-space keep the canonical form. -/
theorem Memory.wf_wBytes (c : Core) (a v n : Nat) (h : Memory.wf c.aspace = true) : Memory.wf (c.wBytes a v n).aspace = true := by
  induction n generalizing c a v with
  | zero => exact h
  | succ n ih => exact ih _ _ _ (Map.memWf_write _ _ _ _ h)

/-- Bytes written to I-space keep the canonical form. -/
theorem Memory.wf_iStore (c : Core) (a : Nat) (bs : List (Byte × Bool)) (h : Memory.wf c.ispace = true) :
    Memory.wf (c.iStore a bs).ispace = true := Memory.wf_putBytes _ _ _ h

/-- Bytes that an engine of the package writes to G-physical memory keep the canonical form. -/
theorem Memory.wf_gPut (s : State) (pa : Nat) (bs : List Byte) (p : Bool) (h : Memory.wf s.gmem = true) :
    Memory.wf (s.gPut pa bs p).gmem = true := Memory.wf_putBytes _ _ _ h

/-- A word written at its home slice keeps the canonical form. -/
theorem Memory.wf_gWord (s : State) (rank : Option Nat) (pa : Nat) (mask : BitVec 4) (v : Word) (p : Bool)
    (h : Memory.wf s.gmem = true) : Memory.wf (s.gWord rank pa mask v p).gmem = true := by
  unfold State.gWord
  cases (if mask = 15 then s.tailAt pa else none) with
  | some q =>
    simp only
    split <;> exact Memory.wf_gPut _ _ _ _ h
  | none =>
    cases rank with
    | none => exact Memory.wf_putBytes _ _ _ h
    | some r => exact Memory.wf_putBytes _ _ _ h

/-- The exchange of two ranges keeps the canonical form. -/
theorem Memory.wf_swapRange (m : Map Byte) (a b n : Nat) (h : Memory.wf m = true) : Memory.wf (swapRange m a b n) = true :=
  Map.memWf_foldPut 0 (fun j => some (if a ≤ j ∧ j < a + n then j - a + b else if b ≤ j ∧ j < b + n then j - b + a else j)) m []
    (Map.memWf_ne h) rfl

/-- A page moved keeps the canonical form. -/
theorem Memory.wf_copyPage (m : Map Byte) (a b n : Nat) (h : Memory.wf m = true) : Memory.wf (copyPage m a b n) = true :=
  Map.memWf_foldPut 0 (movePage a b n) m _ (Map.memWf_ne h) (Map.memWf_clearRange _ _ _ _ h)

/-- A window put back as it was defined keeps the canonical form of A-space. -/
theorem Memory.wf_normalise (c : Core) (slot w : Nat) (h : Memory.wf c.aspace = true) : Memory.wf (c.normalise slot w).aspace = true := by
  simp only [Core.normalise]
  split
  · exact h
  · split
    · exact h
    · exact Memory.wf_swapRange _ _ _ _ h

/-- What is saved of a launch's range, and of I-space, is canonical. -/
theorem Memory.wf_rangeImage (c : Core) (launch rank lo hi : Nat) (ha : Memory.wf c.aspace = true) (hi' : Memory.wf c.ispace = true) :
    Memory.wf (c.rangeImage launch rank lo hi).bytes = true ∧ Memory.wf (c.rangeImage launch rank lo hi).ispace = true :=
  ⟨Map.memWf_filter _ _ _ ha, hi'⟩

/-- A range put back keeps the canonical form. -/
theorem Memory.wf_restoreRange (c : Core) (r : RangeImage) (lo hi : Nat) (hc : Memory.wf c.aspace = true) (hb : Memory.wf r.bytes = true)
    (hi' : Memory.wf r.ispace = true) :
    Memory.wf (c.restoreRange r lo hi).aspace = true ∧ Memory.wf (c.restoreRange r lo hi).ispace = true :=
  ⟨Map.memWf_foldPut 0 some r.bytes _ (Map.memWf_ne hb) (Map.memWf_clearRange _ _ _ _ hc), hi'⟩

/-- The memories of the reset state are canonical: they list nothing. -/
theorem Memory.wf_reset : Memory.wf State.reset.gmem = true ∧ Memory.wf State.reset.hmem = true :=
  ⟨rfl, rfl⟩

/-! ### Reading after writing -/

/-- A byte of A-space reads as it was written, through whatever windows its name goes. -/
@[simp] theorem Core.rByte_wByte_self (c : Core) (a : Nat) (v : Byte) : (c.wByte a v).rByte a = v :=
  Map.get_write_self _ _ _ _

/-- A write to a byte leaves every name that reaches another. -/
theorem Core.rByte_wByte_ne (c : Core) {a x : Nat} (v : Byte) (h : c.aPhys x ≠ c.aPhys a) : (c.wByte a v).rByte x = c.rByte x :=
  Map.get_write_ne _ _ _ h

/-- A run of bytes reads as it was written. -/
theorem get_putBytes (m : Map Byte) (a : Nat) (l : List Byte) (x : Nat) :
    (putBytes m a l).get 0 x = if h : a ≤ x ∧ x < a + l.length then l[x - a]'(by omega) else m.get 0 x := by
  induction l generalizing m a with
  | nil => rw [putBytes, dif_neg]; simp only [List.length_nil]; omega
  | cons b rest ih =>
    rw [putBytes, ih, Map.get_write]
    by_cases h1 : a + 1 ≤ x ∧ x < a + 1 + rest.length
    · have h2 : a ≤ x ∧ x < a + (b :: rest).length := by simp only [List.length_cons]; omega
      have h3 : x - a = (x - (a + 1)) + 1 := by omega
      rw [dif_pos h1, dif_pos h2]
      simp [h3]
    · rw [dif_neg h1]
      by_cases h2 : x = a
      · subst h2; simp
      · rw [if_neg h2, dif_neg]
        simp only [List.length_cons]; omega

end Machine
end Sys2Proof

namespace Sys2Proof.Machine
open Sys2Proof

theorem Core.aBytes_length (c : Core) (a n : Nat) : (c.aBytes a n).length = n := by simp [Core.aBytes]

theorem Core.kBytes_length (c : Core) (t a n : Nat) : (c.kBytes t a n).length = n := by simp [Core.kBytes]

theorem Core.iBytes_length (c : Core) (a n : Nat) : (c.iBytes a n).length = n := by simp [Core.iBytes]

theorem rowSlice_length (r : Row) (bad : Bool) (i n : Nat) : (rowSlice r bad i n).length = n := by simp [rowSlice]

theorem State.gSeenBytes_length (s : State) (rank : Nat) (o : COp) (pa n : Nat) : (s.gSeenBytes rank o pa n).length = n := by
  simp [State.gSeenBytes]

theorem State.remoteBytes_length (s : State) (a n : Nat) : (s.remoteBytes a n).length = n := by simp [State.remoteBytes]

theorem State.remoteRead_length {s : State} {o : COp} {dest a n : Nat} {bs : List (Byte × Bool)}
    (h : (s.remoteRead o dest a n).1 = .bytes bs) : bs.length = n := by
  simp only [State.remoteRead] at h
  split at h
  · cases h; exact State.remoteBytes_length ..
  · cases h

/-- A piece that an operation reads has the length it asked for, in every space (R188). -/
theorem State.fetchLoc_length {s : State} {rank : Nat} {o : COp} {l : Loc} {n : Nat} {bs : List (Byte × Bool)}
    (h : (s.fetchLoc rank o l n).1 = .bytes bs) : bs.length = n := by
  simp only [State.fetchLoc] at h
  repeat' split at h
  all_goals first
    | (cases h; simp [Core.aBytes_length, Core.kBytes_length, Core.iBytes_length, rowSlice_length, State.gSeenBytes_length]; done)
    | exact State.remoteRead_length h
    | cases h
end Sys2Proof.Machine
end

