-- ==== Sys2Proof/Laws/PerInstr.lean ====
section
/-! SUPPORT. A family of statements over all instructions: the guard field of a word is the guard that the instruction reads
(R16, R17), and only slot instructions have a word. -/
namespace Sys2Proof.Laws.EncodeClass
open Sys2Proof Sys2Proof.Machine

/-- An instruction has a word when it has a meaning in a slot, and bits 31 to 28 of the word are its guard (R16). -/
def Statement (i : Instr) : Prop :=
  (encode i).isSome = (actOf i).isSome ∧ ∀ w a, encode i = some w → actOf i = some a → guardOf w = a.guard

/-- The leading field of a concatenation. -/
theorem top_append {n m k g : Nat} (x : BitVec n) (y : BitVec m) (h : x.toNat / 2 ^ k = g) :
    (x ++ y).toNat / 2 ^ (k + m) = g := by
  have hy := y.isLt
  rw [BitVec.toNat_append, Nat.add_comm k m, Nat.pow_add, ← Nat.div_div_eq_div_mul, ← Nat.shiftLeft_add_eq_or_of_lt hy,
    Nat.shiftLeft_eq, Nat.add_comm, Nat.add_mul_div_right _ _ (Nat.two_pow_pos m), Nat.div_eq_of_lt hy, Nat.zero_add, h]

/-- A field alone. -/
theorem top_self {n : Nat} (g : BitVec n) : g.toNat / 2 ^ 0 = g.toNat := by simp

/-- The guard of a word whose leading field it is. -/
theorem guard_of_top {w : Word} {g : BitVec 4} (h : w.toNat / 2 ^ 28 = g.toNat) : guardOf w = g := by
  apply BitVec.eq_of_toNat_eq
  rw [guardOf, bits, BitVec.extractLsb'_toNat, Nat.shiftRight_eq_div_pow, h]
  exact Nat.mod_eq_of_lt g.isLt

/-- The statement from its word and its meaning. -/
theorem of_word {i : Instr} {w : Word} {a : Act} (he : encode i = some w) (ha : actOf i = some a)
    (h : w.toNat / 2 ^ 28 = a.guard.toNat) : Statement i :=
  ⟨by rw [he, ha]; rfl, fun v b hv hb => by
    rw [he] at hv; rw [ha] at hb; cases hv; cases hb; exact guard_of_top h⟩

/-- The statement of what has no word. -/
theorem of_none {i : Instr} (he : encode i = none) (ha : actOf i = none) : Statement i :=
  ⟨by rw [he, ha]; rfl, fun v b hv hb => by rw [he] at hv; cases hv⟩

theorem nop (x0) : Statement (.nop x0) := of_word rfl rfl (top_append _ _ (top_append _ _ (top_self _)))
theorem add (x0 x1 x2 x3) : Statement (.add x0 x1 x2 x3) := of_word rfl rfl (top_append _ _ (top_append _ _ (top_append _ _ (top_append _ _ (top_append _ _ (top_self _))))))
theorem sub (x0 x1 x2 x3) : Statement (.sub x0 x1 x2 x3) := of_word rfl rfl (top_append _ _ (top_append _ _ (top_append _ _ (top_append _ _ (top_append _ _ (top_self _))))))
theorem mul (x0 x1 x2 x3) : Statement (.mul x0 x1 x2 x3) := of_word rfl rfl (top_append _ _ (top_append _ _ (top_append _ _ (top_append _ _ (top_append _ _ (top_self _))))))
theorem mulh (x0 x1 x2 x3) : Statement (.mulh x0 x1 x2 x3) := of_word rfl rfl (top_append _ _ (top_append _ _ (top_append _ _ (top_append _ _ (top_append _ _ (top_self _))))))
theorem mulhz (x0 x1 x2 x3) : Statement (.mulhz x0 x1 x2 x3) := of_word rfl rfl (top_append _ _ (top_append _ _ (top_append _ _ (top_append _ _ (top_append _ _ (top_self _))))))
theorem div (x0 x1 x2 x3) : Statement (.div x0 x1 x2 x3) := of_word rfl rfl (top_append _ _ (top_append _ _ (top_append _ _ (top_append _ _ (top_append _ _ (top_self _))))))
theorem divz (x0 x1 x2 x3) : Statement (.divz x0 x1 x2 x3) := of_word rfl rfl (top_append _ _ (top_append _ _ (top_append _ _ (top_append _ _ (top_append _ _ (top_self _))))))
theorem rem (x0 x1 x2 x3) : Statement (.rem x0 x1 x2 x3) := of_word rfl rfl (top_append _ _ (top_append _ _ (top_append _ _ (top_append _ _ (top_append _ _ (top_self _))))))
theorem remz (x0 x1 x2 x3) : Statement (.remz x0 x1 x2 x3) := of_word rfl rfl (top_append _ _ (top_append _ _ (top_append _ _ (top_append _ _ (top_append _ _ (top_self _))))))
theorem and (x0 x1 x2 x3) : Statement (.and x0 x1 x2 x3) := of_word rfl rfl (top_append _ _ (top_append _ _ (top_append _ _ (top_append _ _ (top_append _ _ (top_self _))))))
theorem or (x0 x1 x2 x3) : Statement (.or x0 x1 x2 x3) := of_word rfl rfl (top_append _ _ (top_append _ _ (top_append _ _ (top_append _ _ (top_append _ _ (top_self _))))))
theorem xor (x0 x1 x2 x3) : Statement (.xor x0 x1 x2 x3) := of_word rfl rfl (top_append _ _ (top_append _ _ (top_append _ _ (top_append _ _ (top_append _ _ (top_self _))))))
theorem andn (x0 x1 x2 x3) : Statement (.andn x0 x1 x2 x3) := of_word rfl rfl (top_append _ _ (top_append _ _ (top_append _ _ (top_append _ _ (top_append _ _ (top_self _))))))
theorem shl (x0 x1 x2 x3) : Statement (.shl x0 x1 x2 x3) := of_word rfl rfl (top_append _ _ (top_append _ _ (top_append _ _ (top_append _ _ (top_append _ _ (top_self _))))))
theorem shr (x0 x1 x2 x3) : Statement (.shr x0 x1 x2 x3) := of_word rfl rfl (top_append _ _ (top_append _ _ (top_append _ _ (top_append _ _ (top_append _ _ (top_self _))))))
theorem sra (x0 x1 x2 x3) : Statement (.sra x0 x1 x2 x3) := of_word rfl rfl (top_append _ _ (top_append _ _ (top_append _ _ (top_append _ _ (top_append _ _ (top_self _))))))
theorem min (x0 x1 x2 x3) : Statement (.min x0 x1 x2 x3) := of_word rfl rfl (top_append _ _ (top_append _ _ (top_append _ _ (top_append _ _ (top_append _ _ (top_self _))))))
theorem max (x0 x1 x2 x3) : Statement (.max x0 x1 x2 x3) := of_word rfl rfl (top_append _ _ (top_append _ _ (top_append _ _ (top_append _ _ (top_append _ _ (top_self _))))))
theorem minz (x0 x1 x2 x3) : Statement (.minz x0 x1 x2 x3) := of_word rfl rfl (top_append _ _ (top_append _ _ (top_append _ _ (top_append _ _ (top_append _ _ (top_self _))))))
theorem maxz (x0 x1 x2 x3) : Statement (.maxz x0 x1 x2 x3) := of_word rfl rfl (top_append _ _ (top_append _ _ (top_append _ _ (top_append _ _ (top_append _ _ (top_self _))))))
theorem clz (x0 x1 x2) : Statement (.clz x0 x1 x2) := of_word rfl rfl (top_append _ _ (top_append _ _ (top_append _ _ (top_append _ _ (top_self _)))))
theorem popc (x0 x1 x2) : Statement (.popc x0 x1 x2) := of_word rfl rfl (top_append _ _ (top_append _ _ (top_append _ _ (top_append _ _ (top_self _)))))
theorem addi (x0 x1 x2 x3) : Statement (.addi x0 x1 x2 x3) := of_word rfl rfl (top_append _ _ (top_append _ _ (top_append _ _ (top_append _ _ (top_self _)))))
theorem andi (x0 x1 x2 x3) : Statement (.andi x0 x1 x2 x3) := of_word rfl rfl (top_append _ _ (top_append _ _ (top_append _ _ (top_append _ _ (top_self _)))))
theorem ori (x0 x1 x2 x3) : Statement (.ori x0 x1 x2 x3) := of_word rfl rfl (top_append _ _ (top_append _ _ (top_append _ _ (top_append _ _ (top_self _)))))
theorem xori (x0 x1 x2 x3) : Statement (.xori x0 x1 x2 x3) := of_word rfl rfl (top_append _ _ (top_append _ _ (top_append _ _ (top_append _ _ (top_self _)))))
theorem shli (x0 x1 x2 x3) : Statement (.shli x0 x1 x2 x3) := of_word rfl rfl (top_append _ _ (top_append _ _ (top_append _ _ (top_append _ _ (top_append _ _ (top_self _))))))
theorem shri (x0 x1 x2 x3) : Statement (.shri x0 x1 x2 x3) := of_word rfl rfl (top_append _ _ (top_append _ _ (top_append _ _ (top_append _ _ (top_append _ _ (top_self _))))))
theorem srai (x0 x1 x2 x3) : Statement (.srai x0 x1 x2 x3) := of_word rfl rfl (top_append _ _ (top_append _ _ (top_append _ _ (top_append _ _ (top_append _ _ (top_self _))))))
theorem movi (x0 x1 x2) : Statement (.movi x0 x1 x2) := of_word rfl rfl (top_append _ _ (top_append _ _ (top_append _ _ (top_self _))))
theorem movhi (x0 x1 x2) : Statement (.movhi x0 x1 x2) := of_word rfl rfl (top_append _ _ (top_append _ _ (top_append _ _ (top_append _ _ (top_self _)))))
theorem sel (x0 x1 x2 x3 x4) : Statement (.sel x0 x1 x2 x3 x4) := of_word rfl rfl (top_append _ _ (top_append _ _ (top_append _ _ (top_append _ _ (top_append _ _ (top_append _ _ (top_self _)))))))
theorem cmp (x0 x1 x2 x3 x4) : Statement (.cmp x0 x1 x2 x3 x4) := of_word rfl rfl (top_append _ _ (top_append _ _ (top_append _ _ (top_append _ _ (top_append _ _ (top_append _ _ (top_self _)))))))
theorem cmpi (x0 x1 x2 x3 x4) : Statement (.cmpi x0 x1 x2 x3 x4) := of_word rfl rfl (top_append _ _ (top_append _ _ (top_append _ _ (top_append _ _ (top_append _ _ (top_self _))))))
theorem fadd (x0 x1 x2 x3) : Statement (.fadd x0 x1 x2 x3) := of_word rfl rfl (top_append _ _ (top_append _ _ (top_append _ _ (top_append _ _ (top_append _ _ (top_self _))))))
theorem fsub (x0 x1 x2 x3) : Statement (.fsub x0 x1 x2 x3) := of_word rfl rfl (top_append _ _ (top_append _ _ (top_append _ _ (top_append _ _ (top_append _ _ (top_self _))))))
theorem fmul (x0 x1 x2 x3) : Statement (.fmul x0 x1 x2 x3) := of_word rfl rfl (top_append _ _ (top_append _ _ (top_append _ _ (top_append _ _ (top_append _ _ (top_self _))))))
theorem fdiv (x0 x1 x2 x3) : Statement (.fdiv x0 x1 x2 x3) := of_word rfl rfl (top_append _ _ (top_append _ _ (top_append _ _ (top_append _ _ (top_append _ _ (top_self _))))))
theorem fsqrt (x0 x1 x2) : Statement (.fsqrt x0 x1 x2) := of_word rfl rfl (top_append _ _ (top_append _ _ (top_append _ _ (top_append _ _ (top_self _)))))
theorem fmin (x0 x1 x2 x3) : Statement (.fmin x0 x1 x2 x3) := of_word rfl rfl (top_append _ _ (top_append _ _ (top_append _ _ (top_append _ _ (top_append _ _ (top_self _))))))
theorem fmax (x0 x1 x2 x3) : Statement (.fmax x0 x1 x2 x3) := of_word rfl rfl (top_append _ _ (top_append _ _ (top_append _ _ (top_append _ _ (top_append _ _ (top_self _))))))
theorem fsgn (x0 x1 x2 x3) : Statement (.fsgn x0 x1 x2 x3) := of_word rfl rfl (top_append _ _ (top_append _ _ (top_append _ _ (top_append _ _ (top_append _ _ (top_self _))))))
theorem fcvtF32S32 (x0 x1 x2) : Statement (.fcvtF32S32 x0 x1 x2) := of_word rfl rfl (top_append _ _ (top_append _ _ (top_append _ _ (top_append _ _ (top_self _)))))
theorem fcvtF32Z32 (x0 x1 x2) : Statement (.fcvtF32Z32 x0 x1 x2) := of_word rfl rfl (top_append _ _ (top_append _ _ (top_append _ _ (top_append _ _ (top_self _)))))
theorem fcvtS32F32 (x0 x1 x2) : Statement (.fcvtS32F32 x0 x1 x2) := of_word rfl rfl (top_append _ _ (top_append _ _ (top_append _ _ (top_append _ _ (top_self _)))))
theorem fcvtZ32F32 (x0 x1 x2) : Statement (.fcvtZ32F32 x0 x1 x2) := of_word rfl rfl (top_append _ _ (top_append _ _ (top_append _ _ (top_append _ _ (top_self _)))))
theorem fcvtF32F16 (x0 x1 x2) : Statement (.fcvtF32F16 x0 x1 x2) := of_word rfl rfl (top_append _ _ (top_append _ _ (top_append _ _ (top_append _ _ (top_self _)))))
theorem fcvtF32Bf16 (x0 x1 x2) : Statement (.fcvtF32Bf16 x0 x1 x2) := of_word rfl rfl (top_append _ _ (top_append _ _ (top_append _ _ (top_append _ _ (top_self _)))))
theorem fcvtF16F32 (x0 x1 x2) : Statement (.fcvtF16F32 x0 x1 x2) := of_word rfl rfl (top_append _ _ (top_append _ _ (top_append _ _ (top_append _ _ (top_self _)))))
theorem fcvtBf16F32 (x0 x1 x2) : Statement (.fcvtBf16F32 x0 x1 x2) := of_word rfl rfl (top_append _ _ (top_append _ _ (top_append _ _ (top_append _ _ (top_self _)))))
theorem ffma (x0 x1 x2 x3 x4) : Statement (.ffma x0 x1 x2 x3 x4) := of_word rfl rfl (top_append _ _ (top_append _ _ (top_append _ _ (top_append _ _ (top_append _ _ (top_append _ _ (top_self _)))))))
theorem fcmp (x0 x1 x2 x3 x4) : Statement (.fcmp x0 x1 x2 x3 x4) := of_word rfl rfl (top_append _ _ (top_append _ _ (top_append _ _ (top_append _ _ (top_append _ _ (top_append _ _ (top_self _)))))))
theorem pand (x0 x1 x2 x3) : Statement (.pand x0 x1 x2 x3) := of_word rfl rfl (top_append _ _ (top_append _ _ (top_append _ _ (top_append _ _ (top_append _ _ (top_self _))))))
theorem por (x0 x1 x2 x3) : Statement (.por x0 x1 x2 x3) := of_word rfl rfl (top_append _ _ (top_append _ _ (top_append _ _ (top_append _ _ (top_append _ _ (top_self _))))))
theorem pxor (x0 x1 x2 x3) : Statement (.pxor x0 x1 x2 x3) := of_word rfl rfl (top_append _ _ (top_append _ _ (top_append _ _ (top_append _ _ (top_append _ _ (top_self _))))))
theorem pmov (x0 x1 x2) : Statement (.pmov x0 x1 x2) := of_word rfl rfl (top_append _ _ (top_append _ _ (top_append _ _ (top_append _ _ (top_self _)))))
theorem ppack (x0 x1 x2) : Statement (.ppack x0 x1 x2) := of_word rfl rfl (top_append _ _ (top_append _ _ (top_append _ _ (top_append _ _ (top_append _ _ (top_append _ _ (top_self _)))))))
theorem punpk (x0 x1 x2) : Statement (.punpk x0 x1 x2) := of_word rfl rfl (top_append _ _ (top_append _ _ (top_append _ _ (top_append _ _ (top_append _ _ (top_self _))))))
theorem aadd (x0 x1 x2 x3) : Statement (.aadd x0 x1 x2 x3) := of_word rfl rfl (top_append _ _ (top_append _ _ (top_append _ _ (top_append _ _ (top_append _ _ (top_self _))))))
theorem aaddi (x0 x1 x2 x3) : Statement (.aaddi x0 x1 x2 x3) := of_word rfl rfl (top_append _ _ (top_append _ _ (top_append _ _ (top_append _ _ (top_self _)))))
theorem amov (x0 x1 x2) : Statement (.amov x0 x1 x2) := of_word rfl rfl (top_append _ _ (top_append _ _ (top_append _ _ (top_append _ _ (top_append _ _ (top_self _))))))
theorem amovHi (x0 x1 x2) : Statement (.amovHi x0 x1 x2) := of_word rfl rfl (top_append _ _ (top_append _ _ (top_append _ _ (top_append _ _ (top_append _ _ (top_self _))))))
theorem atos (x0 x1 x2) : Statement (.atos x0 x1 x2) := of_word rfl rfl (top_append _ _ (top_append _ _ (top_append _ _ (top_append _ _ (top_append _ _ (top_self _))))))
theorem atosHi (x0 x1 x2) : Statement (.atosHi x0 x1 x2) := of_word rfl rfl (top_append _ _ (top_append _ _ (top_append _ _ (top_append _ _ (top_append _ _ (top_self _))))))
theorem atag (x0 x1 x2 x3) : Statement (.atag x0 x1 x2 x3) := of_word rfl rfl (top_append _ _ (top_append _ _ (top_append _ _ (top_append _ _ (top_append _ _ (top_self _))))))
theorem br (x0 x1) : Statement (.br x0 x1) := of_word rfl rfl (top_append _ _ (top_append _ _ (top_self _)))
theorem brl (x0 x1) : Statement (.brl x0 x1) := of_word rfl rfl (top_append _ _ (top_append _ _ (top_self _)))
theorem jr (x0 x1) : Statement (.jr x0 x1) := of_word rfl rfl (top_append _ _ (top_append _ _ (top_append _ _ (top_self _))))
theorem jrl (x0 x1) : Statement (.jrl x0 x1) := of_word rfl rfl (top_append _ _ (top_append _ _ (top_append _ _ (top_self _))))
theorem ret (x0 x1) : Statement (.ret x0 x1) := of_word rfl rfl (top_append _ _ (top_append _ _ (top_append _ _ (top_self _))))
theorem ibsw (x0 x1) : Statement (.ibsw x0 x1) := of_word rfl rfl (top_append _ _ (top_append _ _ (top_self _)))
theorem ifence (x0) : Statement (.ifence x0) := of_word rfl rfl (top_append _ _ (top_append _ _ (top_self _)))
theorem lset (x0 x1 x2 x3 x4) : Statement (.lset x0 x1 x2 x3 x4) := of_word rfl rfl (top_append _ _ (top_append _ _ (top_append _ _ (top_append _ _ (top_append _ _ (top_append _ _ (top_append _ _ (top_self _))))))))
theorem lbody (x0 x1) : Statement (.lbody x0 x1) := of_word rfl rfl (top_append _ _ (top_append _ _ (top_append _ _ (top_self _))))
theorem lexit (x0 x1) : Statement (.lexit x0 x1) := of_word rfl rfl (top_append _ _ (top_append _ _ (top_append _ _ (top_self _))))
theorem nset (x0 x1 x2 x3) : Statement (.nset x0 x1 x2 x3) := of_word rfl rfl (top_append _ _ (top_append _ _ (top_append _ _ (top_append _ _ (top_append _ _ (top_append _ _ (top_self _)))))))
theorem bwait (x0 x1 x2 x3) : Statement (.bwait x0 x1 x2 x3) := of_word rfl rfl (top_append _ _ (top_append _ _ (top_append _ _ (top_append _ _ (top_append _ _ (top_append _ _ (top_self _)))))))
theorem evpop (x0 x1 x2 x3 x4) : Statement (.evpop x0 x1 x2 x3 x4) := of_word rfl rfl (top_append _ _ (top_append _ _ (top_append _ _ (top_append _ _ (top_append _ _ (top_self _))))))
theorem evwait (x0) : Statement (.evwait x0) := of_word rfl rfl (top_append _ _ (top_append _ _ (top_self _)))
theorem sync (x0 x1) : Statement (.sync x0 x1) := of_word rfl rfl (top_append _ _ (top_append _ _ (top_append _ _ (top_self _))))
theorem gdrop (x0 x1) : Statement (.gdrop x0 x1) := of_word rfl rfl (top_append _ _ (top_append _ _ (top_append _ _ (top_self _))))
theorem yield (x0) : Statement (.yield x0) := of_word rfl rfl (top_append _ _ (top_append _ _ (top_self _)))
theorem qpop (x0 x1 x2 x3 x4) : Statement (.qpop x0 x1 x2 x3 x4) := of_word rfl rfl (top_append _ _ (top_append _ _ (top_append _ _ (top_append _ _ (top_append _ _ (top_append _ _ (top_self _)))))))
theorem qpopB (x0 x1 x2 x3 x4) : Statement (.qpopB x0 x1 x2 x3 x4) := of_word rfl rfl (top_append _ _ (top_append _ _ (top_append _ _ (top_append _ _ (top_append _ _ (top_append _ _ (top_self _)))))))
theorem qpush (x0 x1 x2 x3) : Statement (.qpush x0 x1 x2 x3) := of_word rfl rfl (top_append _ _ (top_append _ _ (top_append _ _ (top_append _ _ (top_append _ _ (top_append _ _ (top_self _)))))))
theorem leave (x0) : Statement (.leave x0) := of_word rfl rfl (top_append _ _ (top_append _ _ (top_self _)))
theorem trap (x0 x1) : Statement (.trap x0 x1) := of_word rfl rfl (top_append _ _ (top_append _ _ (top_append _ _ (top_self _))))
theorem eret (x0) : Statement (.eret x0) := of_word rfl rfl (top_append _ _ (top_append _ _ (top_self _)))
theorem eretD (x0) : Statement (.eretD x0) := of_word rfl rfl (top_append _ _ (top_append _ _ (top_self _)))
theorem sysrd (x0 x1 x2 x3) : Statement (.sysrd x0 x1 x2 x3) := of_word rfl rfl (top_append _ _ (top_append _ _ (top_append _ _ (top_append _ _ (top_append _ _ (top_self _))))))
theorem syswr (x0 x1 x2 x3) : Statement (.syswr x0 x1 x2 x3) := of_word rfl rfl (top_append _ _ (top_append _ _ (top_append _ _ (top_append _ _ (top_append _ _ (top_self _))))))
theorem contain (x0 x1 x2 x3) : Statement (.contain x0 x1 x2 x3) := of_word rfl rfl (top_append _ _ (top_append _ _ (top_append _ _ (top_append _ _ (top_append _ _ (top_self _))))))
theorem uncontain (x0) : Statement (.uncontain x0) := of_word rfl rfl (top_append _ _ (top_append _ _ (top_self _)))
theorem dchk (x0 x1 x2) : Statement (.dchk x0 x1 x2) := of_word rfl rfl (top_append _ _ (top_append _ _ (top_append _ _ (top_append _ _ (top_append _ _ (top_self _))))))
theorem cycrd (x0 x1 x2) : Statement (.cycrd x0 x1 x2) := of_word rfl rfl (top_append _ _ (top_append _ _ (top_append _ _ (top_append _ _ (top_self _)))))
theorem cycrdW (x0 x1 x2) : Statement (.cycrdW x0 x1 x2) := of_word rfl rfl (top_append _ _ (top_append _ _ (top_append _ _ (top_append _ _ (top_append _ _ (top_self _))))))
theorem snop (x0 x1) : Statement (.snop x0 x1) := of_word rfl rfl (top_append _ _ (top_append _ _ (top_append _ _ (top_self _))))
theorem halt (x0) : Statement (.halt x0) := of_word rfl rfl (top_append _ _ (top_append _ _ (top_self _)))
theorem vadd (x0 x1 x2 x3 x4 x5) : Statement (.vadd x0 x1 x2 x3 x4 x5) := of_word rfl rfl (top_append _ _ (top_append _ _ (top_append _ _ (top_append _ _ (top_append _ _ (top_append _ _ (top_self _)))))))
theorem vsub (x0 x1 x2 x3 x4 x5) : Statement (.vsub x0 x1 x2 x3 x4 x5) := of_word rfl rfl (top_append _ _ (top_append _ _ (top_append _ _ (top_append _ _ (top_append _ _ (top_append _ _ (top_self _)))))))
theorem vmul (x0 x1 x2 x3 x4 x5) : Statement (.vmul x0 x1 x2 x3 x4 x5) := of_word rfl rfl (top_append _ _ (top_append _ _ (top_append _ _ (top_append _ _ (top_append _ _ (top_append _ _ (top_self _)))))))
theorem vfma (x0 x1 x2 x3 x4 x5) : Statement (.vfma x0 x1 x2 x3 x4 x5) := of_word rfl rfl (top_append _ _ (top_append _ _ (top_append _ _ (top_append _ _ (top_append _ _ (top_append _ _ (top_self _)))))))
theorem vfms (x0 x1 x2 x3 x4 x5) : Statement (.vfms x0 x1 x2 x3 x4 x5) := of_word rfl rfl (top_append _ _ (top_append _ _ (top_append _ _ (top_append _ _ (top_append _ _ (top_append _ _ (top_self _)))))))
theorem vmin (x0 x1 x2 x3 x4 x5) : Statement (.vmin x0 x1 x2 x3 x4 x5) := of_word rfl rfl (top_append _ _ (top_append _ _ (top_append _ _ (top_append _ _ (top_append _ _ (top_append _ _ (top_self _)))))))
theorem vmax (x0 x1 x2 x3 x4 x5) : Statement (.vmax x0 x1 x2 x3 x4 x5) := of_word rfl rfl (top_append _ _ (top_append _ _ (top_append _ _ (top_append _ _ (top_append _ _ (top_append _ _ (top_self _)))))))
theorem vabs (x0 x1 x2 x3 x4) : Statement (.vabs x0 x1 x2 x3 x4) := of_word rfl rfl (top_append _ _ (top_append _ _ (top_append _ _ (top_append _ _ (top_append _ _ (top_append _ _ (top_self _)))))))
theorem vneg (x0 x1 x2 x3 x4) : Statement (.vneg x0 x1 x2 x3 x4) := of_word rfl rfl (top_append _ _ (top_append _ _ (top_append _ _ (top_append _ _ (top_append _ _ (top_append _ _ (top_self _)))))))
theorem vand (x0 x1 x2 x3 x4 x5) : Statement (.vand x0 x1 x2 x3 x4 x5) := of_word rfl rfl (top_append _ _ (top_append _ _ (top_append _ _ (top_append _ _ (top_append _ _ (top_append _ _ (top_self _)))))))
theorem vor (x0 x1 x2 x3 x4 x5) : Statement (.vor x0 x1 x2 x3 x4 x5) := of_word rfl rfl (top_append _ _ (top_append _ _ (top_append _ _ (top_append _ _ (top_append _ _ (top_append _ _ (top_self _)))))))
theorem vxor (x0 x1 x2 x3 x4 x5) : Statement (.vxor x0 x1 x2 x3 x4 x5) := of_word rfl rfl (top_append _ _ (top_append _ _ (top_append _ _ (top_append _ _ (top_append _ _ (top_append _ _ (top_self _)))))))
theorem vandn (x0 x1 x2 x3 x4 x5) : Statement (.vandn x0 x1 x2 x3 x4 x5) := of_word rfl rfl (top_append _ _ (top_append _ _ (top_append _ _ (top_append _ _ (top_append _ _ (top_append _ _ (top_self _)))))))
theorem vshl (x0 x1 x2 x3 x4 x5) : Statement (.vshl x0 x1 x2 x3 x4 x5) := of_word rfl rfl (top_append _ _ (top_append _ _ (top_append _ _ (top_append _ _ (top_append _ _ (top_append _ _ (top_self _)))))))
theorem vshr (x0 x1 x2 x3 x4 x5) : Statement (.vshr x0 x1 x2 x3 x4 x5) := of_word rfl rfl (top_append _ _ (top_append _ _ (top_append _ _ (top_append _ _ (top_append _ _ (top_append _ _ (top_self _)))))))
theorem vsra (x0 x1 x2 x3 x4 x5) : Statement (.vsra x0 x1 x2 x3 x4 x5) := of_word rfl rfl (top_append _ _ (top_append _ _ (top_append _ _ (top_append _ _ (top_append _ _ (top_append _ _ (top_self _)))))))
theorem vcmp (x0 x1 x2 x3 x4 x5 x6) : Statement (.vcmp x0 x1 x2 x3 x4 x5 x6) := of_word rfl rfl (top_append _ _ (top_append _ _ (top_append _ _ (top_append _ _ (top_append _ _ (top_append _ _ (top_append _ _ (top_self _))))))))
theorem vsel (x0 x1 x2 x3 x4 x5) : Statement (.vsel x0 x1 x2 x3 x4 x5) := of_word rfl rfl (top_append _ _ (top_append _ _ (top_append _ _ (top_append _ _ (top_append _ _ (top_append _ _ (top_self _)))))))
theorem vmov (x0 x1 x2 x3 x4) : Statement (.vmov x0 x1 x2 x3 x4) := of_word rfl rfl (top_append _ _ (top_append _ _ (top_append _ _ (top_append _ _ (top_append _ _ (top_append _ _ (top_self _)))))))
theorem vbcast (x0 x1 x2 x3 x4) : Statement (.vbcast x0 x1 x2 x3 x4) := of_word rfl rfl (top_append _ _ (top_append _ _ (top_append _ _ (top_append _ _ (top_append _ _ (top_append _ _ (top_self _)))))))
theorem vext (x0 x1 x2 x3 x4) : Statement (.vext x0 x1 x2 x3 x4) := of_word rfl rfl (top_append _ _ (top_append _ _ (top_append _ _ (top_append _ _ (top_append _ _ (top_append _ _ (top_self _)))))))
theorem vins (x0 x1 x2 x3 x4) : Statement (.vins x0 x1 x2 x3 x4) := of_word rfl rfl (top_append _ _ (top_append _ _ (top_append _ _ (top_append _ _ (top_append _ _ (top_append _ _ (top_self _)))))))
theorem vperm (x0 x1 x2 x3 x4 x5) : Statement (.vperm x0 x1 x2 x3 x4 x5) := of_word rfl rfl (top_append _ _ (top_append _ _ (top_append _ _ (top_append _ _ (top_append _ _ (top_append _ _ (top_self _)))))))
theorem vshuf (x0 x1 x2 x3 x4 x5) : Statement (.vshuf x0 x1 x2 x3 x4 x5) := of_word rfl rfl (top_append _ _ (top_append _ _ (top_append _ _ (top_append _ _ (top_append _ _ (top_append _ _ (top_self _)))))))
theorem vrot (x0 x1 x2 x3 x4 x5) : Statement (.vrot x0 x1 x2 x3 x4 x5) := of_word rfl rfl (top_append _ _ (top_append _ _ (top_append _ _ (top_append _ _ (top_append _ _ (top_append _ _ (top_self _)))))))
theorem vreds (x0 x1 x2 x3 x4) : Statement (.vreds x0 x1 x2 x3 x4) := of_word rfl rfl (top_append _ _ (top_append _ _ (top_append _ _ (top_append _ _ (top_append _ _ (top_append _ _ (top_self _)))))))
theorem vredmMax (x0 x1 x2 x3 x4) : Statement (.vredmMax x0 x1 x2 x3 x4) := of_word rfl rfl (top_append _ _ (top_append _ _ (top_append _ _ (top_append _ _ (top_append _ _ (top_append _ _ (top_self _)))))))
theorem vredmMin (x0 x1 x2 x3 x4) : Statement (.vredmMin x0 x1 x2 x3 x4) := of_word rfl rfl (top_append _ _ (top_append _ _ (top_append _ _ (top_append _ _ (top_append _ _ (top_append _ _ (top_self _)))))))
theorem vdot (x0 x1 x2 x3 x4 x5) : Statement (.vdot x0 x1 x2 x3 x4 x5) := of_word rfl rfl (top_append _ _ (top_append _ _ (top_append _ _ (top_append _ _ (top_append _ _ (top_append _ _ (top_self _)))))))
theorem vcvt (x0 x1 x2 x3 x4 x5) : Statement (.vcvt x0 x1 x2 x3 x4 x5) := of_word rfl rfl (top_append _ _ (top_append _ _ (top_append _ _ (top_append _ _ (top_append _ _ (top_append _ _ (top_append _ _ (top_self _))))))))
theorem vrnd (x0 x1 x2 x3 x4 x5) : Statement (.vrnd x0 x1 x2 x3 x4 x5) := of_word rfl rfl (top_append _ _ (top_append _ _ (top_append _ _ (top_append _ _ (top_append _ _ (top_append _ _ (top_self _)))))))
theorem vexp2 (x0 x1 x2 x3 x4) : Statement (.vexp2 x0 x1 x2 x3 x4) := of_word rfl rfl (top_append _ _ (top_append _ _ (top_append _ _ (top_append _ _ (top_append _ _ (top_append _ _ (top_self _)))))))
theorem vlog2 (x0 x1 x2 x3 x4) : Statement (.vlog2 x0 x1 x2 x3 x4) := of_word rfl rfl (top_append _ _ (top_append _ _ (top_append _ _ (top_append _ _ (top_append _ _ (top_append _ _ (top_self _)))))))
theorem vrcp (x0 x1 x2 x3 x4) : Statement (.vrcp x0 x1 x2 x3 x4) := of_word rfl rfl (top_append _ _ (top_append _ _ (top_append _ _ (top_append _ _ (top_append _ _ (top_append _ _ (top_self _)))))))
theorem vrsq (x0 x1 x2 x3 x4) : Statement (.vrsq x0 x1 x2 x3 x4) := of_word rfl rfl (top_append _ _ (top_append _ _ (top_append _ _ (top_append _ _ (top_append _ _ (top_append _ _ (top_self _)))))))
theorem vqnt (x0 x1 x2 x3 x4 x5 x6) : Statement (.vqnt x0 x1 x2 x3 x4 x5 x6) := of_word rfl rfl (top_append _ _ (top_append _ _ (top_append _ _ (top_append _ _ (top_append _ _ (top_append _ _ (top_append _ _ (top_self _))))))))
theorem vdql (x0 x1 x2 x3 x4 x5 x6) : Statement (.vdql x0 x1 x2 x3 x4 x5 x6) := of_word rfl rfl (top_append _ _ (top_append _ _ (top_append _ _ (top_append _ _ (top_append _ _ (top_append _ _ (top_append _ _ (top_self _))))))))
theorem vlins (x0 x1 x2 x3 x4 x5 x6) : Statement (.vlins x0 x1 x2 x3 x4 x5 x6) := of_word rfl rfl (top_append _ _ (top_append _ _ (top_append _ _ (top_append _ _ (top_append _ _ (top_append _ _ (top_append _ _ (top_self _))))))))
theorem vlext (x0 x1 x2 x3 x4 x5 x6) : Statement (.vlext x0 x1 x2 x3 x4 x5 x6) := of_word rfl rfl (top_append _ _ (top_append _ _ (top_append _ _ (top_append _ _ (top_append _ _ (top_append _ _ (top_append _ _ (top_self _))))))))
theorem vlnrm (x0 x1 x2 x3 x4 x5) : Statement (.vlnrm x0 x1 x2 x3 x4 x5) := of_word rfl rfl (top_append _ _ (top_append _ _ (top_append _ _ (top_append _ _ (top_append _ _ (top_append _ _ (top_append _ _ (top_self _))))))))
theorem vtrw (x0 x1 x2 x3 x4 x5) : Statement (.vtrw x0 x1 x2 x3 x4 x5) := of_word rfl rfl (top_append _ _ (top_append _ _ (top_append _ _ (top_append _ _ (top_append _ _ (top_append _ _ (top_append _ _ (top_self _))))))))
theorem vtrr (x0 x1 x2 x3 x4 x5) : Statement (.vtrr x0 x1 x2 x3 x4 x5) := of_word rfl rfl (top_append _ _ (top_append _ _ (top_append _ _ (top_append _ _ (top_append _ _ (top_append _ _ (top_append _ _ (top_self _))))))))
theorem vtcw (x0 x1 x2 x3 x4 x5) : Statement (.vtcw x0 x1 x2 x3 x4 x5) := of_word rfl rfl (top_append _ _ (top_append _ _ (top_append _ _ (top_append _ _ (top_append _ _ (top_append _ _ (top_append _ _ (top_self _))))))))
theorem vtcr (x0 x1 x2 x3 x4 x5) : Statement (.vtcr x0 x1 x2 x3 x4 x5) := of_word rfl rfl (top_append _ _ (top_append _ _ (top_append _ _ (top_append _ _ (top_append _ _ (top_append _ _ (top_append _ _ (top_self _))))))))
theorem vacr (x0 x1 x2 x3 x4) : Statement (.vacr x0 x1 x2 x3 x4) := of_word rfl rfl (top_append _ _ (top_append _ _ (top_append _ _ (top_append _ _ (top_append _ _ (top_append _ _ (top_self _)))))))
theorem vacw (x0 x1 x2 x3 x4) : Statement (.vacw x0 x1 x2 x3 x4) := of_word rfl rfl (top_append _ _ (top_append _ _ (top_append _ _ (top_append _ _ (top_append _ _ (top_append _ _ (top_self _)))))))
theorem vdchk (x0 x1 x2 x3 x4) : Statement (.vdchk x0 x1 x2 x3 x4) := of_word rfl rfl (top_append _ _ (top_append _ _ (top_append _ _ (top_append _ _ (top_append _ _ (top_append _ _ (top_self _)))))))
theorem viop (x0 x1 x2 x3 x4) : Statement (.viop x0 x1 x2 x3 x4) := of_word rfl rfl (top_append _ _ (top_append _ _ (top_append _ _ (top_append _ _ (top_append _ _ (top_self _))))))
theorem vfop (x0 x1 x2 x3 x4) : Statement (.vfop x0 x1 x2 x3 x4) := of_word rfl rfl (top_append _ _ (top_append _ _ (top_append _ _ (top_append _ _ (top_append _ _ (top_self _))))))
theorem ld (x0 x1 x2 x3 x4) : Statement (.ld x0 x1 x2 x3 x4) := of_word rfl rfl (top_append _ _ (top_append _ _ (top_append _ _ (top_append _ _ (top_append _ _ (top_self _))))))
theorem st (x0 x1 x2 x3 x4) : Statement (.st x0 x1 x2 x3 x4) := of_word rfl rfl (top_append _ _ (top_append _ _ (top_append _ _ (top_append _ _ (top_append _ _ (top_self _))))))
theorem ldv (x0 x1 x2 x3) : Statement (.ldv x0 x1 x2 x3) := of_word rfl rfl (top_append _ _ (top_append _ _ (top_append _ _ (top_append _ _ (top_append _ _ (top_self _))))))
theorem stv (x0 x1 x2 x3) : Statement (.stv x0 x1 x2 x3) := of_word rfl rfl (top_append _ _ (top_append _ _ (top_append _ _ (top_append _ _ (top_append _ _ (top_self _))))))
theorem ldvs (x0 x1 x2 x3) : Statement (.ldvs x0 x1 x2 x3) := of_word rfl rfl (top_append _ _ (top_append _ _ (top_append _ _ (top_append _ _ (top_append _ _ (top_self _))))))
theorem stvs (x0 x1 x2 x3) : Statement (.stvs x0 x1 x2 x3) := of_word rfl rfl (top_append _ _ (top_append _ _ (top_append _ _ (top_append _ _ (top_append _ _ (top_self _))))))
theorem ldvx (x0 x1 x2 x3) : Statement (.ldvx x0 x1 x2 x3) := of_word rfl rfl (top_append _ _ (top_append _ _ (top_append _ _ (top_append _ _ (top_append _ _ (top_self _))))))
theorem stvx (x0 x1 x2 x3) : Statement (.stvx x0 x1 x2 x3) := of_word rfl rfl (top_append _ _ (top_append _ _ (top_append _ _ (top_append _ _ (top_append _ _ (top_self _))))))
theorem ldf (x0 x1 x2 x3) : Statement (.ldf x0 x1 x2 x3) := of_word rfl rfl (top_append _ _ (top_append _ _ (top_append _ _ (top_append _ _ (top_append _ _ (top_self _))))))
theorem ste (x0 x1 x2 x3) : Statement (.ste x0 x1 x2 x3) := of_word rfl rfl (top_append _ _ (top_append _ _ (top_append _ _ (top_append _ _ (top_append _ _ (top_self _))))))
theorem fesetF (x0 x1 x2) : Statement (.fesetF x0 x1 x2) := of_word rfl rfl (top_append _ _ (top_append _ _ (top_append _ _ (top_append _ _ (top_append _ _ (top_self _))))))
theorem fesetE (x0 x1 x2) : Statement (.fesetE x0 x1 x2) := of_word rfl rfl (top_append _ _ (top_append _ _ (top_append _ _ (top_append _ _ (top_append _ _ (top_self _))))))
theorem lda (x0 x1 x2 x3) : Statement (.lda x0 x1 x2 x3) := of_word rfl rfl (top_append _ _ (top_append _ _ (top_append _ _ (top_append _ _ (top_append _ _ (top_append _ _ (top_self _)))))))
theorem sta (x0 x1 x2 x3) : Statement (.sta x0 x1 x2 x3) := of_word rfl rfl (top_append _ _ (top_append _ _ (top_append _ _ (top_append _ _ (top_append _ _ (top_append _ _ (top_self _)))))))
theorem wldm (x0 x1 x2) : Statement (.wldm x0 x1 x2) := of_word rfl rfl (top_append _ _ (top_append _ _ (top_append _ _ (top_self _))))
theorem wldv (x0 x1 x2 x3) : Statement (.wldv x0 x1 x2 x3) := of_word rfl rfl (top_append _ _ (top_append _ _ (top_append _ _ (top_append _ _ (top_self _)))))
theorem wldd (x0 x1 x2 x3) : Statement (.wldd x0 x1 x2 x3) := of_word rfl rfl (top_append _ _ (top_append _ _ (top_append _ _ (top_append _ _ (top_append _ _ (top_self _))))))
theorem wattr (x0 x1 x2) : Statement (.wattr x0 x1 x2) := of_word rfl rfl (top_append _ _ (top_append _ _ (top_append _ _ (top_append _ _ (top_self _)))))
theorem wst (x0 x1) : Statement (.wst x0 x1) := of_word rfl rfl (top_append _ _ (top_append _ _ (top_self _)))
theorem mcfg (x0 x1) : Statement (.mcfg x0 x1) := of_word rfl rfl (top_append _ _ (top_append _ _ (top_append _ _ (top_self _))))
theorem mcfgR (x0 x1) : Statement (.mcfgR x0 x1) := of_word rfl rfl (top_append _ _ (top_append _ _ (top_append _ _ (top_self _))))
theorem mma (x0 x1 x2 x3 x4 x5 x6) : Statement (.mma x0 x1 x2 x3 x4 x5 x6) := of_word rfl rfl (top_append _ _ (top_append _ _ (top_append _ _ (top_append _ _ (top_append _ _ (top_append _ _ (top_append _ _ (top_append _ _ (top_self _)))))))))
theorem mmas (x0 x1 x2 x3 x4 x5 x6) : Statement (.mmas x0 x1 x2 x3 x4 x5 x6) := of_word rfl rfl (top_append _ _ (top_append _ _ (top_append _ _ (top_append _ _ (top_append _ _ (top_append _ _ (top_append _ _ (top_append _ _ (top_self _)))))))))
theorem mmv (x0 x1 x2 x3 x4 x5) : Statement (.mmv x0 x1 x2 x3 x4 x5) := of_word rfl rfl (top_append _ _ (top_append _ _ (top_append _ _ (top_append _ _ (top_append _ _ (top_append _ _ (top_append _ _ (top_self _))))))))
theorem mzero (x0 x1 x2 x3) : Statement (.mzero x0 x1 x2 x3) := of_word rfl rfl (top_append _ _ (top_append _ _ (top_append _ _ (top_append _ _ (top_append _ _ (top_self _))))))
theorem mlat (x0 x1 x2 x3) : Statement (.mlat x0 x1 x2 x3) := of_word rfl rfl (top_append _ _ (top_append _ _ (top_append _ _ (top_append _ _ (top_append _ _ (top_self _))))))
theorem mstop (x0) : Statement (.mstop x0) := of_word rfl rfl (top_append _ _ (top_append _ _ (top_self _)))
theorem cpy (x0 x1 x2 x3 x4 x5 x6) : Statement (.cpy x0 x1 x2 x3 x4 x5 x6) := of_word rfl rfl (top_append _ _ (top_append _ _ (top_append _ _ (top_append _ _ (top_append _ _ (top_append _ _ (top_append _ _ (top_self _))))))))
theorem cpyd (x0 x1 x2 x3 x4 x5) : Statement (.cpyd x0 x1 x2 x3 x4 x5) := of_word rfl rfl (top_append _ _ (top_append _ _ (top_append _ _ (top_append _ _ (top_append _ _ (top_append _ _ (top_append _ _ (top_self _))))))))
theorem pub (x0 x1 x2) : Statement (.pub x0 x1 x2) := of_word rfl rfl (top_append _ _ (top_append _ _ (top_append _ _ (top_append _ _ (top_append _ _ (top_self _))))))
theorem pubDef (x0 x1 x2 x3 x4) : Statement (.pubDef x0 x1 x2 x3 x4) := of_word rfl rfl (top_append _ _ (top_append _ _ (top_append _ _ (top_append _ _ (top_append _ _ (top_append _ _ (top_append _ _ (top_self _))))))))
theorem pubClr (x0 x1) : Statement (.pubClr x0 x1) := of_word rfl rfl (top_append _ _ (top_append _ _ (top_append _ _ (top_self _))))
theorem drain (x0 x1 x2 x3) : Statement (.drain x0 x1 x2 x3) := of_word rfl rfl (top_append _ _ (top_append _ _ (top_append _ _ (top_append _ _ (top_append _ _ (top_append _ _ (top_self _)))))))
theorem xfence (x0 x1 x2) : Statement (.xfence x0 x1 x2) := of_word rfl rfl (top_append _ _ (top_append _ _ (top_append _ _ (top_append _ _ (top_append _ _ (top_self _))))))
theorem amoAdd (x0 x1 x2 x3 x4) : Statement (.amoAdd x0 x1 x2 x3 x4) := of_word rfl rfl (top_append _ _ (top_append _ _ (top_append _ _ (top_append _ _ (top_append _ _ (top_append _ _ (top_self _)))))))
theorem amoMin (x0 x1 x2 x3 x4) : Statement (.amoMin x0 x1 x2 x3 x4) := of_word rfl rfl (top_append _ _ (top_append _ _ (top_append _ _ (top_append _ _ (top_append _ _ (top_append _ _ (top_self _)))))))
theorem amoMax (x0 x1 x2 x3 x4) : Statement (.amoMax x0 x1 x2 x3 x4) := of_word rfl rfl (top_append _ _ (top_append _ _ (top_append _ _ (top_append _ _ (top_append _ _ (top_append _ _ (top_self _)))))))
theorem amoAnd (x0 x1 x2 x3 x4) : Statement (.amoAnd x0 x1 x2 x3 x4) := of_word rfl rfl (top_append _ _ (top_append _ _ (top_append _ _ (top_append _ _ (top_append _ _ (top_append _ _ (top_self _)))))))
theorem amoOr (x0 x1 x2 x3 x4) : Statement (.amoOr x0 x1 x2 x3 x4) := of_word rfl rfl (top_append _ _ (top_append _ _ (top_append _ _ (top_append _ _ (top_append _ _ (top_append _ _ (top_self _)))))))
theorem amoXor (x0 x1 x2 x3 x4) : Statement (.amoXor x0 x1 x2 x3 x4) := of_word rfl rfl (top_append _ _ (top_append _ _ (top_append _ _ (top_append _ _ (top_append _ _ (top_append _ _ (top_self _)))))))
theorem amoSwap (x0 x1 x2 x3 x4) : Statement (.amoSwap x0 x1 x2 x3 x4) := of_word rfl rfl (top_append _ _ (top_append _ _ (top_append _ _ (top_append _ _ (top_append _ _ (top_append _ _ (top_self _)))))))
theorem amoCas (x0 x1 x2 x3 x4) : Statement (.amoCas x0 x1 x2 x3 x4) := of_word rfl rfl (top_append _ _ (top_append _ _ (top_append _ _ (top_append _ _ (top_append _ _ (top_append _ _ (top_self _)))))))
theorem redAddF32 (x0 x1 x2 x3 x4) : Statement (.redAddF32 x0 x1 x2 x3 x4) := of_word rfl rfl (top_append _ _ (top_append _ _ (top_append _ _ (top_append _ _ (top_append _ _ (top_append _ _ (top_self _)))))))
theorem redAddF64 (x0 x1 x2 x3 x4) : Statement (.redAddF64 x0 x1 x2 x3 x4) := of_word rfl rfl (top_append _ _ (top_append _ _ (top_append _ _ (top_append _ _ (top_append _ _ (top_append _ _ (top_self _)))))))
theorem redAddS32 (x0 x1 x2 x3 x4) : Statement (.redAddS32 x0 x1 x2 x3 x4) := of_word rfl rfl (top_append _ _ (top_append _ _ (top_append _ _ (top_append _ _ (top_append _ _ (top_append _ _ (top_self _)))))))
theorem redMaxF32 (x0 x1 x2 x3 x4) : Statement (.redMaxF32 x0 x1 x2 x3 x4) := of_word rfl rfl (top_append _ _ (top_append _ _ (top_append _ _ (top_append _ _ (top_append _ _ (top_append _ _ (top_self _)))))))
theorem redMinF32 (x0 x1 x2 x3 x4) : Statement (.redMinF32 x0 x1 x2 x3 x4) := of_word rfl rfl (top_append _ _ (top_append _ _ (top_append _ _ (top_append _ _ (top_append _ _ (top_append _ _ (top_self _)))))))
theorem gath (x0 x1 x2 x3 x4 x5 x6) : Statement (.gath x0 x1 x2 x3 x4 x5 x6) := of_word rfl rfl (top_append _ _ (top_append _ _ (top_append _ _ (top_append _ _ (top_append _ _ (top_append _ _ (top_append _ _ (top_append _ _ (top_self _)))))))))
theorem scat (x0 x1 x2 x3 x4 x5) : Statement (.scat x0 x1 x2 x3 x4 x5) := of_word rfl rfl (top_append _ _ (top_append _ _ (top_append _ _ (top_append _ _ (top_append _ _ (top_append _ _ (top_append _ _ (top_self _))))))))
theorem pfl2 (x0 x1 x2) : Statement (.pfl2 x0 x1 x2) := of_word rfl rfl (top_append _ _ (top_append _ _ (top_append _ _ (top_append _ _ (top_append _ _ (top_self _))))))
theorem cwbWb (x0 x1 x2 x3) : Statement (.cwbWb x0 x1 x2 x3) := of_word rfl rfl (top_append _ _ (top_append _ _ (top_append _ _ (top_append _ _ (top_append _ _ (top_append _ _ (top_self _)))))))
theorem cwbWbi (x0 x1 x2 x3) : Statement (.cwbWbi x0 x1 x2 x3) := of_word rfl rfl (top_append _ _ (top_append _ _ (top_append _ _ (top_append _ _ (top_append _ _ (top_append _ _ (top_self _)))))))
theorem cwbInv (x0 x1 x2 x3) : Statement (.cwbInv x0 x1 x2 x3) := of_word rfl rfl (top_append _ _ (top_append _ _ (top_append _ _ (top_append _ _ (top_append _ _ (top_append _ _ (top_self _)))))))
theorem kvld (x0 x1 x2 x3 x4 x5 x6) : Statement (.kvld x0 x1 x2 x3 x4 x5 x6) := of_word rfl rfl (top_append _ _ (top_append _ _ (top_append _ _ (top_append _ _ (top_append _ _ (top_append _ _ (top_append _ _ (top_append _ _ (top_self _)))))))))
theorem kvapp (x0 x1 x2 x3 x4 x5) : Statement (.kvapp x0 x1 x2 x3 x4 x5) := of_word rfl rfl (top_append _ _ (top_append _ _ (top_append _ _ (top_append _ _ (top_append _ _ (top_append _ _ (top_append _ _ (top_self _))))))))
theorem kvfork (x0 x1 x2 x3 x4) : Statement (.kvfork x0 x1 x2 x3 x4) := of_word rfl rfl (top_append _ _ (top_append _ _ (top_append _ _ (top_append _ _ (top_append _ _ (top_append _ _ (top_self _)))))))
theorem kvrel (x0 x1 x2 x3) : Statement (.kvrel x0 x1 x2 x3) := of_word rfl rfl (top_append _ _ (top_append _ _ (top_append _ _ (top_append _ _ (top_append _ _ (top_append _ _ (top_self _)))))))
theorem wprog (x0 x1 x2 x3 x4 x5) : Statement (.wprog x0 x1 x2 x3 x4 x5) := of_word rfl rfl (top_append _ _ (top_append _ _ (top_append _ _ (top_append _ _ (top_append _ _ (top_append _ _ (top_append _ _ (top_self _))))))))
theorem wprogAttr (x0 x1 x2 x3 x4) : Statement (.wprogAttr x0 x1 x2 x3 x4) := of_word rfl rfl (top_append _ _ (top_append _ _ (top_append _ _ (top_append _ _ (top_append _ _ (top_append _ _ (top_self _)))))))
theorem wfence (x0) : Statement (.wfence x0) := of_word rfl rfl (top_append _ _ (top_append _ _ (top_self _)))
theorem whash (x0 x1 x2 x3 x4 x5) : Statement (.whash x0 x1 x2 x3 x4 x5) := of_word rfl rfl (top_append _ _ (top_append _ _ (top_append _ _ (top_append _ _ (top_append _ _ (top_append _ _ (top_append _ _ (top_self _))))))))
theorem binit (x0 x1 x2 x3) : Statement (.binit x0 x1 x2 x3) := of_word rfl rfl (top_append _ _ (top_append _ _ (top_append _ _ (top_append _ _ (top_append _ _ (top_append _ _ (top_self _)))))))
theorem bexp (x0 x1 x2 x3 x4) : Statement (.bexp x0 x1 x2 x3 x4) := of_word rfl rfl (top_append _ _ (top_append _ _ (top_append _ _ (top_append _ _ (top_append _ _ (top_append _ _ (top_append _ _ (top_self _))))))))
theorem barr (x0 x1 x2 x3 x4) : Statement (.barr x0 x1 x2 x3 x4) := of_word rfl rfl (top_append _ _ (top_append _ _ (top_append _ _ (top_append _ _ (top_append _ _ (top_append _ _ (top_append _ _ (top_self _))))))))
theorem bdrop (x0 x1 x2 x3) : Statement (.bdrop x0 x1 x2 x3) := of_word rfl rfl (top_append _ _ (top_append _ _ (top_append _ _ (top_append _ _ (top_append _ _ (top_append _ _ (top_self _)))))))
theorem migr (x0 x1 x2 x3 x4 x5) : Statement (.migr x0 x1 x2 x3 x4 x5) := of_word rfl rfl (top_append _ _ (top_append _ _ (top_append _ _ (top_append _ _ (top_append _ _ (top_append _ _ (top_append _ _ (top_self _))))))))
theorem qcrt (x0 x1 x2 x3 x4) : Statement (.qcrt x0 x1 x2 x3 x4) := of_word rfl rfl (top_append _ _ (top_append _ _ (top_append _ _ (top_append _ _ (top_append _ _ (top_append _ _ (top_self _)))))))
theorem qdel (x0 x1 x2) : Statement (.qdel x0 x1 x2) := of_word rfl rfl (top_append _ _ (top_append _ _ (top_append _ _ (top_append _ _ (top_append _ _ (top_self _))))))
theorem bundleIssue : Statement (.bundleIssue) := of_none rfl rfl
theorem exposedResultLand : Statement (.exposedResultLand) := of_none rfl rfl
theorem waitEnd : Statement (.waitEnd) := of_none rfl rfl
theorem feFreezeTimeout : Statement (.feFreezeTimeout) := of_none rfl rfl
theorem quantumExpiry : Statement (.quantumExpiry) := of_none rfl rfl
theorem contextSwitch : Statement (.contextSwitch) := of_none rfl rfl
theorem trapEntry : Statement (.trapEntry) := of_none rfl rfl
theorem serviceRequest : Statement (.serviceRequest) := of_none rfl rfl
theorem preemption : Statement (.preemption) := of_none rfl rfl
theorem contextResume : Statement (.contextResume) := of_none rfl rfl
theorem syncRestart : Statement (.syncRestart) := of_none rfl rfl
theorem syncTimeout : Statement (.syncTimeout) := of_none rfl rfl
theorem matrixCommit : Statement (.matrixCommit) := of_none rfl rfl
theorem mmasCommit : Statement (.mmasCommit) := of_none rfl rfl
theorem commandAbandon : Statement (.commandAbandon) := of_none rfl rfl
theorem operationComplete : Statement (.operationComplete) := of_none rfl rfl
theorem operationFault : Statement (.operationFault) := of_none rfl rfl
theorem barrierOrderedAction : Statement (.barrierOrderedAction) := of_none rfl rfl
theorem pubPerform : Statement (.pubPerform) := of_none rfl rfl
theorem cpydDeadline : Statement (.cpydDeadline) := of_none rfl rfl
theorem eventRecordEnqueue : Statement (.eventRecordEnqueue) := of_none rfl rfl
theorem reductionApply : Statement (.reductionApply) := of_none rfl rfl
theorem containmentPublish : Statement (.containmentPublish) := of_none rfl rfl
theorem monitorWake : Statement (.monitorWake) := of_none rfl rfl
theorem walkRetry : Statement (.walkRetry) := of_none rfl rfl
theorem migrationCommit : Statement (.migrationCommit) := of_none rfl rfl
theorem migrationAbandon : Statement (.migrationAbandon) := of_none rfl rfl
theorem arbiterGrant : Statement (.arbiterGrant) := of_none rfl rfl
theorem wprogRowStart : Statement (.wprogRowStart) := of_none rfl rfl
theorem programPhaseEnd : Statement (.programPhaseEnd) := of_none rfl rfl
theorem wprogCompletion : Statement (.wprogCompletion) := of_none rfl rfl
theorem attrCommit : Statement (.attrCommit) := of_none rfl rfl
theorem whashCompletion : Statement (.whashCompletion) := of_none rfl rfl
theorem queueDestroy : Statement (.queueDestroy) := of_none rfl rfl
theorem hostTailWrite (x0 x1) : Statement (.hostTailWrite x0 x1) := of_none rfl rfl
theorem hostApertureAccess (x0 x1 x2) : Statement (.hostApertureAccess x0 x1 x2) := of_none rfl rfl
theorem launchDescriptorPop : Statement (.launchDescriptorPop) := of_none rfl rfl
theorem placementPass : Statement (.placementPass) := of_none rfl rfl
theorem contextStart : Statement (.contextStart) := of_none rfl rfl
theorem launchCompletion : Statement (.launchCompletion) := of_none rfl rfl
theorem noticeItemDelivery : Statement (.noticeItemDelivery) := of_none rfl rfl
theorem leaseStart : Statement (.leaseStart) := of_none rfl rfl
theorem leaseGrant : Statement (.leaseGrant) := of_none rfl rfl
theorem grantDeadline : Statement (.grantDeadline) := of_none rfl rfl
theorem leasePrepared : Statement (.leasePrepared) := of_none rfl rfl
theorem leaseScrubDone : Statement (.leaseScrubDone) := of_none rfl rfl
theorem leaseTestEnd : Statement (.leaseTestEnd) := of_none rfl rfl
theorem clockStretch (x0 x1) : Statement (.clockStretch x0 x1) := of_none rfl rfl
theorem thermalShutdown : Statement (.thermalShutdown) := of_none rfl rfl
theorem powerOn : Statement (.powerOn) := of_none rfl rfl
theorem reset : Statement (.reset) := of_none rfl rfl
theorem powerLoss : Statement (.powerLoss) := of_none rfl rfl
theorem imageRootFormed : Statement (.imageRootFormed) := of_none rfl rfl
theorem packageDump : Statement (.packageDump) := of_none rfl rfl
theorem getVersion (x0) : Statement (.getVersion x0) := of_none rfl rfl
theorem getCapabilities (x0) : Statement (.getCapabilities x0) := of_none rfl rfl
theorem negotiateAlgorithms (x0 x1 x2 x3 x4 x5) : Statement (.negotiateAlgorithms x0 x1 x2 x3 x4 x5) := of_none rfl rfl
theorem getDigests (x0) : Statement (.getDigests x0) := of_none rfl rfl
theorem getCertificate (x0 x1) : Statement (.getCertificate x0 x1) := of_none rfl rfl
theorem challenge (x0 x1) : Statement (.challenge x0 x1) := of_none rfl rfl
theorem getMeasurements (x0 x1) : Statement (.getMeasurements x0 x1) := of_none rfl rfl
theorem keyExchange (x0 x1) : Statement (.keyExchange x0 x1) := of_none rfl rfl
theorem finish (x0) : Statement (.finish x0) := of_none rfl rfl
theorem unsupportedRequest (x0 x1) : Statement (.unsupportedRequest x0 x1) := of_none rfl rfl
theorem sessionEnd (x0) : Statement (.sessionEnd x0) := of_none rfl rfl
theorem getState (x0 x1) : Statement (.getState x0 x1) := of_none rfl rfl
theorem lock (x0 x1) : Statement (.lock x0 x1) := of_none rfl rfl
theorem getReport (x0 x1) : Statement (.getReport x0 x1) := of_none rfl rfl
theorem start (x0 x1 x2) : Statement (.start x0 x1 x2) := of_none rfl rfl
theorem stop (x0 x1) : Statement (.stop x0 x1) := of_none rfl rfl
theorem ptRegisterWrite (x0 x1 x2 x3) : Statement (.ptRegisterWrite x0 x1 x2 x3) := of_none rfl rfl
theorem partitionScrubDone : Statement (.partitionScrubDone) := of_none rfl rfl
theorem mgWpmoveWrite (x0) : Statement (.mgWpmoveWrite x0) := of_none rfl rfl
theorem wpageMoveDone : Statement (.wpageMoveDone) := of_none rfl rfl
theorem mgRemeasWrite (x0) : Statement (.mgRemeasWrite x0) := of_none rfl rfl
theorem mgThermRead : Statement (.mgThermRead) := of_none rfl rfl
theorem managementWrite (x0 x1) : Statement (.managementWrite x0 x1) := of_none rfl rfl
theorem fabricAck (x0 x1) : Statement (.fabricAck x0 x1) := of_none rfl rfl
theorem laneWidthChange (x0 x1 x2) : Statement (.laneWidthChange x0 x1 x2) := of_none rfl rfl
theorem startStepComplete : Statement (.startStepComplete) := of_none rfl rfl
theorem walkComplete : Statement (.walkComplete) := of_none rfl rfl
theorem loadPipeDataArrival : Statement (.loadPipeDataArrival) := of_none rfl rfl
theorem handleEntryArrival : Statement (.handleEntryArrival) := of_none rfl rfl
theorem imageWriteDrained : Statement (.imageWriteDrained) := of_none rfl rfl
theorem fabricFlitReceived (x0 x1 x2 x3) : Statement (.fabricFlitReceived x0 x1 x2 x3) := of_none rfl rfl

end Sys2Proof.Laws.EncodeClass
end

