-- ==== Sys2Proof/Laws/Update.lean ====
section
/-! SUPPORT. Two updates of one core or one context are one update. -/
namespace Sys2Proof

theorem Map.erase_insert {α : Type} (m : Map α) (k : Nat) (v : α) (h : m.find k = none) : (m.insert k v).erase k = m := by
  induction m with
  | nil => simp [Map.insert, Map.erase]
  | cons e rest ih =>
    obtain ⟨j, w⟩ := e
    by_cases hj : j = k
    · simp [Map.find, hj] at h
    · simp only [Map.find, hj, if_false] at h
      have hr : Map.erase rest k = rest := by
        have aux : ∀ l : Map α, l.find k = none → Map.erase l k = l := by
          intro l
          induction l with
          | nil => intro _; rfl
          | cons f t iht =>
            obtain ⟨i, u⟩ := f
            intro hl
            by_cases hi : i = k
            · simp [Map.find, hi] at hl
            · simp only [Map.find, hi, if_false] at hl
              simp [Map.erase, hi, iht hl]
        exact aux rest h
      by_cases hk : k < j
      · simp [Map.insert, hk, Map.erase, hj, hr]
      · simp [Map.insert, hk, Map.erase, hj, ih h]

/-- The later of two puts at one key stands. -/
@[simp] theorem Map.put_put {α : Type} (m : Map α) (k : Nat) (v w : α) : (m.put k v).put k w = m.put k w := by
  simp only [Map.put, Map.erase_insert _ _ _ (Map.find_erase_self m k)]

namespace Machine

@[simp] theorem Core.setCtx_setCtx (c : Core) (i : Nat) (x y : Ctx) : (c.setCtx i x).setCtx i y = c.setCtx i y := by
  simp [Core.setCtx]

@[simp] theorem State.setCore_setCore (s : State) (r : Nat) (c d : Core) : (s.setCore r c).setCore r d = s.setCore r d := by
  simp [State.setCore]

@[simp] theorem State.setCore_me (s : State) (c : Core) : (s.setCore s.cur c).me = c := by
  simp [State.setCore, State.me, State.core]

/-- Two updates of the acting core are one. -/
theorem State.updCore_updCore (s : State) (f g : Core → Core) : (s.updCore f).updCore g = s.updCore (fun c => g (f c)) := by
  have h : (s.updCore f).me = f s.me := by simp [State.updCore]
  unfold State.updCore at h ⊢
  rw [h]
  exact State.setCore_setCore s s.cur _ _

/-- An update of the acting context is one of the acting core. -/
theorem State.updCtx_eq (s : State) (f : Ctx → Ctx) : s.updCtx f = s.updCore (fun c => c.setCtx s.who (f (c.ctx s.who))) := rfl

/-- A result put in flight is one update of the acting core. -/
theorem State.emit_eq (s : State) (lat : Nat) (ws : List RegWrite) (fl : FpFlags) (bad : Bool) : s.emit lat ws fl bad =
    s.updCore (fun c => { c with seq := c.seq + 1 }.setCtx s.who { c.ctx s.who with
      pend := insertPend ⟨(c.ctx s.who).clock + lat, c.seq, ws, fl, bad⟩ (c.ctx s.who).pend }) := by
  unfold State.emit
  rw [State.updCtx_eq, State.updCore_updCore]
  rfl

end Machine
end Sys2Proof
end

