-- ==== Sys2Proof/Tests/Slice0.lean ====
section
/-! SUPPORT. Tests of the model: ill-formed terms, words written out from the encodings of the specification, small runs of one
instruction, and for every statement with hypotheses a state and operands that meet them. Expected results come from the rules,
tables and examples of spec/, or from arithmetic by hand. -/
namespace Sys2Proof.Tests
set_option Elab.async false
open Sys2Proof Sys2Proof.Machine

/-! ### Helpers -/

/-- The reset state. -/
def rst : State := State.reset
/-- The reset state with the acting context changed: context 0 of core 0. -/
def ctx0 (f : Ctx → Ctx) : State := rst.updCtx f
/-- The reset state with the acting core changed. -/
def core0 (f : Core → Core) : State := rst.updCore f
/-- The state an instruction answers. -/
def ans (i : Instr) (s : State) : State := match exec i s with
  | .next t => t
  | _ => s
/-- What an instruction puts in flight: how many cycles on, the destinations, the flags. -/
def lands (i : Instr) (s : State) : List (Nat × List RegWrite × FpFlags) :=
  (ans i s).ctx.pend.map (fun e => (e.due - s.ctx.clock, e.writes, e.flags))
/-- The cause of a trap that an instruction takes, and its information. -/
def trapOf (i : Instr) (s : State) : Nat × DWord := let t := ans i s; ((t.ctx.trapCause.extractLsb' 0 8).toNat, t.ctx.trapInfo)
/-- s1 and s2 hold two values. -/
def s12 (a b : Word) : State := ctx0 (fun x => (x.ws 1 a).ws 2 b)
/-- The reset state with a word of A-space and a register. -/
def mem (a v : Nat) (r : Nat) (w : DWord) : State := (core0 (fun c => c.store a v 4 false)).updCtx (fun x => x.wa r w)
/-- Every word decodes, in a slot of the class, to the instruction beside it. -/
def reads (c : SlotClass) (l : List (Word × Instr)) : Bool := l.all (fun p => match decodeSlot c p.1 with
  | .ok i => decide (i = p.2)
  | .error _ => false)
/-- No word decodes in a slot of the class. -/
def refuses (c : SlotClass) (l : List Word) : Bool := l.all (fun w => match decodeSlot c w with
  | .ok _ => false
  | .error _ => true)

/-! ### Ill-formed instructions: one for each check -/

theorem test_wf_conditionCode : (Instr.cmp 0 1 6 1 2).decodeCheck = some .conditionCode := by decide
theorem test_wf_predicatePair : (Instr.cmp 0 0 0 1 2).decodeCheck = some .predicatePair
    ∧ (Instr.evpop 0 1 1 3 0).decodeCheck = some .predicatePair := by decide
theorem test_wf_predicateRange : (Instr.ppack 0 9 1).decodeCheck = some .predicateRange := by decide
theorem test_wf_levelCount : (Instr.lset 0 1 2 3 6).decodeCheck = some .levelCount
    ∧ (Instr.lexit 0 0).decodeCheck = some .levelCount := by decide
theorem test_wf_systemRegister : (Instr.sysrd 0 1 0 0x00D).decodeCheck = some .systemRegister := by decide
theorem test_wf_reservedField : (Instr.sysrd 0 1 1 0x000).decodeCheck = some .reservedField := by decide
theorem test_wf_zeroCount : (Instr.snop 0 0).decodeCheck = some .zeroCount := by decide
theorem test_wf_typeCode : (Instr.vand 0 1 2 3 0 8).decodeCheck = some .typeCode := by decide
theorem test_wf_pattern : (Instr.vshuf 0 1 2 3 4 2).decodeCheck = some .pattern := by decide
theorem test_wf_roundingMode : (Instr.vrnd 0 1 2 5 0 8).decodeCheck = some .roundingMode := by decide
theorem test_wf_ordinaryFormat : (Instr.vqnt 0 8 0 20 0 1 3).decodeCheck = some .ordinaryFormat := by decide
/-- The example of R133: a VQNT.f16 with va = 6. -/
theorem test_wf_registerGroup : (Instr.vqnt 0 8 6 20 0 1 1).decodeCheck = some .registerGroup := by decide
theorem test_wf_formatIndex : (Instr.vcvt 0 3 5 7 8 1).decodeCheck = some .formatIndex := by decide
theorem test_wf_functionCode : (Instr.viop 0 1 2 3 5).decodeCheck = some .functionCode := by decide
theorem test_wf_accessSize : (Instr.ld 0 1 2 5 0).decodeCheck = some .accessSize := by decide
theorem test_wf_accumulator : (Instr.mzero 0 1 0 2).decodeCheck = some .accumulator := by decide
theorem test_wf_pointerRegister : (Instr.gath 0 1 15 2 0 0 0).decodeCheck = some .pointerRegister := by decide
theorem test_wf_accepts : (Instr.vqnt 0 8 0 20 0 1 0).wf = true ∧ (Instr.mzero 0 0 1 2).wf = true := by decide

/-! ### Words of the specification's examples and programs -/

/-- R41's stored bundle, and the S-slot words of R80, R81, R89, R93 and the programs. -/
theorem test_words_scalar : reads .S [
    (0x40461100, .add 4 3 1 2), (0x024A0FDB, .movi 0 5 0x0FDB), (0x024BFFFD, .movi 0 5 0x1FFFD), (0x028A0008, .movhi 0 5 8),
    (0x03120880, .cmp 0 2 2 1 2), (0x06400080, .brl 0 0x80), (0x463FFFFA, .br 4 0x3FFFFA), (0x08024601, .lset 0 1 2 3 1),
    (0x08400001, .lbody 0 1), (0x08C24004, .nset 0 1 2 4), (0x04C03F40, .aaddi 0 0 0 0x3F40), (0x04CC8100, .aaddi 0 3 2 256),
    (0x04420144, .ppack 0 8 10), (0x04600145, .punpk 0 8 10), (0x03600800, .cmpi 0 4 0 1 0), (0x967FFF97, .brl 9 0x3FFF97),
    (0x05184E00, .amovHi 0 6 7), (0x0C81E004, .sysrd 0 0 15 4), (0x0C920002, .sysrd 0 9 0 2), (0x0CC0A001, .syswr 0 0 5 1),
    (0x0CDA0019, .syswr 0 13 0 0x19), (0x0C400000, .eret 0), (0x0C400001, .eretD 0), (0x0D18C001, .contain 0 12 6 1),
    (0x0D400000, .uncontain 0), (0x0D815B00, .dchk 0 21 22), (0x0E000028, .snop 0 40)] = true := by decide +kernel
theorem test_words_waits : reads .S [
    (0x39018001, .bwait 3 12 0 1), (0x0900E001, .bwait 0 7 0 1), (0x0961C408, .evpop 0 16 14 2 8), (0x0A95C802, .qpop 0 10 14 4 1),
    (0x0AB9D00D, .qpopB 0 28 14 8 6), (0x09C00007, .sync 0 7), (0x0A000007, .gdrop 0 7), (0x2B000000, .leave 2)] = true := by
  decide +kernel
theorem test_words_vector : reads .V [
    (0x004221A8, .vadd 0 1 2 3 2 8), (0x04641108, .vcmp 0 2 2 1 2 0 8), (0x07465780, .vcvt 0 3 5 7 8 0),
    (0x08D00A04, .vqnt 0 8 0 20 0 1 0), (0x09518A24, .vlins 0 8 24 20 2 1 0), (0x0BD03200, .viop 0 8 3 4 0), (0x0BED2982, .viop 0 22 18 19 2),
    (0x05286005, .vbcast 0 20 6 0 5), (0x04515B02, .vcmp 0 1 0 21 22 0 2), (0x01C62A88, .vmax 0 3 2 21 0 8), (0x0B140010, .vacr 0 10 0 0 8),
    (0x0B020004, .vacr 0 1 0 0 2)] = true := by decide +kernel
theorem test_words_memory : reads .A [
    (0x00CE4002, .ldv 0 7 2 2), (0x004C5002, .ld 0 6 2 4 2), (0x01468980, .ldvs 0 3 4 9), (0x03420000, .sta 0 1 0 0),
    (0x00921003, .st 0 9 0 4 3), (0x02715000, .ldf 0 24 10 0), (0x02815000, .ste 0 0 10 0), (0x01024000, .stv 0 1 2 0),
    (0x01BC8F80, .stvs 0 30 4 15), (0x02107580, .stvx 0 8 3 21)] = true := by decide +kernel
theorem test_words_weight : reads .W [(0x00888000, .wldv 0 2 2 0), (0x00CC8C00, .wldd 0 3 2 3), (0x01400005, .wst 0 5)] = true := by
  decide +kernel
theorem test_words_matrix : reads .M [
    (0x008C48A1, .mma 0 12 2 4 5 0 1), (0x00804460, .mma 0 0 2 2 3 0 0), (0x01002460, .mmv 0 0 1 2 3 0), (0x01400000, .mzero 0 0 0 0),
    (0x0192C800, .mlat 0 9 6 1), (0x01A6A800, .mlat 0 19 5 1), (0x01C00000, .mstop 0), (0x004A0000, .mcfg 0 5)] = true := by decide +kernel
theorem test_words_copy : reads .C [
    (0x004D0931, .cpy 0 3 4 1 2 6 1), (0x0059C800, .cpy 0 6 7 1 0 0 0), (0x00C00801, .pub 0 2 1), (0x00CA0144, .pubDef 0 2 8 10 0),
    (0x0195CD47, .amoCas 0 5 7 3 10), (0x0719C1A0, .binit 0 6 7 13), (0x011C0400, .drain 0 7 1 0), (0x041A0540, .kvld 0 6 8 1 10 0 0),
    (0x04534500, .kvapp 0 4 13 1 8 0), (0x04914400, .kvfork 0 4 5 1 0), (0x04D40400, .kvrel 0 5 1 0), (0x06400000, .wfence 0)] = true := by
  decide +kernel
/-- Reserved cells and reserved fields are no instruction (R19, R20). -/
theorem test_words_refused : refuses .S [0x00000001, 0x0FC00000, 0x00400016] = true ∧ refuses .A [0x0FC00000] = true
    ∧ refuses .C [0x00C0000C, 0x00C00010] = true := by decide +kernel

/-! ### A word for every instruction, with distinct field values -/

theorem test_decode_scalar1 : reads .S [
    (0x90000000, .nop 9), (0x906AB300, .add 9 21 11 6), (0x906AB301, .sub 9 21 11 6), (0x906AB302, .mul 9 21 11 6),
    (0x906AB303, .mulh 9 21 11 6), (0x906AB304, .mulhz 9 21 11 6), (0x906AB305, .div 9 21 11 6), (0x906AB306, .divz 9 21 11 6),
    (0x906AB307, .rem 9 21 11 6), (0x906AB308, .remz 9 21 11 6), (0x906AB309, .and 9 21 11 6), (0x906AB30A, .or 9 21 11 6)] = true := by decide +kernel
theorem test_decode_scalar2 : reads .S [
    (0x906AB30B, .xor 9 21 11 6), (0x906AB30C, .andn 9 21 11 6), (0x906AB30D, .shl 9 21 11 6), (0x906AB30E, .shr 9 21 11 6),
    (0x906AB30F, .sra 9 21 11 6), (0x906AB310, .min 9 21 11 6), (0x906AB311, .max 9 21 11 6), (0x906AB312, .minz 9 21 11 6),
    (0x906AB313, .maxz 9 21 11 6), (0x906AB014, .clz 9 21 11), (0x906AB015, .popc 9 21 11), (0x90AABA95, .addi 9 21 11 2709)] = true := by decide +kernel
theorem test_decode_scalar3 : reads .S [
    (0x90EABA95, .andi 9 21 11 2709), (0x912ABA95, .ori 9 21 11 2709), (0x916ABA95, .xori 9 21 11 2709),
    (0x91AAB015, .shli 9 21 11 21), (0x91EAB015, .shri 9 21 11 21), (0x922AB015, .srai 9 21 11 21),
    (0x926A2A95, .movi 9 21 10901), (0x92AA2A95, .movhi 9 21 10901), (0x92EAB360, .sel 9 21 11 6 12),
    (0x931E5980, .cmp 9 3 6 11 6), (0x935E5A95, .cmpi 9 3 6 11 661), (0x93AAB300, .fadd 9 21 11 6)] = true := by decide +kernel
theorem test_decode_scalar4 : reads .S [
    (0x93AAB301, .fsub 9 21 11 6), (0x93AAB302, .fmul 9 21 11 6), (0x93AAB303, .fdiv 9 21 11 6), (0x93AAB004, .fsqrt 9 21 11),
    (0x93AAB305, .fmin 9 21 11 6), (0x93AAB306, .fmax 9 21 11 6), (0x93AAB307, .fsgn 9 21 11 6),
    (0x93AAB008, .fcvtF32S32 9 21 11), (0x93AAB088, .fcvtF32Z32 9 21 11), (0x93AAB108, .fcvtS32F32 9 21 11),
    (0x93AAB188, .fcvtZ32F32 9 21 11), (0x93AAB208, .fcvtF32F16 9 21 11)] = true := by decide +kernel
theorem test_decode_scalar5 : reads .S [
    (0x93AAB288, .fcvtF32Bf16 9 21 11), (0x93AAB308, .fcvtF16F32 9 21 11), (0x93AAB388, .fcvtBf16F32 9 21 11),
    (0x93EAB338, .ffma 9 21 11 6 14), (0x941E5980, .fcmp 9 3 6 11 6), (0x9456D800, .pand 9 5 11 6),
    (0x9456D801, .por 9 5 11 6), (0x9456D802, .pxor 9 5 11 6), (0x9456C003, .pmov 9 5 11), (0x9442C264, .ppack 9 11 19),
    (0x94540265, .punpk 9 5 19), (0x9496E600, .aadd 9 5 11 19)] = true := by decide +kernel
theorem test_decode_scalar6 : reads .S [
    (0x94D6EA95, .aaddi 9 5 11 10901), (0x95142600, .amov 9 5 19), (0x95146600, .amovHi 9 5 19), (0x9542E600, .atos 9 11 19),
    (0x9546E600, .atosHi 9 11 19), (0x9596E600, .atag 9 5 11 19), (0x96002A95, .br 9 10901), (0x96402A95, .brl 9 10901),
    (0x96AC0000, .jr 9 11), (0x96EC0000, .jrl 9 11), (0x972C0000, .ret 9 11), (0x97402A95, .ibsw 9 10901)] = true := by decide +kernel
theorem test_decode_scalar7 : reads .S [
    (0x97800000, .ifence 9), (0x98076E02, .lset 9 3 11 7 2), (0x98400002, .lbody 9 2), (0x98800003, .lexit 9 3),
    (0x98C76155, .nset 9 3 11 341), (0x990160AB, .bwait 9 11 85 1), (0x99677955, .evpop 9 19 11 12 341),
    (0x99800000, .evwait 9), (0x99C00003, .sync 9 3), (0x9A000003, .gdrop 9 3), (0x9A400000, .yield 9),
    (0x9AA778AA, .qpop 9 19 11 12 85)] = true := by decide +kernel
theorem test_decode_scalar8 : reads .S [
    (0x9AA778AB, .qpopB 9 19 11 12 85), (0x9AE760AA, .qpush 9 19 11 85), (0x9B000000, .leave 9), (0x9C00000E, .trap 9 14),
    (0x9C400000, .eret 9), (0x9C400001, .eretD 9), (0x9CA76012, .sysrd 9 19 11 18), (0x9CE76012, .syswr 9 19 11 18),
    (0x9D276005, .contain 9 19 11 5), (0x9D400000, .uncontain 9), (0x9D80B300, .dchk 9 11 6), (0x9DE60001, .cycrd 9 19 1)] = true := by decide +kernel
theorem test_decode_scalar9 : reads .S [
    (0x9DC16003, .cycrdW 9 11 1), (0x9E000003, .snop 9 3), (0x9E400000, .halt 9)] = true := by decide +kernel
theorem test_decode_vector1 : reads .V [
    (0x906AB359, .vadd 9 21 11 6 5 9), (0x90AAB359, .vsub 9 21 11 6 5 9), (0x90EAB359, .vmul 9 21 11 6 5 9),
    (0x912AB359, .vfma 9 21 11 6 5 9), (0x916AB359, .vfms 9 21 11 6 5 9), (0x91AAB359, .vmin 9 21 11 6 5 9),
    (0x91EAB359, .vmax 9 21 11 6 5 9), (0x922AB059, .vabs 9 21 11 5 9), (0x926AB059, .vneg 9 21 11 5 9),
    (0x92AAB359, .vand 9 21 11 6 5 9), (0x92EAB359, .vor 9 21 11 6 5 9), (0x932AB359, .vxor 9 21 11 6 5 9)] = true := by decide +kernel
theorem test_decode_vector2 : reads .V [
    (0x936AB359, .vandn 9 21 11 6 5 9), (0x93AAB359, .vshl 9 21 11 6 5 9), (0x93EAB359, .vshr 9 21 11 6 5 9),
    (0x942AB359, .vsra 9 21 11 6 5 9), (0x947CB359, .vcmp 9 3 6 11 6 5 9), (0x94AAB359, .vsel 9 21 11 6 5 9),
    (0x94EAB059, .vmov 9 21 11 5 9), (0x952B3059, .vbcast 9 21 19 5 9), (0x956AB309, .vext 9 21 11 6 9),
    (0x95AAB309, .vins 9 21 11 6 9), (0x95EAB359, .vperm 9 21 11 6 5 9), (0x962AB349, .vshuf 9 21 11 6 4 9)] = true := by decide +kernel
theorem test_decode_vector3 : reads .V [
    (0x966AB359, .vrot 9 21 11 6 5 9), (0x96AAB059, .vreds 9 21 11 5 9), (0x96EAB059, .vredmMax 9 21 11 5 9),
    (0x96EAB0D9, .vredmMin 9 21 11 5 9), (0x972AB359, .vdot 9 21 11 6 5 9), (0x976ABD74, .vcvt 9 21 11 13 7 2),
    (0x97AAB2D9, .vrnd 9 21 11 5 5 9), (0x97EAB059, .vexp2 9 21 11 5 9), (0x982AB059, .vlog2 9 21 11 5 9),
    (0x986AB059, .vrcp 9 21 11 5 9), (0x98AAB059, .vrsq 9 21 11 5 9), (0x98EAB359, .vqnt 9 21 11 6 5 2 1)] = true := by decide +kernel
theorem test_decode_vector4 : reads .V [
    (0x992AB359, .vdql 9 21 11 6 5 2 1), (0x996AB359, .vlins 9 21 11 6 5 2 1), (0x99AAB359, .vlext 9 21 11 6 5 2 1),
    (0x99EAB358, .vlnrm 9 21 11 6 5 2), (0x9A22D650, .vtrw 9 17 1 21 9 2), (0x9A62D650, .vtrr 9 17 1 21 9 2),
    (0x9AA2D650, .vtcw 9 17 1 21 9 2), (0x9AE2D650, .vtcr 9 17 1 21 9 2), (0x9B2A7252, .vacr 9 21 14 18 9),
    (0x9B6A7252, .vacw 9 21 14 18 9), (0x9B80B359, .vdchk 9 11 6 5 9), (0x9BEAB30A, .viop 9 21 11 6 10)] = true := by decide +kernel
theorem test_decode_vector5 : reads .V [
    (0x9C2AB30A, .vfop 9 21 11 6 10)] = true := by decide +kernel
theorem test_decode_memory1 : reads .A [
    (0x906AD155, .ld 9 21 6 4 341), (0x90AAD155, .st 9 21 6 4 341), (0x90EAC155, .ldv 9 21 6 341),
    (0x912AC155, .stv 9 21 6 341), (0x916ACD80, .ldvs 9 21 6 13), (0x91AACD80, .stvs 9 21 6 13), (0x91EACD80, .ldvx 9 21 6 13),
    (0x922ACD80, .stvx 9 21 6 13), (0x926AD155, .ldf 9 21 6 341), (0x92AAD155, .ste 9 21 6 341), (0x92C2CD00, .fesetF 9 6 13),
    (0x92C0CD00, .fesetE 9 6 13)] = true := by decide +kernel
theorem test_decode_memory2 : reads .A [
    (0x930AC155, .lda 9 5 6 341), (0x934AC155, .sta 9 5 6 341)] = true := by decide +kernel
theorem test_decode_weight1 : reads .W [
    (0x90580155, .wldm 9 6 341), (0x90958155, .wldv 9 5 6 341), (0x90D5B400, .wldd 9 5 6 13), (0x912AC000, .wattr 9 21 6),
    (0x9140000E, .wst 9 14)] = true := by decide +kernel
theorem test_decode_matrix1 : reads .M [
    (0x90660000, .mcfg 9 19), (0x90660800, .mcfgR 9 19), (0x908E76CC, .mma 9 14 3 11 6 3 0),
    (0x90CE76CC, .mmas 9 14 3 11 6 3 0), (0x910E76C0, .mmv 9 14 3 11 6 0), (0x914E000E, .mzero 9 14 3 2),
    (0x91A77000, .mlat 9 19 11 2), (0x91C00000, .mstop 9)] = true := by decide +kernel
theorem test_decode_copy1 : reads .C [
    (0x90569CB5, .cpy 9 5 10 3 9 6 5), (0x90969CCC, .cpyd 9 5 10 3 9 19), (0x90C02402, .pub 9 9 2),
    (0x90EDC266, .pubDef 9 11 7 19 2), (0x90C0000A, .pubClr 9 2), (0x91182401, .drain 9 6 9 1), (0x91402660, .xfence 9 9 19),
    (0x91B5E660, .amoAdd 9 13 7 9 19), (0x91B5E661, .amoMin 9 13 7 9 19), (0x91B5E662, .amoMax 9 13 7 9 19),
    (0x91B5E663, .amoAnd 9 13 7 9 19), (0x91B5E664, .amoOr 9 13 7 9 19)] = true := by decide +kernel
theorem test_decode_copy2 : reads .C [
    (0x91B5E665, .amoXor 9 13 7 9 19), (0x91B5E666, .amoSwap 9 13 7 9 19), (0x91B5E667, .amoCas 9 13 7 9 19),
    (0x91F5E660, .redAddF32 9 13 7 9 19), (0x91F5E661, .redAddF64 9 13 7 9 19), (0x91F5E662, .redAddS32 9 13 7 9 19),
    (0x91F5E663, .redMaxF32 9 13 7 9 19), (0x91F5E664, .redMinF32 9 13 7 9 19), (0x92169CB1, .gath 9 5 10 3 9 6 1),
    (0x92569CB0, .scat 9 5 10 3 9 6), (0x92B40260, .pfl2 9 13 19), (0x92F42660, .cwbWb 9 13 9 19)] = true := by decide +kernel
theorem test_decode_copy3 : reads .C [
    (0x92F42661, .cwbWbi 9 13 9 19), (0x92F42662, .cwbInv 9 13 9 19), (0x9435E663, .kvld 9 13 7 9 19 1 1),
    (0x9475E661, .kvapp 9 13 7 9 19 1), (0x94B5E401, .kvfork 9 13 7 9 1), (0x94F42401, .kvrel 9 13 9 1),
    (0x9635E661, .wprog 9 13 7 9 19 1), (0x9635E403, .wprogAttr 9 13 7 9 1), (0x96400000, .wfence 9),
    (0x96B5E661, .whash 9 13 7 9 19 1), (0x9735C260, .binit 9 13 7 19), (0x97742661, .bexp 9 13 9 19 1)] = true := by decide +kernel
theorem test_decode_copy4 : reads .C [
    (0x97B42661, .barr 9 13 9 19 1), (0x97F42401, .bdrop 9 13 9 1), (0x9C35E661, .migr 9 13 7 9 19 1),
    (0x9C75E660, .qcrt 9 13 7 9 19), (0x9C802660, .qdel 9 9 19)] = true := by decide +kernel

/-! ### Small runs: scalar -/

theorem test_add_wraps : lands (.add 0 3 1 2) (s12 0xFFFFFFFF 1) = [(1, [.s 3 0], 0)] := by decide +kernel
theorem test_sub : lands (.sub 0 3 1 2) (s12 0 1) = [(1, [.s 3 0xFFFFFFFF], 0)] := by decide +kernel
theorem test_mulh_signed : lands (.mulh 0 3 1 2) (s12 0xFFFFFFFF 2) = [(3, [.s 3 0xFFFFFFFF], 0)] := by decide +kernel
theorem test_mulhz_unsigned : lands (.mulhz 0 3 1 2) (s12 0xFFFFFFFF 2) = [(3, [.s 3 1], 0)] := by decide +kernel
/-- The table of R78. -/
theorem test_div_overflow : lands (.div 0 3 1 2) (s12 0x80000000 0xFFFFFFFF) = [(18, [.s 3 0x80000000], 0)] := by decide +kernel
theorem test_rem_by_zero : lands (.rem 0 3 1 2) (s12 7 0) = [(18, [.s 3 7], 0)] := by decide +kernel
theorem test_rem_sign : lands (.rem 0 3 1 2) (s12 0xFFFFFFF9 2) = [(18, [.s 3 0xFFFFFFFF], 0)] := by decide +kernel
theorem test_divz_by_zero : lands (.divz 0 3 1 2) (s12 7 0) = [(18, [.s 3 0xFFFFFFFF], 0)] := by decide +kernel
theorem test_sra_amount : lands (.sra 0 3 1 2) (s12 0x80000000 36) = [(1, [.s 3 0xF8000000], 0)] := by decide +kernel
theorem test_clz : lands (.clz 0 3 1) (s12 0x00010000 0) = [(1, [.s 3 15], 0)]
    ∧ lands (.clz 0 3 1) (s12 0 0) = [(1, [.s 3 32], 0)] := by decide +kernel
theorem test_popc : lands (.popc 0 3 1) (s12 0xF0F00001 0) = [(1, [.s 3 9], 0)] := by decide +kernel
theorem test_minz : lands (.minz 0 3 1 2) (s12 0xFFFFFFFF 1) = [(1, [.s 3 1], 0)] := by decide +kernel
theorem test_addi_sign : lands (.addi 0 3 1 0xFFF) (s12 1 0) = [(1, [.s 3 0], 0)] := by decide +kernel
theorem test_movi_sign : lands (.movi 0 5 0x1FFFD) rst = [(1, [.s 5 0xFFFFFFFD], 0)] := by decide +kernel
/-- The example of R80: 0x4049_0FDB. -/
theorem test_movhi : lands (.movhi 0 1 0x4049) (s12 0x0FDB 0) = [(1, [.s 1 0x40490FDB], 0)] := by decide +kernel
theorem test_cmp_pair : lands (.cmp 0 2 2 1 2) (s12 0xFFFFFFFF 1) = [(1, [.p 4 true, .p 5 false], 0)] := by decide +kernel
/-- R81: ltz compares the sign-extended immediate as unsigned. -/
theorem test_cmpi_ltz : lands (.cmpi 0 1 4 1 0x7FF) (s12 5 0) = [(1, [.p 2 true, .p 3 false], 0)] := by decide +kernel
/-- 1.5 + (-0.25) = 1.25. -/
theorem test_fadd : lands (.fadd 0 3 1 2) (s12 0x3FC00000 0xBE800000) = [(4, [.s 3 0x3FA00000], 0)] := by decide +kernel
/-- 1 / 0 is infinite, with DZ. -/
theorem test_fdiv_zero : lands (.fdiv 0 3 1 2) (s12 0x3F800000 0) = [(16, [.s 3 0x7F800000], 2)] := by decide +kernel
theorem test_fmin_zeros : lands (.fmin 0 3 1 2) (s12 0 0x80000000) = [(4, [.s 3 0x80000000], 0)] := by decide +kernel
/-- 3.5 goes to the even 4; a NaN gives 0 with NV (R83, R56). -/
theorem test_fcvt_s32 : lands (.fcvtS32F32 0 3 1) (s12 0x40600000 0) = [(4, [.s 3 4], 16)]
    ∧ lands (.fcvtS32F32 0 3 1) (s12 0x7FC00000 0) = [(4, [.s 3 0], 1)] := by decide +kernel
/-- Main's p8 to p15 with p14 and p15 true outside a loop: 0xC0 ("Program: calls", 0xFF48). -/
theorem test_ppack : lands (.ppack 0 8 10) rst = [(1, [.s 10 0xC0], 0)] := by decide +kernel
theorem test_amovHi : lands (.amovHi 0 6 1) ((s12 0x89ABCDEF 0).updCtx (fun x => x.wa 6 0x1111111122222222)) =
    [(1, [.a 6 0x89ABCDEF22222222], 0)] := by decide +kernel
/-- The example of R8: rank 350 of space 2 at offset 0x1_2340. -/
theorem test_atag : lands (.atag 0 5 4 1) ((s12 0x2000015E 0).updCtx (fun x => { x.wa 4 0x12340 with priv := true })) =
    [(1, [.a 5 0x2AF0000000012340], 0)] := by decide +kernel
theorem test_atag_user : trapOf (.atag 0 5 4 1) rst = (2, 0) := by decide +kernel

/-! ### Small runs: control -/

/-- The example of R89, with BRL alone in its bundle: the link is the next header. -/
theorem test_brl : (ans (.brl 0 0x80) (ctx0 (fun x => { x with pc := 0x200 }))).ctx.xfer = .jump 0x400 1 false := by decide +kernel
theorem test_jr_align : trapOf (.jr 0 3) (ctx0 (fun x => x.wa 3 0x20002)) = (4, 0x20002) := by decide +kernel
theorem test_jr_ifetch : trapOf (.jr 0 3) (ctx0 (fun x => x.wa 3 0x20000)) = (0x13, 0x20000) := by decide +kernel
theorem test_eret_outside : trapOf (.eret 0) rst = (1, 0) := by decide +kernel
/-- R109's CX_STATUS, and R107's widths. -/
theorem test_sysrd_status : lands (.sysrd 0 1 0 0) ({ rst with who := 3 }.updCtx (fun x => { x with priv := true })) = [(1, [.s 1 0x61], 0)] := by
  decide +kernel
theorem test_sysrd_groups : lands (.sysrd 0 1 0 0x041) rst = [(1, [.s 1 0xFFFFFFFF], 0)] := by decide +kernel
theorem test_syswr_fmt : (ans (.syswr 0 1 0 0x010) (s12 0xFFFFFFFF 0)).ctx.rfmt 0 = 0x7FF7F := by decide +kernel
theorem test_dchk : trapOf (.dchk 0 1 2) (s12 1 2) = (0x0C, 0) ∧ lands (.dchk 0 1 2) (s12 2 2) = [] := by decide +kernel
theorem test_sync_outside : (trapOf (.sync 0 7) rst).1 = 0x0B := by decide +kernel
theorem test_evpop_empty : lands (.evpop 0 16 14 2 8) rst = [(1, [.s 16 0, .p 2 false, .p 3 true], 0)] := by decide +kernel
theorem test_qpop_failed : lands (.qpop 0 1 14 4 0) (s12 9 0) = [(1, [.s 1 2, .p 4 false, .p 5 true], 0)] := by decide +kernel
theorem test_snop : (ans (.snop 0 40) rst).ctx.owedB = 39 := by decide +kernel

/-! ### Small runs: vector -/

/-- Lane 1 of z8 wraps and lane 0 does not carry into it. -/
theorem test_vadd_lanes : ((ans (.vadd 0 3 1 2 0 3) (ctx0 (fun x => (x.wv 1 0x01FF vAll).wv 2 0xFF01 vAll))).ctx.pend.map (fun e =>
    match e.writes with
    | [.v 3 v _] => v
    | _ => 1)) = [0] := by decide +kernel
/-- "Lane position matters" is about f32; in z32 lanes the sum of 1 and 2 is 3. -/
theorem test_vreds : lands (.vreds 0 3 1 0 5) (ctx0 (fun x => x.wv 1 0x0000000200000001 vAll)) = [(8, [.v 3 3 vAll], 0)] := by
  decide +kernel
/-- The example of R70's word 0xFF3F_02E0: element 5 is 3.5 under the scale 1.0. -/
theorem test_latDoubled : latDoubled 0xFF3F02E0 = [1, -3, 5, 1, -1, 7, -1, -1] := by decide +kernel
/-- The example of R68: the nearest word of (0.6, -1.4, 2.5, 0.2, 0, 3.1, -0.5, 0). -/
theorem test_nearest8 : (nearest8 [fp32.unpack 0x3F19999A, fp32.unpack 0xBFB33333, fp32.unpack 0x40200000, fp32.unpack 0x3E4CCCCD,
    fp32.unpack 0, fp32.unpack 0x40466666, fp32.unpack 0xBF000000, fp32.unpack 0] (fp16.unpack 0x3C00)).word = 0xFF3F02E0 := by decide +kernel
/-- The example of R69: 9.2 overflows the shell. -/
theorem test_nearest8_shell : ((nearest8 [fp32.unpack 0x41133333, fp32.unpack 0, fp32.unpack 0, fp32.unpack 0, fp32.unpack 0,
    fp32.unpack 0, fp32.unpack 0, fp32.unpack 0] (fp16.unpack 0x3C00)).word, (nearest8 [fp32.unpack 0x41133333, fp32.unpack 0,
    fp32.unpack 0, fp32.unpack 0, fp32.unpack 0, fp32.unpack 0, fp32.unpack 0, fp32.unpack 0] (fp16.unpack 0x3C00)).shell) = (7, true) := by
  decide +kernel
/-- The example of R62: 2.75 in FMT 0x0006_0763 is 0x43. -/
theorem test_nf8 : (convertTo 10 (nf8Fmt 0x00060763) (fp32.unpack 0x40300000)).1 = 0x43 := by decide +kernel

/-! ### Small runs: memory -/

theorem test_ld_sign : lands (.ld 0 6 2 0 1) (mem 0x1000 0x8000 2 0x1000) = [(5, [.s 6 0xFFFFFF80], 0)] := by decide +kernel
theorem test_ld_word : lands (.ld 0 6 2 4 1) (mem 0x1004 0xBE800000 2 0x1000) = [(5, [.s 6 0xBE800000], 0)] := by decide +kernel
theorem test_st_word : ((ans (.st 0 1 3 4 0) ((s12 0x11223344 0).updCtx (fun x => x.wa 3 0x1000))).me.rBytes 0x1000 4) = 0x11223344 := by
  decide +kernel
/-- The example of R233: ST to 0x1002 traps ALIGN from slot 6 with the address. -/
theorem test_st_align : trapOf (.st 0 9 3 4 0) (ctx0 (fun x => x.wa 3 0x1002)) = (4, 0x1002)
    ∧ (ans (.st 0 9 3 4 0) (ctx0 (fun x => x.wa 3 0x1002))).ctx.trapCause = 0x604 := by decide +kernel
/-- "Program: calls": a store below CX_STKLIM based on a0 traps 0x606 with the address. -/
theorem test_st_stklim : (ans (.sta 0 1 0 0) (ctx0 (fun x => { x.wa 0 0xFDC0 with stkLim := 0xFE00 }))).ctx.trapCause = 0x606
    ∧ (trapOf (.sta 0 1 0 0) (ctx0 (fun x => { x.wa 0 0xFDC0 with stkLim := 0xFE00 }))).2 = 0xFDC0 := by decide +kernel
theorem test_ld_abound : trapOf (.ld 0 6 2 4 0) (ctx0 (fun x => x.wa 2 0x600000)) = (5, 0x600000) := by decide +kernel
/-- The example of R151: a stride of 16 bytes takes one extra cycle, of 8 none. -/
theorem test_ldvs_conflict : (rst.bankFreeze (strideAddrs 0x1000 16)).me.freeze = 1 ∧ (rst.bankFreeze (strideAddrs 0x1000 8)).me.freeze = 0
    ∧ (ans (.ldvs 0 3 4 1) ((s12 8 0).updCtx (fun x => x.wa 4 0x1000))).me.freeze = 0 := by decide +kernel
/-- Words 0 and 192 share a bank and word 1 does not: two cycles, in an order that is open. -/
theorem test_laneDelays : laneDelays 0 [0, 192, 1, 0] = [1, 0, 0, 1] ∧ laneDelays 1 [0, 192, 1, 0] = [0, 1, 0, 0] := by decide +kernel
theorem test_ldf_empty : (ans (.ldf 0 4 2 0) rst).me.frozen = true := by decide +kernel
theorem test_ste_then_full : (ans (.ste 0 1 2 0) rst).me.isFull 0 = true := by decide +kernel
theorem test_wldv_bound : trapOf (.wldv 0 2 2 0) (ctx0 (fun x => x.wa 2 0x180000)) = (8, 0x180000) := by decide +kernel
theorem test_wst : trapOf (.wst 0 5) rst = (7, 5) := by decide +kernel

/-! ### Small runs: matrix, copies and the package -/

/-- The example of R177: LFMT1 with G = 4, source 1, base 0x4_0000. -/
theorem test_mlat : (ans (.mlat 0 1 6 1) ((s12 1 0).updCtx (fun x => { x.wa 6 0x40000 with lfmt := [(1, 2)] }))).ctx.mlatBase = 0x40000 := by
  decide +kernel
theorem test_mcfg_reserved : (trapOf (.mcfg 0 1) (s12 0xFF 0)).1 = 1 := by decide +kernel
theorem test_mzero_prot : (trapOf (.mzero 0 0 0 1) rst).1 = 0x0B := by decide +kernel
theorem test_binit_waits : (ans (.binit 0 6 7 1) (s12 16384 0)).me.barriers = [{ addr := 0, op := 0, bytes := 16384, wait := 1 }] := by
  decide +kernel
theorem test_pub_undefined : trapOf (.pub 0 2 1) rst = (1, 1) := by decide +kernel
theorem test_migr_user : trapOf (.migr 0 4 5 3 9 1) rst = (2, 0) := by decide +kernel
/-- CRC-32C of "123456789" is 0xE306_9283, the check value of its polynomial. -/
theorem test_crc32c : ~~~([0x31, 0x32, 0x33, 0x34, 0x35, 0x36, 0x37, 0x38, 0x39].foldl crcByte 0xFFFFFFFF) = 0xE3069283 := by decide +kernel
theorem test_power_off : (match step { rst with powered := false } with
    | .fault .powerOff => true
    | _ => false) = true := by decide +kernel
/-- A placed MOVI issues in the next step, and its result is in flight. -/
theorem test_step_runs : (match step (rst.withFetchWord 32 0x024A0FDB) with
    | .next t => decide (t.ctx.pend.map Pend.writes = [[.s 5 0x0FDB]] ∧ t.ctx.pc = 8)
    | _ => false) = true := by decide +kernel

/-! ### Witnesses: states and operands that meet the hypotheses of the statements, clause by clause -/

/-- Context 0 of core 0 runs, with a MOVI as its next bundle. -/
def placed : State := rst.withFetchWord 32 0x024A0FDB
/-- The bundle's state as BundleRunsInstruction names it. -/
def placedP : State := (placed.updCtx (fun x => { x with wait := none, waitOver := false })).reinject
/-- A privileged context 0. -/
def privileged : State := ctx0 (fun x => { x with priv := true })
/-- Partition 0 owns the first GiB, its page table maps it to itself, and queue 9 of it, of 16 entries at 0x10_0000, holds `n`. -/
def queued (n : Nat) : State :=
  { ((({ rst with parts := [(0, { mem := 0x10000 })] }.gPutNat 0 0x8000000000004000 8).gPutNat 0x4000 0xF000000000000000 8).gPutNat
      0x100004 n 4) with queues := [(9, { base := 0x100000, log2 := 4, part := 0 })] }.updCtx (fun x => x.ws 1 9)
/-- A core that belongs to group 7 of launch 0. -/
def grouped : State := { core0 (fun c => { c with groups := 0xFFFFFF07 }) with groups := [(7, { valid := true, expn := 2 })] }
/-- A context that holds two tiles. -/
def tiled : State := ctx0 (fun x => { x with tileCount := 2 })
/-- A partition's session, established and bound to partition 0 in a state. -/
def session (st : Nat) : State := { rst with sessions := [{ id := 1, endpoint := 0, established := true, bound := some 0 }],
                                             parts := [(0, { state := st, mem := 0x10000 })] }

theorem witness_StepIsWallCycle : rst.blockCycle = rst ∧ rst.inbox = [] ∧ rst.powered = true
    ∧ (({ rst with powered := false } : State).blockCycle.inbox = [] ∧ ({ rst with powered := false } : State).blockCycle.powered = false)
    ∧ ({ rst with inbox := [.getVersion 0] } : State).blockCycle.inbox = [.getVersion 0] ∧ fromOutside (.getVersion 0) = true
    ∧ (∃ t, exec (.getVersion 0) rst = .next t) ∧ fromOutside (.movi 0 5 1) = false ∧ rst.accesses = [] ∧ rst.upsets = []
    ∧ ({ rst with accesses := [⟨0, 0, 0x010, true, some 3⟩, ⟨0, 0, 0x010, true, none⟩] } : State).blockCycle.accesses = [] :=
  ⟨by decide +kernel, rfl, rfl, ⟨by decide +kernel, by decide +kernel⟩, by decide +kernel, by decide, ⟨_, rfl⟩, by decide, rfl, rfl,
    by decide +kernel⟩
/-- A write and a read of PT_CORES in one cycle: the read, which comes later, answers what was written. -/
theorem test_block_order : ({ rst with accesses := [⟨0, 0, 0x010, true, some 3⟩, ⟨0, 0, 0x010, true, none⟩] } : State).blockCycle.outbox =
    [.partRegister 0 0x010 3] := by decide +kernel
/-- The core's cycle of `placed` as CoreCycleIssues names it, before the engine. -/
def placedR : State := placed.updCore (fun c => { c.laneCycle with stretch := c.stretch - 1, freeze := c.freeze - 1 })
theorem witness_CoreCycleIssues :
    ((core0 (fun c => { c with freeze := 1 })).me.stretch = 0 ∧ (core0 (fun c => { c with freeze := 1 })).me.freezeCause = true
      ∧ (core0 (fun c => { c with freeze := 1 })).me.lanes = none)
    ∧ (core0 (fun c => { c with stretch := 1 })).me.stretch ≠ 0
    ∧ (placed.me.stretch = 0 ∧ placed.me.freezeCause = false ∧ placedR.matrixFreezes = false
      ∧ placedR.matrixAdvance.matrixFaults.mmasCommits.landUsers.matrixStart.me.holder = some 0
      ∧ ({ placedR.matrixAdvance.matrixFaults.mmasCommits.landUsers.matrixStart with who := 0 } : State).issueCycle.1 = none) := by
  decide +kernel
theorem witness_BundleRunsInstruction :
    placed.ctx.bubbles = 0 ∧ placed.ctx.wait = none ∧ placedP.pendingTrap = none ∧ placedP.stepped.ctx.owedB = 0
    ∧ placedP.stepped.ctx.owedN = 0 ∧ placedP.stepped.me.fetchFault 0 = none ∧ (placedP.stepped.me.bundleAt 0 0).headerOk = true
    ∧ (placedP.stepped.me.bundleAt 0 0).words = 0x024A0FDB :: List.replicate 7 0 ∧ placedP.stepped.ctx.pc = 0
    ∧ bundleFault placedP.stepped [⟨0, some (.movi 0 5 0x0FDB, actMovi 0 5 0x0FDB)⟩] = none
    ∧ (bundleHold placedP.stepped [⟨0, some (.movi 0 5 0x0FDB, actMovi 0 5 0x0FDB)⟩]).isNone = true := by decide +kernel
theorem witness_RoundTrip : Instr.slotClass (.movi 0 5 0x0FDB) = some .S ∧ encode (.movi 0 5 0x0FDB) = some 0x024A0FDB := by decide
theorem witness_NopWords : opOf 0xF0000000 = 0 ∧ (0xF0000000#32).extractLsb' 0 22 = 0 ∧ opOf 1 = 0
    ∧ (1#32).extractLsb' 0 22 ≠ 0 ∧ rst.ctx.poisoned (.p 15) = false := by decide +kernel
theorem witness_FaultOrder : (⟨7, none⟩ : SlotWord).fault rst = some .illegal
    ∧ (⟨0, some (.atag 0 1 2 3, actAtag 0 1 2 3)⟩ : SlotWord).fault rst = some .priv
    ∧ (⟨4, some (.pub 0 2 1, actPub 0 2 1)⟩ : SlotWord).fault rst = none
    ∧ issueFault (actPub 0 2 1) rst = some (.trap .illegal 1)
    ∧ (⟨4, some (.pub 0 2 1, actPub 0 2 1)⟩ : SlotWord).illegal rst = some 1
    ∧ (⟨0, some (.atag 0 1 2 3, actAtag 0 1 2 3)⟩ : SlotWord).illegal rst = none
    ∧ (⟨6, some (.wst 0 5, actWst 0 5)⟩ : SlotWord).illegal rst = none ∧ (⟨6, some (.wst 0 5, actWst 0 5)⟩ : SlotWord).fault rst = none
    ∧ issueFault (actWst 0 5) (rst.afterKvapps [⟨6, some (.wst 0 5, actWst 0 5)⟩] ⟨6, some (.wst 0 5, actWst 0 5)⟩) =
      some (.trap .wstore 5) := by decide +kernel
/-- An access out of bounds in a lower slot and an undefined window in a higher one: ILLEGAL is reported, of the higher slot (R20). -/
theorem test_illegal_first : bundleFault (ctx0 (fun x => x.wa 2 0x600000)) [⟨2, some (.ld 0 6 2 4 0, actLd 0 6 2 4 0)⟩,
    ⟨4, some (.pub 0 2 1, actPub 0 2 1)⟩] = some (4, .trap .illegal 1) := by decide +kernel
theorem witness_ResetValues : 0 < 512 ∧ 511 < 512 ∧ 3 < 4 := by decide
theorem witness_FlagsMerged : ∃ t, step placed = .next t ∧ t.powered = true := by
  have h : (match step placed with
    | .next t => t.powered
    | _ => false) = true := by decide +kernel
  cases hs : step placed with
  | next t => exact ⟨t, rfl, by simpa [hs] using h⟩
  | fault r => simp [hs] at h
  | refused r => simp [hs] at h
theorem witness_EmitFrame : (∀ e ∈ rst.ctx.pend, e.seq ≤ rst.me.seq) := by decide +kernel
theorem witness_ResultsLand : ((ans (.movi 0 5 7) rst).me.ctx 0).duePend 1 = [⟨1, 0, [.s 5 7], 0, false⟩]
    ∧ ((ans (.movi 0 5 7) rst).me.ctx 0).duePend 0 = [] ∧ ((ans (.cmp 0 1 0 1 2) rst).me.ctx 0).duePend 1 =
      [⟨1, 0, [.p 2 true, .p 3 false], 0, false⟩]
    ∧ ((ans (.fdiv 0 3 1 2) (s12 0x3F800000 0)).me.ctx 0).duePend 16 = [⟨16, 0, [.s 3 0x7F800000], 2, false⟩] := by decide +kernel
theorem witness_HardwiredRegisters : rst.ctx.loop.active = false ∧ (ctx0 (fun x => { x with loop := { active := true } })).ctx.loop.active = true := by
  decide +kernel
theorem witness_GuardFalse : (actOf (.movi 1 5 7)).isSome = true ∧ decodeFault (.movi 1 5 7) (actMovi 1 5 7) rst = none
    ∧ rst.ctx.poisoned (.p 1) = false ∧ rst.ctx.rp 1 = false
    ∧ decodeFault (.atag 1 1 2 3) (actAtag 1 1 2 3) rst = some .priv := by decide +kernel
theorem witness_IllFormedTraps : (Instr.ppack 0 9 1).wf = false ∧ (actEret 0).banned rst = true := by decide +kernel
theorem witness_PrivilegeTraps : rst.ctx.priv = false ∧ (Instr.migr 0 4 5 3 9 1).wf = true ∧ (Instr.qcrt 0 4 5 3 9).wf = true
    ∧ (Instr.sysrd 0 0 1 0x009).wf = true ∧ (Instr.syswr 0 1 0 0x00C).wf = true := by decide +kernel
theorem witness_TrapEntry : ((ctx0 (fun x => { x with trapVec := 0x1FFFC })).ctx.inTrap = false
      ∧ (ctx0 (fun x => { x with trapVec := 0x1FFFC })).ctx.trapVec.extractLsb' 0 17 ≠ 0
      ∧ (ctx0 (fun x => { x with trapVec := 0x1FFFC })).ctx.owedN = 0 ∧ (ctx0 (fun x => { x with trapVec := 0x1FFFC })).ctx.owedB = 0)
    ∧ rst.ctx.trapVec.extractLsb' 0 17 = 0 ∧ (ctx0 (fun x => { x with inTrap := true })).ctx.inTrap = true := by decide +kernel
theorem witness_EretResumes : rst.ctx.inTrap = false
    ∧ ((ctx0 (fun x => { x with inTrap := true, trapPc := 0x1FFFC })).ctx.inTrap = true
      ∧ (ctx0 (fun x => { x with inTrap := true, trapPc := 0x1FFFC })).ctx.trapPc.extractLsb' 0 2 = 0
      ∧ ((ctx0 (fun x => { x with inTrap := true, trapPc := 0x1FFFC })).ctx.trapPc.extractLsb' 17 1).toNat = 0)
    ∧ (ctx0 (fun x => { x with suspended := { active := true, places := [(8, 1)] }, trapPc := 8 })).ctx.suspended.places.find?
      (fun p => p.1 = 8) = some (8, 1) := by decide +kernel
theorem witness_ReplayKeepsDistance : (ctx0 (fun x => { x with replayArmed := true })).ctx.replayArmed = true
    ∧ (ctx0 (fun x => { x with replayArmed := true })).ctx.owedN + (ctx0 (fun x => { x with replayArmed := true })).ctx.owedB ≤
      (ctx0 (fun x => { x with replayArmed := true })).ctx.replayOwed
    ∧ (ctx0 (fun x => { x with replayArmed := true, owedN := 1 })).ctx.replayOwed <
      (ctx0 (fun x => { x with replayArmed := true, owedN := 1 })).ctx.owedN
        + (ctx0 (fun x => { x with replayArmed := true, owedN := 1 })).ctx.owedB := by decide +kernel
theorem witness_PoisonUnwinds : rst.ctx.contain = []
    ∧ (ctx0 (fun x => { x with contain := [{ id := 0, handler := 8, outputs := [] }] })).ctx.contain = [{ id := 0, handler := 8, outputs := [] }]
    ∧ (decodeFault (.movi 4 5 7) (actMovi 4 5 7) rst = none
      ∧ (ctx0 (fun x => { x with poison := { p := 4 } })).ctx.poisoned (.p 4) = true)
    ∧ (ctx0 (fun x => { x with poison := { s := 2 } })).ctx.poisoned (.s 1) = true := by decide +kernel
/-- The guard p0 reads true and no register is poisoned after reset: the hypotheses of IntegerResults, DivisionResults, FloatResults,
PredicateAndAddressResults and of the first clause of CompareResults and ImmediateResults. -/
theorem witness_guardOn : rst.guardOn 0 ∧ rst.clean [.p 2, .s 1, .a 2, .v 31, .vq 7, .q 3] := by
  simp only [State.guardOn, State.clean]; decide +kernel
theorem witness_DivisionResults : (s12 0x80000000 0xFFFFFFFF).ctx.rs 1 = 0x80000000 ∧ (s12 0x80000000 0xFFFFFFFF).ctx.rs 2 = 0xFFFFFFFF := by
  decide +kernel
theorem witness_CompareResults : (Instr.cmp 0 6 5 1 2).wf = true ∧ (Instr.cmpi 0 1 0 1 0x7FF).wf = true ∧ (Instr.fcmp 0 6 3 1 2).wf = true := by
  decide
theorem witness_FloatRules : (fp32.unpack 0x7FC00000).isNaN = true ∧ fp32.unpack 0x3F800000 = .fin false 0x800000 (-23)
    ∧ fp32.unpack 0x80000000 = .fin true 0 (-149) ∧ fp32.unpack 0x7F800000 = .inf false ∧ fp32.unpack 0xFF800000 = .inf true
    ∧ (fp32.unpack 0).isZero = true ∧ 0 < 1 := by decide +kernel
theorem witness_PredicateAndAddressResults : (8#4).toNat ≤ 8 ∧ privileged.ctx.priv = true := by decide +kernel
theorem witness_CheckResults : (s12 1 1).ctx.rs 1 = (s12 1 1).ctx.rs 2 ∧ (s12 1 2).ctx.rs 1 ≠ (s12 1 2).ctx.rs 2
    ∧ (Instr.vdchk 0 1 2 0 3).wf = true ∧ laneActive 3 (rst.ctx.rvq 0) 255 = true ∧ 255 < typeLanes 3
    ∧ vLane ((ctx0 (fun x => x.wv 1 (BitVec.ofNat 2048 (2 ^ 2047)) vAll)).ctx.rv 1) 1 255 ≠ vLane (rst.ctx.rv 2) 1 255 := by decide +kernel
theorem witness_Transfers : (rst.ctx.pc : Int) + 4 * (0x7FFF#22).toInt = 0x1FFFC ∧ 0x1FFFC / 0x20000 = rst.ctx.liveHalf
    ∧ rst.ctx.loop.active = false ∧ (rst.ctx.pc : Int) + 4 * (0x8000#22).toInt = 0x20000 ∧ 0x20000 / 0x20000 = 1 - rst.ctx.liveHalf
    ∧ rst.who ≠ 4 ∧ ((ctx0 (fun x => x.wa 3 0x1FFFC)).ctx.ra 3).toNat = 0x1FFFC
    ∧ ((ctx0 (fun x => x.wa 3 2)).ctx.ra 3).toNat % 4 ≠ 0
    ∧ ((ctx0 (fun x => x.wa 3 0x20000)).ctx.ra 3).toNat % 4 = 0 ∧ ((ctx0 (fun x => x.wa 3 0x20000)).ctx.ra 3).toNat / 0x20000 ≠ 0
    ∧ ({ xfer := .jump 8 1 false } : Ctx).xfer = .jump 8 1 false := by decide +kernel
/-- A context with a configuration of one level. -/
def configured (count : BitVec 16) : State := ctx0 (fun x => { x with loop := { cfg := some { nest := [{ count := count }], levels := 1,
                                                                                              ax := 2, ay := 3 } } })
theorem witness_LoopInstructions : rst.who ≠ 4 ∧ rst.ctx.loop.active = false ∧ rst.ctx.loop.cfg = none
    ∧ (configured 1).ctx.loop.cfg = some { nest := [{ count := 1 }], levels := 1, ax := 2, ay := 3 }
    ∧ ((configured 1).bodyHere 64).2.pc ≤ ((configured 1).ctx.liveHalf + 1) * 0x20000
    ∧ nestCount [{ count := 1 }] 0 ≠ 0 ∧ nestCount [{ count := 0 }] 0 = 0
    ∧ (((configured 1).bodyHere 64).1.map Prod.fst).Nodup ∧ ((configured 1).bodyHere 64).1 ≠ []
    ∧ (rst.ctx.ra 2 + BitVec.ofNat 64 (16 * 511)).toNat = 8176 ∧ 8176 % 16 = 0 ∧ 8176 + 96 ≤ 0x600000 ∧ rst.me.poisonIn 8176 24 = none := by
  decide +kernel
/-- A pass of a loop of two levels ends. -/
def passed (a b req : Nat) : Ctx := { loop := {
  cfg := some { nest := [{ count := 3, sa := 256 }, { count := 2, sa := 512 }], levels := 2, ax := 2, ay := 3 }
  active := true, ctr := [a, b], exitReq := req, stepDue := some 1 } }
/-- The loop of R93's example: after the third pass level 1 steps a2 by 512 and level 0 begins again. -/
theorem test_loop_step : (passed 2 0 0).passEnd.stepLoop.a.get 0 2 = 512 ∧ (passed 2 0 0).passEnd.loop.ctr = [0, 1] := by decide +kernel
theorem witness_LoopPasses : ((passed 2 1 0).loop.counter 0 + 1 = (passed 2 1 0).loop.count 0 ∧ (passed 2 1 0).loop.counter 1 + 1 =
      (passed 2 1 0).loop.count 1 ∧ (passed 2 1 0).loop.ctr.length ≤ 2)
    ∧ (1 < (passed 0 0 1).loop.ctr.length ∧ (passed 0 0 1).loop.counter 1 + 1 ≠ (passed 0 0 1).loop.count 1 ∧ (passed 0 0 1).loop.exitReq ≤ 1
      ∧ 0 < (passed 0 0 1).loop.exitReq)
    ∧ (passed 0 0 0).loop.stepDue = some 1 := by decide +kernel
theorem witness_WaitInstructions : rst.who ≠ 4 ∧ (rst.ctx.ra 3 + BitVec.ofNat 64 (16 * 255)).toNat = 4080 ∧ 4080 % 16 = 0 ∧ 4080 + 16 ≤ 0x600000
    ∧ rst.ctx.loop.active = false ∧ (1#9) ≠ 0 := by decide +kernel
theorem witness_EventPop : (12#4).toNat % 2 = 0 ∧ (12#4) ≠ 0 ∧ (rst.ctx.ra 3 + BitVec.ofNat 64 (16 * 511)).toNat = 8176
    ∧ (core0 (fun c => { c with events := [0x101] })).me.events.all (fun r => decide ((r.extractLsb' 8 3).toNat ≠ 0)) = true
    ∧ (core0 (fun c => { c with events := [0x101, 0x007] })).me.events = [0x101] ++ 0x007 :: [] ∧ ((0x007#128).extractLsb' 8 3).toNat = 0 := by
  decide +kernel
theorem witness_GroupInstructions : ((groupsOf grouped.me.groups).contains 7 = true ∧ (grouped.group 7).valid = true
      ∧ (grouped.group 7).launch = grouped.ctx.launch ∧ (grouped.group 7).arrived.getLsbD 0 = false)
    ∧ ({ grouped with groups := [(7, { valid := true, arrived := 1 })] } : State).group 7 = { valid := true, arrived := 1 }
    ∧ (groupsOf rst.me.groups).contains 255 = false ∧ (rst.unit (coreUnit 0)).state ≠ .noticed
    ∧ (({ rst with units := [(coreUnit 0, { state := .noticed })] } : State).unit (coreUnit 0)).state = .noticed := by decide +kernel
theorem witness_QueueAccess : ((queued 1).ctx.rs 1).extractLsb' 12 20 = 0
    ∧ (queued 1).queues.find ((((queued 1).ctx.rs 1).extractLsb' 0 12).toNat) = some { base := 0x100000, log2 := 4, part := 0 }
    ∧ (s12 0x1009 0).ctx.rs 1 = 0x1009 ∧ (0x1009#32).extractLsb' 12 20 ≠ 0 ∧ rst.queues.find 9 = none
    ∧ (queued 1).queueMapped { base := 0x100000, log2 := 4, part := 0 } = true
    ∧ rst.queueMapped { base := 0x100000, log2 := 4, part := 0 } = false
    ∧ (queued 0).queueLen { base := 0x100000, log2 := 4, part := 0 } = 0 ∧ (queued 1).queueLen { base := 0x100000, log2 := 4, part := 0 } = 1
    ∧ (queued 1).poppers 9 = [] ∧ (queued 1).pushers 9 = [] ∧ (queued 15).queueRoom { base := 0x100000, log2 := 4, part := 0 } = 1
    ∧ (queued 16).queueRoom { base := 0x100000, log2 := 4, part := 0 } = 0
    ∧ ((queued 1).queueAddr { base := 0x100000, log2 := 4, part := 0 } 0).isSome = true
    ∧ ((queued 1).queueAddr { base := 0x100000, log2 := 4, part := 0 } 4).isSome = true
    ∧ ((queued 1).queueAddr { base := 0x100000, log2 := 4, part := 0 } (({ base := 0x100000, log2 := 4, part := 0 } : QueueReg).entryOff 0)).isSome = true
    ∧ ({ base := 0x100000, log2 := 4, part := 0 } : QueueReg).launch = false ∧ ({ base := 0x100000, log2 := 4, part := 0 } : QueueReg).live = true
    ∧ ((queued 1).poppers 9).length < (queued 1).queueLen { base := 0x100000, log2 := 4, part := 0 }
    ∧ ((queued 1).ctx.ra 3 + BitVec.ofNat 64 (64 * 255)).toNat = 16320 ∧ (queued 1).me.poisonIn 16320 16 = none := by decide +kernel
theorem witness_SystemRegisters : (Instr.sysrd 0 0 5 4).wf = true ∧ sysPriv 4 false = false ∧ (Instr.syswr 0 1 0 0x00C).wf = true
    ∧ sysPriv 0x00C true = true ∧ privileged.ctx.priv = true := by decide +kernel
theorem witness_ContainmentInstructions : rst.ctx.contain.length < 4 ∧ (s12 0x1FFFC 0).ctx.rs 1 = 0x1FFFC ∧ (0x1FFFC#32).toNat % 4 = 0
    ∧ (0x1FFFC#32).toNat / 0x20000 = rst.ctx.liveHalf ∧ (rst.ctx.ra 6).toNat + 16 * 0 ≤ 0x600000
    ∧ checkOuts rst.ctx (rst.me.readOuts 0 0) = true := by decide +kernel
theorem witness_VectorArithmetic : (5#4).toNat ≤ 5 ∧ 6 ≤ (6#4).toNat ∧ (9#4).toNat ≤ 9 := by decide
theorem witness_VectorResults : (Instr.vcmp 0 3 3 1 2 0 9).wf = true ∧ (Instr.vdot 0 1 2 3 0 0).wf = true ∧ (Instr.vcvt 0 3 5 10 8 7).wf = true
    ∧ (nf8Fmt 0x00060763).valid = true ∧ (nf8Fmt 0).valid = false := by decide +kernel
theorem witness_LatticeAndTileResults : (Instr.vqnt 0 8 0 20 0 1 0).wf = true ∧ lfmtValid 2 = true ∧ lfmtMode 2 ≠ 2
    ∧ lfmtValid 0x12 = true ∧ lfmtMode 0x12 = 2 ∧ lfmtValid 0xFF = false ∧ (Instr.vtrw 0 1 3 31 8 0).wf = true
    ∧ (Instr.vacr 0 10 1 63 8).wf = true ∧ 1 < tiled.ctx.tileCount ∧ (tiled.me.tile 1).fmt ≠ .f64 := by decide +kernel
theorem witness_LoadResults : (Instr.ld 0 6 2 4 1).wf = true ∧ accessFits (.ld 0 6 2 4 1) rst.ctx
    ∧ (mem 0 0 2 0).me.isFull 0 = false ∧ (ans (.ste 0 1 2 0) rst).me.isFull 0 = true := by
  refine ⟨by decide, ⟨2, [4], 4, 4, false, by decide +kernel, by decide +kernel, fun a ha => ?_⟩, by decide +kernel, by decide +kernel⟩
  rw [List.mem_singleton.1 ha]; decide +kernel
/-- Every lane of LDVS with the stride 0 is at one word. -/
theorem witness_LoadResults_lanes : accessOf (.ldvs 0 3 4 9) rst.ctx = some (4, List.replicate 64 0, 4, 4, false)
    ∧ (List.replicate 64 (0#64)).all (fun a => decide (a.toNat % 4 = 0 ∧ a.toNat + 4 ≤ 0x600000)) = true
    ∧ (List.replicate 64 (0#64)).all (fun a => decide (a.toNat / 4 % 192 = 0)) = true := by decide +kernel
/-- Lanes 768 bytes apart name 64 words of one bank. -/
def apart : List DWord := strideAddrs 0 768
theorem witness_bankWords_one : bankWords (List.replicate 64 (0#64)) 1 := by
  refine ⟨fun k l hd hl => ?_, 0, [0], by decide, by decide, rfl⟩
  have h : ∀ w ∈ l, w ∈ [0] := fun w hw => by
    have := (hl w hw).2
    simp only [List.map_replicate, List.mem_replicate] at this
    simpa using this.2
  exact hd.length_le_of_subset h
theorem witness_bankWords_all : bankWords apart 64 := by
  refine ⟨fun k l hd hl => ?_, 0, apart.map (fun a => a.toNat / 4), by decide +kernel, by decide +kernel, by decide +kernel⟩
  exact hd.length_le_of_subset fun w hw => (hl w hw).2
theorem witness_StridedAccess : accessOf (.ldvs 0 3 4 1) (s12 768 0).ctx = some (4, apart, 4, 4, false)
    ∧ accessOf (.stvs 0 3 4 1) (s12 768 0).ctx = some (4, apart, 4, 4, true)
    ∧ apart.all (fun a => decide (a.toNat % 4 = 0 ∧ a.toNat + 4 ≤ 0x600000)) = true
    ∧ ((s12 768 0).clean [.s 1]) := by
  refine ⟨by decide +kernel, by decide +kernel, by decide +kernel, ?_⟩
  simp only [State.clean]; decide +kernel
/-- Two lanes of an access that are still to be served, of a load whose result is in flight, and of a store. -/
def laneOwed (load : Option Nat) : LaneAccess := { ctx := 0, load := load, items := [(0, 0, 0x1000, 7), (1, 63, 0x1300, 8)], poison := false }
theorem witness_ServeLanes : ((laneOwed (some 0)).items.map (fun x => x.2.1)).Nodup ∧ ((laneOwed (some 0)).items.all (fun x => decide (x.2.1 < 64))) = true
    ∧ ((ans (.ldv 0 3 4 0) rst).me.ctx 0).pend.map Pend.seq = [0] ∧ (laneOwed none).load = none
    ∧ ((core0 id).me.serveLanes (laneOwed none)).lanes = some { ctx := 0, load := none, items := [(0, 63, 0x1300, 8)], poison := false }
    ∧ ((core0 id).me.serveLanes (laneOwed none)).rWord 0x1000 = 7 := by decide +kernel
theorem witness_LoadStoreFaults : accessOf (.st 0 9 0 4 0) (ctx0 (fun x => x.wa 0 8)).ctx = some (0, [8], 4, 4, true)
    ∧ ((ctx0 (fun x => x.wa 0 8)).ctx.ra 0).toNat % 16 ≠ 0 ∧ (0x1002 : Nat) % 4 ≠ 0 ∧ 0x600000 < 0x5FFFFD + 4
    ∧ (ctx0 (fun x => { x with stkLim := 16 })).ctx.stkLim.toNat = 16 := by decide +kernel
theorem witness_StoreResults : (storesOf (.st 0 9 3 4 0) rst.ctx).isSome = true ∧ accessFits (.st 0 9 3 4 0) rst.ctx
    ∧ rst.me.isFull 0 = false ∧ (s12 64 0).ctx.rs 1 = 64 ∧ (s12 65 0).ctx.rs 1 = 65 := by
  refine ⟨by decide +kernel, ⟨3, [0], 4, 4, true, by decide +kernel, by decide +kernel, fun a ha => ?_⟩, by decide +kernel, by decide +kernel,
    by decide +kernel⟩
  rw [List.mem_singleton.1 ha]; decide +kernel
theorem witness_WeightReads : (ctx0 (fun x => x.wa 2 0x17FFFF)).ctx.ra 2 = 0x17FFFF ∧ attrPart (rst.me.attrOf 0x17FFFF) = rst.ctx.part
    ∧ attrPart ((core0 (fun c => { c with wattr := [(0, 0x08000000)] })).me.attrOf 0) ≠ 0 ∧ wldmLayout rst.ctx (rst.me.attrOf 0) = true
    ∧ wldmLayout (ctx0 (fun x => { x with mcfg := 0x77 })).ctx (rst.me.attrOf 0) = false ∧ rst.me.port.length < 16 ∧ rst.bankReady 0 15 = true
    ∧ (core0 (fun c => { c with bankRead := [(15, 1)] })).bankReady 0 15 = false ∧ rst.me.wErr.contains 0x17FFFF = false := by decide +kernel
theorem witness_MatrixInstructions : cfgValid (BitVec.ofNat 32 0x77) = true ∧ cfgValid (BitVec.ofNat 32 0xFF) = false ∧ lfmtValid (rst.ctx.rlfmt 0) = true
    ∧ (s12 1 0).ctx.rs 1 = 1 ∧ (Instr.mzero 0 0 1 1).wf = true ∧ 0 + 1 < tiled.ctx.tileCount
    ∧ ({ loop := {} } : Ctx).tileCount ≤ 0 + 1 := by decide +kernel
/-- An MMA whose configuration takes B from the port and whose word names a base for it; and one behind a command that keeps the array. -/
theorem witness_MatrixInstructions_port : (tiled.updCtx (fun x => { x with mcfg := 0x20077 })).ctx.mcfg.extractLsb' 16 2 = 2
    ∧ decodeFault (.mma 0 0 0 2 3 0 0) (actMma 0 0 0 2 3 0 0) (tiled.updCtx (fun x => { x with mcfg := 0x20077 })) = some .illegal
    ∧ (3#4) ≠ 0 := by decide +kernel
theorem witness_OperationsEnterQueues : (ctx0 (fun x => { x with windows := [(1, { base := 0x20000, partner := 0x30000, size := 0x10000 })] })).issues
      (.pub 0 2 1) (actPub 0 2 1)
    ∧ checkWindow (s12 0x100000 0) 3 0 0x100000 0x100000 = none ∧ rst.ctx.windows.find 3 = none := by
  simp only [State.issues, State.guardOn]; decide +kernel
theorem witness_BarrierInstructions : (rst.ctx.ra 6).toNat % 16 = 0 ∧ (rst.ctx.ra 6).toNat + 16 ≤ 0x600000
    ∧ (rst.me.ops.filter (fun o => o.engine = 0)).length < 32
    ∧ (∀ j, j < 16 → ∀ k, k < 16 → rst.me.aPhys j = rst.me.aPhys k → j = k) := by decide +kernel
theorem witness_MatrixIssues : (({ tiled with cores := tiled.cores } : State).updCtx (fun x => { x with
    n := [(0, [{ count := 1, sa := 128, sb := 128 }])], mcfg := 0x77 })).issues (.mma 0 0 0 2 3 0 0) (actMma 0 0 0 2 3 0 0) := by
  simp only [State.issues, State.guardOn]; decide +kernel
/-- A core with one SYNC, of a context whose arrival stands or waits for the next phase. -/
def syncing (arrived : Bool) (release : Option Nat) : State :=
  { core0 (fun c => { c with sync := [{ group := 7, ctx := 0, issued := 0, arrived := arrived, release := release }] }) with
    groups := [(7, { valid := true, timeout := 5 })], wall := 6 }
/-- A core with one MMA on its array. -/
def computing : State := ans (.mma 0 0 0 2 3 0 0) (tiled.updCtx (fun x => { x with n := [(0, [{ count := 1, sa := 128, sb := 128 }])], mcfg := 0x77 }))
theorem witness_CoreEvents :
    ((ctx0 (fun x => { x with bubbles := 1 })).ctx.bubbles ≠ 0 ∧ (ctx0 (fun x => { x with bubbles := 1 })).ctx.replayArmed = false)
    ∧ (placed.me.holder = some 0 ∧ ((ans (.movi 0 5 7) placed).me.ctx 0).pend ≠ [])
    ∧ ((ctx0 (fun x => { x with wait := some (.barrier 0 true) })).me.ctx 0).wait = some (.barrier 0 true)
    ∧ ((ctx0 (fun x => { x with wait := some (.wprogs 0) })).me.ctx 0).wait = some (.wprogs 0)
    ∧ rst.me.frozen = false ∧ rst.me.entering = none
    ∧ (core0 (fun c => { c with holder := some 0, frozen := true })).me.frozen = true
    ∧ (core0 (fun c => { c with entering := some 1, switchLeft := 4 })).me.switchLeft = 4
    ∧ ((placed.updCore (fun c => { c with entering := some 0, switchLeft := 1, holder := none })).me.ctx 0).life = .live
    ∧ placed.me.mustLeave 0 = false
    ∧ ((ctx0 (fun x => { x with engineTraps := [{ cause := .xlate, slot := 4, info := 0 }] })).ctx.after = .none
      ∧ (ctx0 (fun x => { x with engineTraps := [{ cause := .xlate, slot := 4, info := 0 }] })).ctx.engineTraps =
        [{ cause := .xlate, slot := 4, info := 0 }])
    ∧ ((ctx0 (fun x => { x with after := .trap { cause := .trapi, slot := 0, info := 3 } })).ctx.owedN = 0
      ∧ (ctx0 (fun x => { x with after := .trap { cause := .xlate, slot := 0, info := 3 }, afterNow := true })).ctx.afterNow = true)
    ∧ rst.pendingTrap = none
    ∧ ((core0 (fun c => { c with svcQueue := [{ kind := 1, slot := 0 }] })).me.svc = none ∧ rst.me.svcQueue = [])
    ∧ ((syncing true (some 9)).core 0).sync.all (fun w => w.release.all (fun t => decide ((syncing true (some 9)).wall < t))) = true
    ∧ (((syncing true (some 6)).core 0).sync.Nodup ∧ ((syncing true (some 6)).core 0).sync.all SyncWait.arrived = true)
    ∧ ((syncing false (some 6)).core 0).sync = [{ group := 7, ctx := 0, issued := 0, arrived := false, release := some 6 }]
    ∧ (((syncing true none).group 7).timeout = 5 ∧ 0 + ((syncing true none).group 7).timeout + 1 ≤ (syncing true none).wall
      ∧ ({ syncing true none with wall := 5 } : State).wall < 0 + ((syncing true none).group 7).timeout + 1) := by decide +kernel
theorem witness_CoreEvents_matrix : computing.me.cmds.map (fun m => (m.event, m.barrier)) = [(false, 0)] ∧ ((computing.core 0).cmds.map MCmd.id).Nodup
    ∧ computing.me.cmds.map (fun m => decide (m.kind = .mmas)) = [false] ∧ rst.me.cmds = [] := by decide +kernel
/-- A lease of a unit. -/
def leased (unit since : Nat) (scrubbed retire : Bool) (st : LeaseState) : State :=
  { rst with leases := [{ unit := unit, number := 1, since := since, deadline := 1250001, left := 0, scrubbed := scrubbed, retire := retire,
                          queues := [], ctxs := [] }], units := [(unit, { state := st })], wall := 9000 }
/-- A launch of partition 0 in a phase. -/
def launched (p : LaunchPhase) : State := { rst with launches := [{ record := {}, seq := 0, part := 0, phase := p }] }
theorem witness_PavilionEvents : ((rst.core 511).ctx 3).life ≠ .saving
    ∧ (0xFF#8 :: List.replicate 63 0#8).length = 64 ∧ ((0xFF#8 :: List.replicate 63 0xFF#8).drop 8).any (fun x => decide (x ≠ 0)) = true
    ∧ rst.launches = [] ∧ 64 ≤ ({ rst with launches := (List.range 64).map (fun i => { record := {}, seq := i, part := 0 }) } : State).pool.length
    ∧ ((launched (.placing 1)).launches.map Launch.phase = [.placing 1] ∧ ((launched (.placing 1)).part 0).scrub = false)
    ∧ ((launched .running).launches.map Launch.phase = [.running] ∧ ((launched .running).part 0).scrub = false)
    ∧ ((launched .pool).launches.map (launched .pool).depFailed = [false] ∧ (launched .pool).launches.map (launched .pool).depsMet = [true])
    ∧ (leased 3 1 false false .noticed).coreClear 3 = true
    ∧ ((ctx0 (fun x => { x with life := .live, launch := 1 })).coreClear 0 = false)
    ∧ ((leased 3 1 false false .testing).unit 3).state = .testing
    ∧ (1 + 8192 ≤ (leased 3 1 false false .testing).wall + 1 ∧ (leased 3 2000 false false .testing).wall + 1 < 2000 + 8192)
    ∧ ((leased 3 1 true false .testing).leases.map Lease.scrubbed = [true]) ∧ (leased 3 1 false true .testing).leases.map Lease.retire = [true]
    ∧ unitKind 511 = 0 ∧ unitKind 0x20000000 ≠ 0 ∧ unitKind 0x20000000 ≠ 1
    ∧ ((leased 0x20000000 1 false false .noticed).unit 0x20000000).state = .noticed
    ∧ (rst.leaseStart 3).noticesDue.map NoticeDue.dir = [0] := by decide +kernel
/-- One measurement of an image with no member pages, and of one whose page is not hashed yet. -/
def measuring (pages : List PageHash) : State := { rst with measures := [{ image := 16, pages := pages }], remeas := 0x80000010 }
theorem witness_PowerEvents : rst.powered = true ∧ (∃ p ∈ [((3 : Nat), (115 : Nat))], 115 ≤ p.2)
    ∧ (∀ p ∈ [((511 : Nat), (114 : Nat))], p.2 < 115) ∧ rst.thermLim ≤ 100 ∧ rst.start.step ≤ 8 ∧ rst.jobs = []
    ∧ ({ rst with start := { rst.start with step := 9 } } : State).start.step = 9
    ∧ rst.cores.all (fun c => !c.2.fatal) = true ∧ (core0 (fun c => { c.setCtx 4 { c.ctx 4 with life := .stopped } with svc := some { kind := 1, slot := 0 } })).cores.map (fun c => c.2.fatal) = [true]
    ∧ ((measuring []).measures.length = 1 ∧ ((measuring [{ rank := 0, page := 0 }]).measures.map (fun m => m.pages.map PageHash.digest)) = [[none]])
    ∧ (∀ m ∈ (measuring []).measures, ∀ p ∈ m.pages, p.digest.isSome = true)
    ∧ (({ rst with parts := [(2, { scrub := true, scrubLeft := 0 })] } : State).part 2).scrub = true
    ∧ ({ rst with parts := [(2, { scrub := true, scrubLeft := 0 })] } : State).partBusy 2 = false := by decide +kernel
theorem witness_SpdmRequests : rst.start.stopped = false ∧ rst.start.step ≤ 1 ∧ rst.sessions.length < 17
    ∧ 1 < ({ rst with start := { rst.start with step := 2 } } : State).start.step
    ∧ 17 ≤ ({ rst with sessions := List.replicate 17 { id := 1, endpoint := 0, established := false, bound := none } } : State).sessions.length
    ∧ ({ rst with start := { rst.start with stopped := true } } : State).start.stopped = true ∧ (1 : Nat) ∈ rst.indices
    ∧ rst.measurement 1 = none ∧ (2 : Nat) ∈ rst.indices ∧ (254 : Nat) ∉ rst.indices
    ∧ (rst.asks.headD {}).sign = false ∧ ({ rst with asks := [{ sign := true, slot := 1 }] } : State).asks.headD {} = { sign := true, slot := 1 }
    ∧ ({ rst with asks := [{ sign := true }] } : State).asks.headD {} = { sign := true, slot := 0 } := by decide +kernel
theorem witness_PartitionRequests : (session 1).session 1 = some { id := 1, endpoint := 0, established := true, bound := some 0 }
    ∧ ((session 3).part 0).state = 3 ∧ ((session 0).part 0).state = 0 ∧ (session 1).powered = true ∧ regsHit 0x010 true ≠ []
    ∧ rst.session 1 = none ∧ regsHit 0x000 false = [] ∧ ((session 1).part 0).stopAfter = none ∧ ((session 1).part 0).scrub = false
    ∧ (({ session 1 with parts := [(0, { state := 2, scrub := true, stopAfter := some 1 })] } : State).part 0).stopAfter ≠ none
    ∧ ((session 1).part 0).nonce = 0
    ∧ ({ rst with accesses := [⟨0, 0, 0x010, true, none⟩] } : State).accesses.map BlockAccess.value = [none] := by decide +kernel
theorem witness_HostRequests : (session 1).hostRange 0 = true ∧ rst.hostRange 0 = false
    ∧ ({ rst with wpmove := 0x80000000 } : State).wpmove.getLsbD 31 = true ∧ rst.remeas.getLsbD 31 = false ∧ rst.wpmove.getLsbD 31 = false
    ∧ ((0#32).extractLsb' 0 10).toNat < 768 ∧ (rst.part 0).state = 0 ∧ 768 ≤ ((0x3FF#32).extractLsb' 0 10).toNat
    ∧ ((session 1).part ((0#32).extractLsb' 19 4).toNat).state ≠ 0 ∧ (rst.part (((rst.core 0).wattr.get 0 0).extractLsb' 27 4).toNat).state = 0
    ∧ (rst.unit (unitId 5 3)).state ≠ .testing ∧ ((leased (unitId 5 3) 1 true false .testing).unit (unitId 5 3)).state = .testing
    ∧ (rst.port 3).retired = [] ∧ (({ rst with ports := [(3, { retired := [1] })] } : State).port 3).retired ≠ []
    ∧ ({ rst with flows := [{ tag := 0, stream := 0, dest := 1, port := 3, outstanding := 2 }] } : State).flows.length = 1 := by decide +kernel
theorem witness_QuietFrame : writesLater (.movi 0 5 7) = true ∧ ∃ t, exec (.movi 0 5 7) rst = .next t := ⟨by decide, _, rfl⟩
theorem witness_SlotTouchesOwnContext : (Instr.movi 0 5 7).slotClass.isSome = true ∧ rst.who ≠ 4 := by decide
theorem witness_SlotKeepsCanonical : Memory.wf rst.gmem = true ∧ Memory.wf (rst.core 511).aspace = true := by decide

/-- A core with one operation: a PUB of window 1 on stream 2. -/
def withOp (f : COp → COp) : State := core0 (fun c => { c with ops := [f (rst.newOp 4 2 (.pub 1))] })
theorem witness_OperationEvents : ((withOp id).core 0).ops.find? (fun p => p.id = 0) = some (rst.newOp 4 2 (.pub 1))
    ∧ (rst.newOp 4 2 (.pub 1)).performed = false ∧ (((withOp (fun o => { o with performed := true })).core 0).ops.map COp.performed) = [true]
    ∧ ((withOp id).core 0).held = [] ∧ ((withOp id).core 0).events.length < 256 ∧ (((withOp id).core 0).ops.map COp.id).Nodup
    ∧ ({ withOp id with wall := 1 } : State).mayBegin 0 (rst.newOp 4 2 (.pub 1)) = true
    ∧ ((withOp (fun o => { o with kind := .barrierOp 2 0 4 })).core 0).ops.map COp.kind = [.barrierOp 2 0 4]
    ∧ ((withOp (fun o => { o with fault := some { cause := .xlate, slot := 4, info := 0 } })).core 0).ops.map COp.fault =
      [some { cause := .xlate, slot := 4, info := 0 }]
    ∧ ((withOp (fun o => { o with event := true, performed := true })).core 0).ops.map COp.wantsRecord = [true]
    ∧ ((placed.core 0).ctx 0).ended = false ∧ rst.kvReads = []
    ∧ (({ rst with kvReads := [{ rank := 0, op := 5, part := 0, page := 0, key := 0 }] } : State).kvReads = [{ rank := 0, op := 5, part := 0, page := 0, key := 0 }]
      ∧ (rst.core 0).ops = [])
    ∧ (({ rst with publishing := [0] } : State).publishing = [0] ∧ ({ rst with publishing := [0] } : State).regionBusy 0 = false)
    ∧ ({ withOp (fun o => { o with region := [{ id := 0, handler := 0, outputs := [] }] }) with publishing := [0] } : State).regionBusy 0 = true
    ∧ rst.staging = [] ∧ (core0 (fun c => { c with handleWait := some 3 })).me.handleWait = some 3
    ∧ rst.ctx.inTrap = false ∧ rst.ctx.replayArmed = false
    ∧ (core0 (fun c => { c with held := [{ record := 7, upd := none, op := none }] })).me.held.map HeldRecord.op = [none] := by decide +kernel
/-- A walk that runs and ends in this cycle. -/
def oneWalk : PageWalk :=
  { core := 0, unit := 4, op := 0, ctx := 0, part := 0, va := 0, write := false, order := 0, state := .running 0 }
/-- A row that is being programmed. -/
def programming (phase left : Nat) (boundary : Bool) : RowJob :=
  { core := 0, row := 5, opRank := 0, op := 0, data := 0, captured := 0, started := true, phase := phase, left := left, iter := 1
    boundary := boundary, spares := 0, committed := false, bad := false }
theorem witness_TierEvents : ({ rst with walks := [oneWalk] } : State).walks.map PageWalk.state = [.running 0]
    ∧ ({ rst with walks := [{ oneWalk with state := .monitor 0x100 false }] } : State).walks.map PageWalk.state = [.monitor 0x100 false]
    ∧ (rst.jobs.filter (fun j => j.core / 64 = 7)).length < 16 ∧ rst.attrGranted 511 = true ∧ (rst.core 511).cmds = [] ∧ rst.queueOf 9 = none
    ∧ (queued 0).queueOf 9 = some { base := 0x100000, log2 := 4, part := 0 } ∧ rst.move = none
    ∧ (rst.entryAt none 0).away = none ∧ (rst.checkPa 0 0x10000000000).isSome = true
    ∧ ((programming 0 1 true).boundary = true ∧ (programming 1 1 false).left ≤ 1 ∧ 1 < (programming 1 2 false).left
      ∧ rst.bankAsked 0 5 = false ∧ (programming 0 1 false).bad = false)
    ∧ rst.rowFailures = [] ∧ ({ rst with rowFailures := [{ opRank := 0, op := 0, core := 0, row := 5, bad := false }] } : State).failureOver
      { opRank := 0, op := 0, core := 0, row := 5, bad := false } = true
    ∧ ({ rst with move := some { rank := 3, page := 9, target := 1, row := 2048 } } : State).move =
      some { rank := 3, page := 9, target := 1, row := 2048 } := by decide +kernel

/-! ### Witnesses of further clauses -/

theorem witness_StepIsWallCycle_reads : ({ rst with mgReads := [⟨0, 0x10020⟩] } : State).mgReads = [⟨0, 0x10020⟩]
    ∧ ({ rst with mgReads := [⟨0, 0x10000⟩] } : State).managementCycle.outbox = [.register 0x10000 0] := by decide +kernel
theorem witness_CoreCycleIssues_held : (core0 (fun c => { c.setCtx 0 { c.ctx 0 with feFrozen := 3 } with holder := some 0, freeze := 2 })).me.holder = some 0
    ∧ ((core0 (fun c => { c.setCtx 0 { c.ctx 0 with feFrozen := 3 } with holder := some 0, freeze := 2 })).me.ctx 0).feFrozen ≠ 0 := by decide +kernel
/-- Results of every kind of destination that fall due at 1. -/
def landing : List Pend := [⟨1, 0, [.v 2 5 3, .vq 1 9], 0, false⟩, ⟨1, 1, [.q 3 31 false (List.replicate 32 7), .p 4 true], 0, false⟩]
theorem witness_ResultsLand_vectors : ((core0 (fun c => c.setCtx 0 { c.ctx 0 with pend := landing })).me.ctx 0).duePend 1 = landing
    ∧ (3#2048).getLsbD 1 = true ∧ (List.replicate 32 7).length = 32 ∧ (31 : Nat) < 32 ∧ 11 ≤ 11 ∧ 63 < typeLanes 11 := by decide +kernel
theorem witness_TrapEntry_rearmed : (ctx0 (fun x => { x with replayArmed := true })).ctx.inTrap = false
    ∧ (ctx0 (fun x => { x with replayArmed := true })).ctx.replayArmed = true ∧ rst.ctx.replayArmed = false := by decide +kernel
theorem witness_PoisonUnwinds_port : (core0 (fun c => { c with port := [{ wait := 3, ctx := 0, data := 0, poison := false, dropped := false }] })).me.port.map
      PortRow.ctx = [0]
    ∧ (actMovi 4 5 7).arrayHeld rst = none := by decide +kernel
theorem witness_Transfers_outside : (rst.ctx.pc : Int) + 4 * (-1#22).toInt < (rst.ctx.liveHalf * 0x20000 : Nat)
    ∧ ((rst.ctx.liveHalf + 1) * 0x20000 : Nat) ≤ (rst.ctx.pc : Int) + 4 * (0x8000#22).toInt
    ∧ (rst.ctx.pc : Int) + 4 * (0x7FFF#22).toInt < ((1 - rst.ctx.liveHalf) * 0x20000 : Nat) := by decide +kernel
/-- A group of another launch than the context's, and a context with two regions open. -/
theorem witness_GroupInstructions_other : ({ grouped with groups := [(7, { valid := true, launch := 5 })] } : State).ctx.launch ≠
      (({ grouped with groups := [(7, { valid := true, launch := 5 })] } : State).group 7).launch
    ∧ (ctx0 (fun x => { x with contain := [{ id := 1, handler := 8, outputs := [] }, { id := 0, handler := 8, outputs := [] }] })).ctx.contain.length ≤ 4 := by
  decide +kernel
/-- Queues that QPOP and QPUSH do not reach: another partition's, the launch queue, a destroyed one. -/
theorem witness_QueueAccess_others : ({ base := 0, log2 := 4, part := 1 } : QueueReg).part ≠ (queued 1).ctx.part
    ∧ ({ base := 0, log2 := 4, part := 0, launch := true } : QueueReg).launch = true
    ∧ ({ base := 0, log2 := 4, part := 0, live := false } : QueueReg).live = false
    ∧ ({ rst with queues := [(9, { base := 0, log2 := 4, part := 1 })] } : State).queues.find 9 = some { base := 0, log2 := 4, part := 1 } := by
  decide +kernel
/-- ctxS of core 0, with user context 3 selected. -/
def service : State := { core0 (fun c => c.setCtx 4 { c.ctx 4 with svcSel := 3, priv := true }) with who := 4 }
theorem witness_SystemRegisters_service : service.who = 4 ∧ (service.ctx.svcSel.extractLsb' 0 2).toNat = 3 ∧ service.ctx.priv = true
    ∧ (Instr.syswr 0 1 0 0x00F).wf = true ∧ service.guardOn 0 ∧ service.clean [.s 1] := by
  simp only [State.guardOn, State.clean]; decide +kernel
theorem witness_FloatExact : fp32 ∈ [fp64, fp32, fp16, bf16] ∧ (fp32.unpack 0x3F800000).finite = true ∧ (fp32.unpack 0x80000000).finite = true
    ∧ fp32.unpack 0x3F800000 = .fin false 0x800000 (-23) ∧ fp32.unpack 0xBF800000 = .fin true 0x800000 (-23) ∧ (0x800000 : Nat) ≠ 0
    ∧ fAdd fp32 0x3F800000 0x33800000 = (0x3F800000, flagNX) ∧ fAdd fp32 0x3F800001 0x33800000 = (0x3F800002, flagNX) := by decide +kernel
theorem witness_VectorResults_tree : typeLanes 8 = 2 ^ 6 ∧ typeLanes 9 = 2 ^ 5 ∧ typeLanes 6 = 2 ^ 7 := by decide
theorem witness_LoadStoreFaults_slots : slotAccessOf (.contain 0 1 6 0) (s12 0x100 0).ctx = some (0, 16, 0)
    ∧ ((ctx0 (fun x => x.wa 6 0x600000)).ctx.ra 6).toNat % 16 = 0 ∧ 0x600000 < ((ctx0 (fun x => x.wa 6 0x600000)).ctx.ra 6).toNat + max 1 0
    ∧ slotAccessOf (.bwait 0 6 1 0) (ctx0 (fun x => x.wa 6 0x600001)).ctx = some (0x600011, 16, 16)
    ∧ decodeFault (.contain 0 1 6 0) (actContain 0 1 6 0) rst = none ∧ (actContain 0 1 6 0).poisonUsed rst = none := by decide +kernel
/-- An output list of no entries at the end of A-space (R73, R111). -/
theorem test_contain_end : (ans (.contain 0 1 6 0) (ctx0 (fun x => (x.wa 6 0x600000).ws 1 8))).ctx.trapInfo = 0x600000 := by decide +kernel
theorem witness_MatrixInstructions_held : (actMma 0 0 0 2 3 0 0).arrayHeld tiled = none := by decide +kernel
theorem witness_OperationsEnterQueues_checks : (checksOf (.drain 0 6 0 0) (ctx0 (fun x => x.wa 6 8))).bind firstOf = some (.align, 8)
    ∧ (Instr.drain 0 6 0 0).slotClass = some .C ∧ decodeFault (.drain 0 6 0 0) (actDrain 0 6 0 0) rst = none
    ∧ (actDrain 0 6 0 0).poisonUsed rst = none := by decide +kernel
/-- A command with sums, and a command of MMAS, on core 0. -/
def commanded (k : MKind) : MCmd := { newCmd rst k 0 [] 2 3 false with id := 5, sums := [1] }
theorem witness_CoreEvents_abandon : (((core0 (fun c => { c with cmds := [commanded .mma] })).core 0).cmds.map MCmd.id).Nodup
    ∧ commanded .mma ∈ ((core0 (fun c => { c with cmds := [commanded .mma] })).core 0).cmds ∧ (commanded .mma).kind ≠ .mmas
    ∧ (commanded .mmas).kind = .mmas ∧ (commanded .mma).sums ≠ [] ∧ (syncing false (some 9)).core 0 = (syncing false (some 9)).me := by
  decide +kernel
theorem witness_TierEvents_asks : ({ rst with walks := [{ oneWalk with state := .monitor 0x100 false, asks := some 1 }] } : State).asked 0x100 = false := by
  decide +kernel
theorem witness_PavilionEvents_scrub : ∃ q ∈ ({ rst with parts := [(2, { scrub := true, cores := 1 })] } : State).parts, q.2.scrub = true
    ∧ ({ rst with parts := [(2, { scrub := true, cores := 1 })] } : State).coreOf q.1 3 = true :=
  ⟨(2, { scrub := true, cores := 1 }), by decide +kernel, by decide +kernel, by decide +kernel⟩
theorem witness_PowerEvents_once : ({ rst with thermMark := 1 } : State).thermMark = rst.wall / 1024 + 1 ∧ rst.thermMark ≠ rst.wall / 1024 + 1
    ∧ (∃ p ∈ [((511 : Nat), (105 : Nat))], p.1 < 512 ∧ rst.thermLim ≤ p.2) := by decide +kernel
/-- Two sessions, of which the second may be the state manager's. -/
def managed (m : Bool) : State := { session 1 with sessions := [{ id := 1, endpoint := 0, established := true, bound := none },
                                                                { id := 2, endpoint := 0, established := true, bound := none, manager := m }] }
theorem witness_PartitionRequests_manager : (managed true).session 1 = some { id := 1, endpoint := 0, established := true, bound := none }
    ∧ (∃ y ∈ (managed true).sessions, y.manager = true) ∧ (∀ y ∈ (managed false).sessions, y.manager = false)
    ∧ ((managed true).part 0).state ∈ [1, 2] ∧ (managed true).session 2 = some { id := 2, endpoint := 0, established := true, bound := none, manager := true }
    ∧ (∃ y ∈ ({ managed true with sessions := { id := 3, endpoint := 0, established := true, bound := some 0 } :: (managed true).sessions } : State).sessions,
        y.bound = some 0) := by decide +kernel
/-- The aperture at 2 TiB, and a port whose window is full. -/
def apertured : State := { session 1 with aperture := 0x20000000000 }
def fullPort (n : Nat) : State := { rst with flows := [{ tag := 0, stream := 0, dest := 1, port := 3, outstanding := 1 }], ports := [(3, { outstanding := n })] }
theorem witness_HostRequests_aperture : (0x20000000004 : Nat) = apertured.aperture.toNat + 4 ∧ 4 < 2 ^ 41 ∧ apertured.hostRange 4 = true
    ∧ (4 : Nat) < apertured.aperture.toNat ∧ 16 ≤ ((0x40000010#32).extractLsb' 0 5).toNat ∧ ((0x4000000F#32).extractLsb' 0 5).toNat < 16
    ∧ ((fullPort 4096).flowPort 0 1 = 3 ∧ 4096 ≤ ((fullPort 4096).port 3).outstanding)
    ∧ ((fullPort 4095).flowPort 0 1 = 3 ∧ ((fullPort 4095).port 3).outstanding < 4096 ∧ (fullPort 4095).portTurn 3 0 = true) := by decide +kernel

/-- An EVPOP in slot 0 that stores a record where a load of the same bundle reads: the load finds what was there before (R14, R73). -/
def bundled : State := performSlots (core0 (fun c => { c with events := [0x007] })) (core0 (fun c => { c with events := [0x007] }))
  [⟨0, some (.evpop 0 16 3 2 0, actEvpop 0 16 3 2 0)⟩, ⟨1, some (.ld 0 6 2 4 0, actLd 0 6 2 4 0)⟩]
theorem test_bundle_loads_first : bundled.me.rWord 0 = 7 ∧ bundled.ctx.pend.map Pend.writes =
    [[.s 16 7, .p 2 true, .p 3 false], [.s 6 0]] := by decide +kernel
theorem witness_EmitFrame_bundle : rst.issues (.ld 0 6 2 4 0) (actLd 0 6 2 4 0) ∧ (actLd 0 6 2 4 0).arrayHeld rst = none
    ∧ resultOnly (.ld 0 6 2 4 0) = true ∧ rst.ctx.rp 1 = false ∧ rst.issues (.st 0 9 3 4 0) (actSt 0 9 3 4 0)
    ∧ (s12 768 0).issues (.ldvs 0 3 4 1) (actLdvs 0 3 4 1) := by
  simp only [State.issues, State.guardOn]; decide +kernel
/-- A command that ends with sums of 1. -/
def summed : Core := (core0 (fun c => { c with cmds := [{ commanded .mma with sums := List.replicate 4096 1, rowsUsed := 2, colsUsed := 64 }] })).me
theorem witness_ResultsLand_tiles : (summed.cmds.find? (fun k => k.id = 5)).map (fun m => m.sums.length) = some 4096 ∧ (63 : Nat) < 64
    ∧ (List.replicate 64 0x3F800000).length = 64 := by decide +kernel
/-- A row of VACW in an FP32 tile, and a commit of two rows of ones over a tile of another format. -/
theorem test_tile_row : ((landWrite (fun _ => .f32) rst.me rst.ctx false (.accRow 1 2 8 (List.replicate 64 0x3F800000))).1.tile 1).elems.get 0 191 =
    0x3F800000 := by decide +kernel
theorem witness_MatrixInstructions_sums : (fp32.unpack 0x3F800000).finite = true ∧ (fp32.unpack 0x7FC00000).isNaN = true
    ∧ (commanded .mma).scaled = false ∧ ({ commanded .mma with cfg := 0xB0, mlat := 0x100 } : MCmd).scaled = true
    ∧ 0 < (commanded .mma).sums.length ∧ 0 < ({ commanded .mma with partials := [.fin false 0 0] } : MCmd).partials.length
    ∧ (XNum.ofInt 11).finite = true ∧ 0 ≤ (XNum.ofInt 11).expOf := by decide +kernel
/-- The examples of R71 and R72: 1 + 2^-24 stays 1, and the partial 11 with the scale 0.5 gives 2.75. -/
theorem test_chunk_sums : accumulate .f32 0x3F800000 (.fin false 1 (-24)) = (0x3F800000, flagNX)
    ∧ (stepElem .f32 true 0 (.ofInt 3) (some (.ofInt 8, 0)) (some (fp16.unpack 0x3800))).1 = 0x40300000
    ∧ sumProducts [(.ofInt 2, .ofInt 1), (.ofInt 1, .ofInt (-3)), (.ofInt 0, .ofInt 5), (.ofInt 4, .ofInt 1)] = some (.fin false 3 0, 0) := by
  decide +kernel
/-- A loop body that would begin at the end of the live half, and a fetch buffer that holds a bundle of a loop's body. -/
theorem witness_LoopInstructions_half : ((configured 1).ctx.liveHalf + 1) * 0x20000 <
      (((configured 1).updCtx (fun x => { x with pc := 0x1FFFC })).bodyHere 64).2.pc
    ∧ (core0 (fun c => { c with fetchBuf := [(8, rst.me.expandAt 0 8)] })).me.fetchBuf.find? (fun h => h.1 = 8) = some (8, rst.me.expandAt 0 8)
    ∧ ((configured 1).me.expandAt 0 4).bad = none
    ∧ (passed 1 0 0).loop.ctr = [1, 0] ∧ (passed 1 0 0).loop.active = true := by decide +kernel
/-- No core has written a line that is not at its home slice. -/
theorem witness_unseen : ∀ j, (queued 1).unseenIn j 0x100000 64 = [] := by
  intro j
  have hall : ∀ (l : Map Core), (∀ c ∈ l, c.2.gbuf = []) → ((l.get {} j).gbuf = []) := by
    intro l hl
    induction l with
    | nil => rfl
    | cons c rest ih =>
      obtain ⟨k, c⟩ := c
      by_cases hk : k = j
      · simpa [Map.get, hk] using hl (k, c) (by simp)
      · simpa [Map.get, hk] using ih (fun d hd => hl d (by simp [hd]))
  have hb : ((queued 1).core j).gbuf = [] := hall _ (by decide +kernel)
  have ha : (queued 1).amoHeld = [] := by decide +kernel
  simp [State.unseenIn, hb, ha]
theorem witness_FloatExact_compares : fp32.unpack 0x7F800000 = .inf false ∧ (fp32.unpack 0x00000001).finite = true ∧ (fCmp fp32 2 0xBF800000 0).1 = true
    ∧ ((fp32.unpack 0).isZero = true ∧ (fp32.unpack 0x80000000).isZero = true ∧ (fp32.unpack 0x80000000).isNeg = true)
    ∧ (fp32.unpack 0x7F800001).isSNaN = true ∧ (fp32.unpack 0x7FC00000).isNaN = true
    ∧ fMinMax fp32 true 0x80000000 0 = (0, 0) ∧ toIntRange .rne (-0x80000000) 0x7FFFFFFF (fp32.unpack 0x40200000) = (2, flagNX) := by decide +kernel
/-- Mask register 1 with no bit set. -/
def masked : State := ctx0 (fun x => x.wvq 1 0)
theorem witness_VectorResults_empty : (List.range (typeLanes 8)).all (fun i => !laneActive 8 (masked.ctx.rvq 1) i) = true
    ∧ laneActive 8 (masked.ctx.rvq 0) 63 = true ∧ masked.guardOn 0 ∧ masked.clean [.vq 1] := by
  simp only [State.guardOn, State.clean]; decide +kernel
/-- Eight values and a finite scale, one that is zero, and a NaN among the values. -/
theorem witness_LatticeAndTileResults_word : (List.replicate 8 (fp32.unpack 0x3F800000)).length = 8 ∧ (fp32.unpack 0x3F000000).finite = true
    ∧ (fp32.unpack 0x3F000000).isZero = false ∧ (fp32.unpack 0).isZero = true
    ∧ (fp32.unpack 0x7FC00000) ∈ [fp32.unpack 0x7FC00000] ∧ (fp32.unpack 0x7FC00000).isNaN = true := by decide +kernel
theorem witness_WeightReads_delta : ((ctx0 (fun x => x.wa 0 8)).ctx.ra 0).toNat % 16 ≠ 0 ∧ ((ctx0 (fun x => x.wa 3 4)).ctx.ra 3).toNat % 8 ≠ 0
    ∧ (ctx0 (fun x => x.wa 3 0x5FFFF8)).ctx.ra 3 = 0x5FFFF8
    ∧ 0x600000 < 0x5FFFF8 + 8 + 8 * (List.range 64).countP (fun j => (1#64).getLsbD j) := by decide +kernel
theorem witness_CoreEvents_late : computing.me.cmds.find? (fun k => k.id = 0) ≠ none
    ∧ ((core0 (fun c => { c.setCtx 2 { c.ctx 2 with svcHeld := true } with entering := some 2, switchLeft := 1 })).me.ctx 2).svcHeld = true := by
  decide +kernel
/-- A copy of one run of A-space, an atomic of a partition's first GiB, and a contribution of one FP32 element. -/
def copying (k : CKind) : State := { core0 (fun c => { c with ops := [{ rst.newOp 4 2 k with stage := 0 }] }) with parts := [(0, { state := 1, mem := 0x10000 })] }
def oneRun : Walk := { src := 0x2000000000000100, dst := 0x2000000000000200, nest := [{ count := 4 }] }
theorem witness_OperationEvents_copy : (copying (.cpy oneRun false false false)).findOp 0 0 = some (rst.newOp 4 2 (.cpy oneRun false false false))
    ∧ copyLoc oneRun.src = ⟨2, 0, 0x100⟩ ∧ copyLoc oneRun.dst = ⟨2, 0, 0x200⟩ ∧ walkTop oneRun.nest = 0 ∧ nestCount oneRun.nest 0 = 4
    ∧ (copying (.cpy oneRun false false false)).rankNow (rst.newOp 4 2 (.cpy oneRun false false false)).launch 0 = 0
    ∧ Memory.wf rst.me.aspace = true ∧ copyLoc 0x1000000000001000 = ⟨1, 0, 0x1000⟩
    ∧ (copying (.amo 0 0x1000000000001000 0x40 1 0 false)).checkPa 0 0x1000 = none
    ∧ (copying (.amo 0 0x1000000000001000 0x40 1 0 false)).tailAt 0x1000 = none ∧ rst.amoHeld = [] ∧ rst.staged = [] ∧ rst.me.gbuf = []
    ∧ (∀ x ∈ ([(0x1000, 0x3F800000)] : List (Nat × Nat)), x.1 % redBytes 0 = 0)
    ∧ runOffsets [{ count := 8 }, { count := 3, sa := 16, sd := 32 }] 2 = (32, 64) := by decide +kernel
theorem witness_TierEvents_queue : (queued 0).queueHeld 9 = some { base := 0x100000, log2 := 4, part := 0 } ∧ rst.queueHeld 9 = none
    ∧ (queued 0).queueHeld (9 + 4096) = none := by decide +kernel
theorem witness_PavilionEvents_notice : (queued 16).queueHeld 9 = some { base := 0x100000, log2 := 4, part := 0 }
    ∧ (queued 16).queueMapped { base := 0x100000, log2 := 4, part := 0 } = true
    ∧ (queued 16).queueRoom { base := 0x100000, log2 := 4, part := 0 } = 0 := by decide +kernel
/-- A SPDM endpoint that has asked for no measurement, and one that has. -/
theorem witness_SpdmRequests_measured : (rst.endpoint 0).measured = []
    ∧ (rst.unmeasured 0).endpoints = rst.endpoints := by decide +kernel
/-- The TAIL of a queue of 1 entry: 2 is taken and 3 sets ERR (R366). -/
theorem witness_HostRequests_tail : ((queued 1).tailAt 0x100004).isSome = true ∧ (0x100004 : Nat) % 4 = 0
    ∧ ((queued 1).gWord none 0x100004 15 2 false).gByte 0x100004 = 2
    ∧ ((queued 1).gWord none 0x100004 15 3 false).gByte 0x100004 = 1 ∧ ((queued 1).gWord none 0x100004 15 3 false).gByte 0x10000B = 4 := by
  decide +kernel

end Sys2Proof.Tests
end

/-! ## The constant registers, and one step of the package (O14, O1) -/

namespace Sys2Proof.Machine
open Sys2Proof

/-! ### The constant registers and predicates -/

/-- Setting one bit of a predicate file changes that bit alone. -/
theorem getLsbD_setBit {n : Nat} (b : BitVec n) {i : Nat} (hi : i < n) (v : Bool) (j : Nat) :
    (setBit b i v).getLsbD j = if j = i then v else b.getLsbD j := by
  have hp : BitVec.ofNat n (2 ^ i) = BitVec.twoPow n i :=
    BitVec.eq_of_toNat_eq (by rw [BitVec.toNat_ofNat, BitVec.toNat_twoPow])
  unfold setBit
  by_cases hj : j = i
  · subst hj; cases v <;> simp [hp, hi]
  · cases v <;> simp [hp, BitVec.getLsbD_twoPow, hj, Ne.symm hj]
    exact fun h => BitVec.lt_of_getLsbD h

/-- A predicate that is neither constant nor a mark of a loop reads its bit of the file (R18). -/
theorem Ctx.rp_of_file (x : Ctx) {i : Nat} (h : i ≠ 0 ∧ i ≠ 1 ∧ i ≠ 14 ∧ i ≠ 15) : x.rp i = x.p.getLsbD i := by
  obtain ⟨h0, h1, h14, h15⟩ := h
  unfold Ctx.rp
  split
  · exact absurd rfl h0
  · exact absurd rfl h1
  · exact absurd rfl h14
  · exact absurd rfl h15
  · rfl

/-- A write to a constant predicate or to a mark of a loop is discarded (R18). -/
theorem Ctx.wp_discarded (x : Ctx) {r : Nat} (v : Bool) (h : r = 0 ∨ r = 1 ∨ r = 14 ∨ r = 15) : x.wp r v = x := by
  unfold Ctx.wp
  rw [if_neg (by omega)]

/-- A predicate reads what was written to it last; the others are as they were (R18). -/
theorem Ctx.rp_wp (x : Ctx) {r : Nat} (v : Bool) (h2 : 2 ≤ r) (h13 : r ≤ 13) (n : Nat) :
    (x.wp r v).rp n = if n = r then v else x.rp n := by
  have hw : x.wp r v = { x with p := setBit x.p r v } := if_pos ⟨h2, h13⟩
  rw [hw]
  by_cases hf : n ≠ 0 ∧ n ≠ 1 ∧ n ≠ 14 ∧ n ≠ 15
  · rw [Ctx.rp_of_file _ hf, Ctx.rp_of_file _ hf]
    exact getLsbD_setBit x.p (by omega) v n
  · rw [if_neg (by omega)]
    obtain rfl | rfl | rfl | rfl : n = 0 ∨ n = 1 ∨ n = 14 ∨ n = 15 := by omega
    all_goals rfl

/-- Outside a loop both marks read true (R18). -/
theorem Ctx.rp_marks_outside (x : Ctx) (h : x.loop.active = false) : x.rp 14 = true ∧ x.rp 15 = true := by
  simp [Ctx.rp, h]

/-- In a loop the marks read whether this is the first, and whether it is the last iteration of the innermost level (R18). -/
theorem Ctx.rp_marks_inside (x : Ctx) (h : x.loop.active = true) :
    (x.rp 14 = true ↔ x.loop.counter 0 = 0) ∧ (x.rp 15 = true ↔ x.loop.counter 0 + 1 = x.loop.count 0) := by
  simp [Ctx.rp, h]

/-- Settles O14. -/
theorem hardwiredRegisters : Obligations.HardwiredRegisters := by
  intro x
  refine ⟨x.rs_zero, x.rvq_zero, rfl, rfl, Ctx.rp_marks_outside x, Ctx.rp_marks_inside x, fun _ => rfl, fun _ => rfl,
    fun r v => Ctx.wp_discarded x v, fun r v hr => ?_, fun r v h2 h13 => ?_⟩
  · rw [Ctx.rs_ws, if_pos ⟨rfl, hr⟩]
  · exact ⟨by rw [Ctx.rp_wp x v h2 h13, if_pos rfl], fun n hn => by rw [Ctx.rp_wp x v h2 h13, if_neg hn]⟩

/-! ### One step -/

/-- Accesses that have all arrived are served in their order (R411). -/
theorem State.blockCycle_of_arrived (s : State) (hp : s.powered = true) (h : ∀ a ∈ s.accesses, a.at_ ≤ s.wall) :
    s.blockCycle = s.accesses.foldl State.blockAccess { s with accesses := [] } := by
  have hall : s.accesses.filter (fun a => decide (a.at_ ≤ s.wall)) = s.accesses := by
    simpa [List.filter_eq_self] using h
  have hnone : s.accesses.filter (fun a => decide (s.wall < a.at_)) = [] := by
    simpa [List.filter_eq_nil_iff] using h
  unfold State.blockCycle
  rw [hall, hnone]
  split
  · next he =>
    obtain he | he := he
    · rw [he]; cases s; simp_all
    · simp [hp] at he
  · rfl

theorem State.blockCycle_of_nil (s : State) (h : s.accesses = []) : s.blockCycle = s := by simp [State.blockCycle, h]

/-- Reads that are still to arrive are left to wait. -/
theorem State.managementCycle_of_later (s : State) (h : ∀ r ∈ s.mgReads, s.wall < r.at_) : s.managementCycle = s := by
  have hnone : s.mgReads.filter (fun r => decide (r.at_ ≤ s.wall)) = [] := by
    simpa [List.filter_eq_nil_iff] using h
  have hall : s.mgReads.filter (fun r => decide (s.wall < r.at_)) = s.mgReads := by
    simpa [List.filter_eq_self] using h
  unfold State.managementCycle
  rw [hnone, hall]
  split <;> rfl

theorem State.managementCycle_of_nil (s : State) (h : s.mgReads = []) : s.managementCycle = s :=
  State.managementCycle_of_later s (by simp [h])

/-- Settles O1. -/
theorem stepIsWallCycle : Obligations.StepIsWallCycle := by
  intro s b hb
  refine ⟨fun hi hp => ?_, fun hi hp => ?_, fun i rest t hi ho he => ?_, fun i rest hi ho => ?_, fun ha hm => ?_,
    fun p q hw hp hq ha => ?_, fun r hw ha hm => ?_, fun hp => ?_, fun hp => ?_, fun hu => ?_⟩
  · simp [step, ← hb, hi, hp]
  · simp [step, ← hb, hi, hp]
  · simp [step, ← hb, hi, ho, he]
  · simp [step, ← hb, hi, ho]
  · rw [hb, State.blockCycle_of_nil s ha, State.managementCycle_of_nil s hm]
  · rw [hb, State.blockCycle_of_arrived s hw (by simp [ha, hp, hq]), ha]
    rfl
  · rw [hb, State.blockCycle_of_nil s ha]
    by_cases hr : r.at_ ≤ s.wall
    · simp [State.managementCycle, hm, hw, hr, Nat.not_lt.2 hr]
    · rw [State.managementCycle_of_later s (by simpa [hm] using hr), if_neg hr]
  · simp [State.wallCycle, hp]
  · simp [State.wallCycle, hp]
  · simp [State.errorsCycle, hu]

end Sys2Proof.Machine

/-! ## What an update leaves of the contexts -/

namespace Sys2Proof.Machine
open Sys2Proof

/-! ### The rights of a context -/

/-- What a context may do and where: the fields that `Ctx.sameRights` compares. -/
def Ctx.rights (x : Ctx) : Bool × Nat × Nat × Nat × Nat × Nat × Nat × Nat :=
  (x.priv, x.part, x.launch, x.launchCtx, x.originRank, x.tileBase, x.tileCount, x.tag)

theorem Ctx.sameRights_iff (x y : Ctx) : x.sameRights y ↔ y.rights = x.rights := by
  simp [Ctx.sameRights, Ctx.rights]

theorem Ctx.rights_trap (x : Ctx) (t : Trap) (after : Bool) : (x.trap t after).rights = x.rights := by
  unfold Ctx.trap
  split
  · rfl
  · dsimp only
    split <;> rfl

theorem Ctx.rights_sysSet (x : Ctx) (r : Nat) (v : DWord) : (x.sysSet r v).rights = x.rights := by
  unfold Ctx.sysSet
  dsimp only
  split
  · rfl
  · split
    · rfl
    · split <;> rfl

theorem Ctx.rights_clearRestart (x : Ctx) (step : Option Nat) : (x.clearRestart step).rights = x.rights := by
  unfold Ctx.clearRestart
  split <;> rfl

theorem Ctx.rights_unwindTo (x : Ctx) (r : Region) (rest : List Region) (slot : Nat) (info : DWord) :
    (x.unwindTo r rest slot info).rights = x.rights := by
  simp only [Ctx.rights, Ctx.unwindTo]

/-! ### Updates of a core that leave its contexts -/

theorem Core.ctxs_foldl {α : Type} {f : Core → α → Core} (h : ∀ c a, (f c a).ctxs = c.ctxs) (l : List α) (c : Core) :
    (l.foldl f c).ctxs = c.ctxs := by
  induction l generalizing c with
  | nil => rfl
  | cons a l ih => exact (ih _).trans (h c a)

theorem Core.ctxs_wBytes (c : Core) (a v n : Nat) : (c.wBytes a v n).ctxs = c.ctxs := by
  induction n generalizing c a v with
  | zero => rfl
  | succ n ih => exact ih _ _ _

theorem Core.ctxs_markBytes (c : Core) (a n : Nat) (poison : Bool) : (c.markBytes a n poison).ctxs = c.ctxs := by
  unfold Core.markBytes
  split
  · refine ctxs_foldl (fun c i => ?_) _ _
    rfl
  · refine ctxs_foldl (fun c i => ?_) _ _
    split <;> rfl

theorem Core.ctxs_store (c : Core) (a v n : Nat) (poison : Bool) : (c.store a v n poison).ctxs = c.ctxs :=
  (ctxs_markBytes _ _ _ _).trans (ctxs_wBytes _ _ _ _)

theorem Core.ctxs_wLanes (c : Core) (v : VReg) (poison : Bool) (i : Nat) (l : List DWord) :
    (c.wLanes v poison i l).ctxs = c.ctxs := by
  induction l generalizing c i with
  | nil => rfl
  | cons a l ih => exact (ih _ _).trans (ctxs_store _ _ _ _ _)

/-- The lanes of a store are served to A-space alone. -/
theorem Core.ctxs_serveLanes (c : Core) (l : LaneAccess) (h : l.load = none) : (c.serveLanes l).ctxs = c.ctxs :=
  ctxs_foldl (fun c i => by simp only [Core.serveLane, h]; exact ctxs_store _ _ _ _ _) _ (c.keepLanes l)

theorem Core.ctxs_keepBody (c : Core) (body : List (Nat × Expanded)) : (c.keepBody body).ctxs = c.ctxs :=
  ctxs_foldl (fun c q => by unfold Core.keepBundle; split <;> rfl) _ _

theorem Core.ctxs_logRow (c : Core) (row : Nat) : (c.logRow row).ctxs = c.ctxs := by
  unfold Core.logRow
  split <;> rfl

/-- A window put back as it was defined is its own context's alone. -/
theorem Core.ctx_normalise (c : Core) (slot w j : Nat) :
    (j ≠ slot → (c.normalise slot w).ctx j = c.ctx j) ∧ ((c.normalise slot w).ctx j).rights = (c.ctx j).rights := by
  unfold Core.normalise
  dsimp only
  split
  · exact ⟨fun _ => rfl, rfl⟩
  · split
    · exact ⟨fun _ => rfl, rfl⟩
    · rw [Core.ctx_setCtx]
      by_cases h : j = slot
      · subst h; simp only [if_true]; exact ⟨fun h => absurd rfl h, rfl⟩
      · rw [if_neg h]; exact ⟨fun _ => rfl, rfl⟩

/-! ### Steps that leave every context -/

/-- Every context of every core is as it was, and the same one acts. -/
structure State.SameCtxs (s t : State) : Prop where
  cur : t.cur = s.cur
  who : t.who = s.who
  ctxs : ∀ r, (t.core r).ctxs = (s.core r).ctxs

namespace State.SameCtxs

theorem refl (s : State) : s.SameCtxs s := ⟨rfl, rfl, fun _ => rfl⟩

theorem trans {s t u : State} (h : s.SameCtxs t) (k : t.SameCtxs u) : s.SameCtxs u :=
  ⟨k.cur.trans h.cur, k.who.trans h.who, fun r => (k.ctxs r).trans (h.ctxs r)⟩

theorem ctx {s t : State} (h : s.SameCtxs t) (r j : Nat) : (t.core r).ctx j = (s.core r).ctx j := by
  unfold Core.ctx
  rw [h.ctxs r]

theorem foldl {α : Type} {f : State → α → State} (h : ∀ (t : State) (a : α), t.SameCtxs (f t a)) (l : List α) (s : State) :
    s.SameCtxs (l.foldl f s) := by
  induction l generalizing s with
  | nil => exact refl s
  | cons a l ih => exact (h s a).trans (ih _)

/-- Whatever else changes, the cores and who acts do not. -/
theorem of_cores {s t : State} (hc : t.cores = s.cores := by rfl) (hcur : t.cur = s.cur := by rfl) (hwho : t.who = s.who := by rfl) :
    s.SameCtxs t := ⟨hcur, hwho, fun r => by unfold State.core; rw [hc]⟩

theorem setCore (s : State) (r : Nat) {c : Core} (h : c.ctxs = (s.core r).ctxs := by rfl) : s.SameCtxs (s.setCore r c) := by
  refine ⟨rfl, rfl, fun q => ?_⟩
  rw [State.core_setCore]
  split
  · next e => rw [e, h]
  · rfl

theorem addScore (s : State) (id n : Nat) : s.SameCtxs (s.addScore id n) := of_cores

theorem correctedError (s : State) (id : Nat) : s.SameCtxs (s.correctedError id) := by
  unfold State.correctedError
  dsimp only
  split
  · exact of_cores
  · exact refl s

theorem postFlit (s : State) (part dest cls addr : Nat) (b : List Byte) : s.SameCtxs (s.postFlit part dest cls addr b) :=
  of_cores

/-- A change of every core that leaves its contexts. -/
theorem mapCores (s : State) {f : Nat × Core → Nat × Core} (hk : ∀ c, (f c).1 = c.1) (hf : ∀ c, (f c).2.ctxs = c.2.ctxs) (r : Nat) :
    (Map.get (s.cores.map f) {} r).ctxs = (s.core r).ctxs := by
  unfold State.core
  induction s.cores with
  | nil => rfl
  | cons e rest ih =>
    simp only [List.map_cons, Map.get, hk]
    split
    · exact hf e
    · exact ih

theorem gPut (s : State) (pa : Nat) (bs : List Byte) (p : Bool) : s.SameCtxs (s.gPut pa bs p) :=
  ⟨rfl, rfl, by
    unfold State.gPut
    exact mapCores s (fun _ => rfl) (fun _ => rfl)⟩

theorem gWord (s : State) (rank : Option Nat) (pa : Nat) (mask : BitVec 4) (v : Word) (p : Bool) :
    s.SameCtxs (s.gWord rank pa mask v p) := by
  unfold State.gWord
  dsimp only
  split
  · split <;> exact gPut _ _ _ _
  · have h := gPut s pa (bytesOf (mergeWord (BitVec.ofNat 32 (natOfBytes ((List.range 4).map (fun i => s.gStored (pa + i))))) mask v).toNat 4)
      false
    cases rank with
    | none => exact h.trans of_cores
    | some r =>
      refine h.trans (trans ?_ (setCore _ r))
      exact of_cores

theorem flushStreams (s : State) (rank : Nat) (keys : List Nat) : s.SameCtxs (s.flushStreams rank keys) :=
  (trans of_cores (setCore (s.releaseAmos rank _) rank)).trans (foldl (fun t _ => gWord t _ _ _ _ _) _ _)

theorem of_recall (s : State) (a n : Nat) : s.SameCtxs (s.recall a n) :=
  foldl (fun t c => by
    split
    · exact refl t
    · exact flushStreams _ _ _) _ _

theorem queueOpen (s : State) (r : QueueReg) (off : Nat) : s.SameCtxs (s.queueOpen r off) := by
  unfold State.queueOpen
  split
  · exact of_recall _ _ _
  · exact refl s

theorem queueGet (s : State) (r : QueueReg) (off n : Nat) : s.SameCtxs (s.queueGet r off n).2 := by
  unfold State.queueGet
  split
  · exact refl s
  · exact of_cores
  · exact refl s

theorem queuePut (s : State) (r : QueueReg) (off : Nat) (bs : List Byte) : s.SameCtxs (s.queuePut r off bs) := by
  unfold State.queuePut
  split
  · exact gPut _ _ _ _
  · exact postFlit _ _ _ _ _ _
  · exact refl s

/-- An entry is taken from a queue's memory. -/
theorem queuePop (s : State) (r : QueueReg) : s.SameCtxs (s.queuePop r).2 :=
  ((queueOpen s r 0).trans (queueGet _ r 0 4)).trans
    (((queueOpen _ r _).trans (queueGet _ r _ 64)).trans (queuePut _ r 0 _))

/-- An entry is placed in a queue's memory. -/
theorem queuePush (s : State) (r : QueueReg) (item : List Byte) : s.SameCtxs (s.queuePush r item) :=
  ((queueOpen s r 0).trans (queueGet _ r 4 4)).trans
    (((queueOpen _ r _).trans (queuePut _ r _ item)).trans (queuePut _ r 4 _))

theorem grantRead (s : State) (rank row : Nat) : s.SameCtxs (s.grantRead rank row) := by
  unfold State.grantRead
  dsimp only
  split
  · refine trans (setCore s rank ?_) (correctedError _ _)
    exact Core.ctxs_logRow _ _
  · exact setCore s rank

end State.SameCtxs

/-! ### Steps that change the acting context alone -/

/-- The same context acts, every other context is as it was, and the acting one has the rights it had (R214). -/
structure State.OwnOnly (s t : State) : Prop where
  cur : t.cur = s.cur
  who : t.who = s.who
  others : ∀ r j, (r ≠ s.cur ∨ j ≠ s.who) → (t.core r).ctx j = (s.core r).ctx j
  rights : t.ctx.rights = s.ctx.rights

theorem State.SameCtxs.own {s t : State} (h : s.SameCtxs t) : s.OwnOnly t :=
  ⟨h.cur, h.who, fun r j _ => h.ctx r j, by
    unfold State.ctx State.me
    rw [h.cur, h.who, h.ctx]⟩

namespace State.OwnOnly
variable {s t u : State}

theorem refl (s : State) : s.OwnOnly s := (SameCtxs.refl s).own

theorem trans (h : s.OwnOnly t) (k : t.OwnOnly u) : s.OwnOnly u :=
  ⟨k.cur.trans h.cur, k.who.trans h.who,
    fun r j hr => (k.others r j (by rwa [h.cur, h.who])).trans (h.others r j hr), k.rights.trans h.rights⟩

/-- A change of the acting core that keeps the other contexts, and the rights of the acting one. -/
theorem updCoreOf (s : State) {f : Core → Core} (ho : ∀ j, j ≠ s.who → (f s.me).ctx j = s.me.ctx j)
    (hr : ((f s.me).ctx s.who).rights = s.ctx.rights) : s.OwnOnly (s.updCore f) := by
  refine ⟨rfl, rfl, fun r j h => ?_, ?_⟩
  · rw [State.core_updCore]
    split
    · next e => rw [e, ho j (h.resolve_left (fun n => n e))]; rfl
    · rfl
  · rw [State.ctx_updCore]; exact hr

/-- A change of the acting core that leaves its contexts. -/
theorem updCore (h : s.OwnOnly t) {f : Core → Core} (hf : (f t.me).ctxs = t.me.ctxs := by rfl) : s.OwnOnly (t.updCore f) := by
  have hc : ∀ j, (f t.me).ctx j = t.me.ctx j := fun j => by unfold Core.ctx; rw [hf]
  exact h.trans (updCoreOf t (fun j _ => hc j) (by rw [hc]; rfl))

/-- The acting context is replaced by one of its rights. -/
theorem setCtx (h : s.OwnOnly t) {x : Ctx} (hx : x.rights = t.ctx.rights := by rfl) : s.OwnOnly (t.setCtx x) :=
  h.trans (updCoreOf t (fun j hj => Core.ctx_setCtx_ne _ _ hj) (by rw [Core.ctx_setCtx_self, hx]))

theorem updCtx (h : s.OwnOnly t) {f : Ctx → Ctx} (hf : (f t.ctx).rights = t.ctx.rights := by rfl) : s.OwnOnly (t.updCtx f) :=
  h.setCtx hf

/-- Whatever else changes, the cores and who acts do not. -/
theorem of_cores (h : s.OwnOnly t) (hc : u.cores = t.cores := by rfl) (hcur : u.cur = t.cur := by rfl)
    (hwho : u.who = t.who := by rfl) : s.OwnOnly u := h.trans (SameCtxs.of_cores hc hcur hwho).own

/-- A result in flight is the acting context's. -/
theorem emit (h : s.OwnOnly t) (lat : Nat) (ws : List RegWrite) (fl : FpFlags) (bad : Bool) : s.OwnOnly (t.emit lat ws fl bad) := by
  unfold State.emit
  exact h.updCore.updCtx

theorem issueOp (h : s.OwnOnly t) (o : COp) : s.OwnOnly (t.issueOp o) := h.updCore

theorem kvIssue (h : s.OwnOnly t) (o : COp) : s.OwnOnly (t.kvIssue o) :=
  ((of_cores (u := { t with free := t.free + 1 }) h).updCore).issueOp o

theorem xferTo (h : s.OwnOnly t) (x : Xfer) : s.OwnOnly (t.xferTo x) := h.updCtx

theorem await (h : s.OwnOnly t) (w : Wait) (now : Bool) : s.OwnOnly (t.await w now) := by
  unfold State.await
  split
  · exact h
  · exact h.updCtx

/-! #### Traps, returns and holds -/

theorem putBack (s : State) (k : Nat) : s.OwnOnly (s.putBack k) := by
  unfold State.putBack
  exact (refl s).setCtx.updCore

theorem rearmed (s : State) : s.OwnOnly s.rearmed := by
  unfold State.rearmed
  split
  · exact putBack s _
  · exact refl s

theorem takeTrap (s : State) (t : Trap) (after : Bool) : s.OwnOnly (s.takeTrap t after) := by
  have hset : ∀ x : Ctx, x.rights = s.rearmed.ctx.rights → s.OwnOnly (s.rearmed.setCtx x) := fun x hx => (rearmed s).setCtx hx
  unfold State.takeTrap
  generalize s.rearmed = r at hset ⊢
  have htrap := Ctx.rights_trap r.ctx t after
  dsimp only
  have h1 : s.OwnOnly (r.setCtx (if (r.ctx.trap t after).life = .stopped then r.ctx.trap t after
      else { r.ctx.trap t after with trapOp := r.me.nextOp, trapSeq := r.me.seq })) :=
    hset _ (by split <;> exact htrap)
  generalize r.setCtx _ = s1 at h1 ⊢
  have h2 : s.OwnOnly (if t.cause = .dchk then s1.addScore (coreUnit r.cur) 128 else s1) := by
    split
    · exact h1.trans (SameCtxs.addScore _ _ _).own
    · exact h1
  split
  · exact h2.updCore
  · exact h2

theorem consumePoison (s : State) (slot : Nat) (info : DWord) : s.OwnOnly (s.consumePoison slot info) := by
  unfold State.consumePoison
  split
  · exact takeTrap s _ _
  · next r rest _ =>
    have h : s.OwnOnly (s.setCtx (s.ctx.unwindTo r rest slot info)) := (refl s).setCtx (Ctx.rights_unwindTo _ _ _ _ _)
    exact (h.trans (SameCtxs.of_cores (t := { s.setCtx (s.ctx.unwindTo r rest slot info) with unwinding := _ })).own).updCore

theorem takeFault (s : State) (slot : Nat) (f : SlotFault) : s.OwnOnly (s.takeFault slot f) := by
  cases f with
  | poison info => exact consumePoison s slot info
  | trap c info => exact takeTrap s _ _

theorem holdAt (s : State) (h : Hold) : s.OwnOnly (s.holdAt h) := by
  cases h with
  | bubble => exact refl s
  | handle =>
    unfold State.holdAt
    exact (of_cores (u := { s with free := s.free + 1 }) (refl s)).updCore
  | kvPage r =>
    unfold State.holdAt
    dsimp only
    split
    · exact (refl s).updCore
    · exact ((refl s).updCore).updCtx
  | freeze | word | array | bank =>
    unfold State.holdAt
    exact (refl s).updCore

theorem eret (s : State) (discard : Bool) : s.OwnOnly (s.eret discard) := by
  have h : s.OwnOnly (s.setCtx (s.ctx.eret discard)) := (refl s).setCtx
  unfold State.eret
  dsimp only
  split
  · exact h.updCore
  · exact h

/-! #### Loops, regions, groups and registers -/

theorem startLoop (s : State) (len : Nat) : s.OwnOnly (s.startLoop s len) := by
  unfold State.startLoop
  split
  · exact refl s
  · dsimp only
    split
    · exact ((refl s).updCtx).xferTo _
    · refine ((refl s).updCore ?_).updCtx
      split
      · rfl
      · exact Core.ctxs_keepBody _ _

theorem closeRegion (s : State) : s.OwnOnly s.closeRegion := by
  unfold State.closeRegion
  split
  · exact refl s
  · next r rest _ =>
    have h : s.OwnOnly (s.updCtx (fun x => { x with contain := rest })) := (refl s).updCtx
    dsimp only
    split <;> exact h.of_cores

theorem closeRegions (s : State) (n : Nat) : s.OwnOnly (s.closeRegions n) := by
  induction n generalizing s with
  | zero => exact refl s
  | succ n ih =>
    unfold State.closeRegions
    split
    · exact refl s
    · exact (closeRegion s).trans (ih _)

theorem dropGroup (s : State) (g : Nat) : s.OwnOnly (s.dropGroup g) :=
  (of_cores (u := { s with groupUpds := s.groupUpds ++ [GroupUpd.drop g s.cur] }) (refl s)).updCore

theorem dropGroups (s : State) (l : List Nat) : s.OwnOnly (l.foldl State.dropGroup s) := by
  induction l generalizing s with
  | nil => exact refl s
  | cons g l ih => exact (dropGroup s g).trans (ih _)

theorem leave (s : State) : s.OwnOnly s.leave := by
  unfold State.leave
  exact ((closeRegions s 4).trans (dropGroups _ _)).updCtx

/-- A user context reaches no context's registers but its own (R108). -/
theorem sysSet (s : State) (r : Nat) (v : DWord) (h : s.who ≠ 4) : s.OwnOnly (s.sysSet r v) := by
  have hslot : s.sysSlot r = s.who := if_neg (fun k => h k.1)
  unfold State.sysSet
  rw [hslot]
  split
  · exact refl s
  · split
    · exact (refl s).of_cores
    · split
      · exact (refl s).of_cores
      · exact (refl s).setCtx (Ctx.rights_sysSet _ _ _)

/-! #### The slots that reach memories and engines -/

theorem spreadLanes (h : s.OwnOnly t) (s0 : State) (who : Nat) (load : Option Nat) (as : List DWord) (v : VReg) (poison : Bool) :
    s.OwnOnly (t.spreadLanes s0 who load as v poison) := by
  have hf : s.OwnOnly { t with free := t.free + 1 } := h.of_cores
  unfold State.spreadLanes State.bankFreeze
  refine OwnOnly.updCore (hf.updCore ?_)
  cases load with
  | some seq => rfl
  | none => exact Core.ctxs_serveLanes _ _ rfl

theorem wRead (s : State) (row : Nat) : s.OwnOnly (s.wRead row) := by
  refine OwnOnly.updCore ((SameCtxs.grantRead s s.cur row).own.trans ?_)
  unfold State.eccFreeze
  split
  · exact (refl _).updCore
  · exact refl _

theorem issueCmd (h : s.OwnOnly t) (m : MCmd) : s.OwnOnly (t.issueCmd m) := (h.updCore).emit _ _ _ _

theorem issueMmas (h : s.OwnOnly t) (m : MCmd) : s.OwnOnly (t.issueMmas m) := h.updCore

theorem stopMatrix (s : State) : s.OwnOnly (s.stopMatrix s.who) := by
  unfold State.stopMatrix
  refine updCoreOf s (fun j hj => ?_) ?_
  · exact Core.ctx_setCtx_ne s.me _ hj
  · exact (congrArg Ctx.rights (Core.ctx_setCtx_self s.me s.who _)).trans rfl

theorem normalise (s : State) (w n : Nat) :
    s.OwnOnly (s.updCore (fun c => { c.normalise s.who w with freeze := max c.freeze n })) :=
  updCoreOf s (fun j hj => (Core.ctx_normalise s.me s.who w j).1 hj) (Core.ctx_normalise s.me s.who w s.who).2

end State.OwnOnly
end Sys2Proof.Machine

/-! ## An instruction and the contexts (O59) -/

namespace Sys2Proof.Machine
open Sys2Proof

/-! ### What performing an instruction changes of the contexts -/

/-- Performing changes no context but the acting one. -/
structure Act.Own (a : Act) : Prop where
  own : ∀ (k : Nat) (s : State), s.who ≠ 4 → s.OwnOnly (a.perform k s s)

namespace Act.Own
open State (OwnOnly)

theorem reduceAct (op : Nat) (g : BitVec 4) (d a : BitVec 5) (q : BitVec 3) (t : BitVec 4) : (reduceAct op g d a q t).Own := by
  refine ⟨fun k s _ => ?_⟩
  unfold Machine.reduceAct
  dsimp only
  split
  · exact .refl s
  · exact (OwnOnly.refl s).emit ..

theorem quantAct (g : BitVec 4) (d : BitVec 5) (q : BitVec 3) (l : BitVec 2) (srcs : Ctx → List Src) (f : Ctx → Word → Nat → LatResult) :
    (quantAct g d q l srcs f).Own := by
  refine ⟨fun k s _ => ?_⟩
  unfold Machine.quantAct
  dsimp only
  split
  · exact .refl s
  · exact (OwnOnly.refl s).emit ..

theorem vcmp (g : BitVec 4) (k : BitVec 2) (c : BitVec 3) (a b : BitVec 5) (q : BitVec 3) (t : BitVec 4) : (actVcmp g k c a b q t).Own := by
  refine ⟨fun _ s _ => ?_⟩
  unfold actVcmp
  dsimp only
  split
  · exact .refl s
  · exact (OwnOnly.refl s).emit ..

theorem vacr (g : BitVec 4) (d : BitVec 5) (c r : BitVec 6) (t : BitVec 4) : (actVacr g d c r t).Own := by
  refine ⟨fun k s _ => ?_⟩
  unfold actVacr
  dsimp only
  split <;> exact (OwnOnly.refl s).emit ..

theorem branchAct (g : BitVec 4) (i : BitVec 22) (link : Bool) : (branchAct g i link).Own := by
  refine ⟨fun k s _ => ?_⟩
  unfold Machine.branchAct
  cases link with
  | true => exact ((OwnOnly.refl s).emit ..).xferTo _
  | false => exact (OwnOnly.refl s).xferTo _

theorem jumpAct (g a : BitVec 4) (link : Bool) : (jumpAct g a link).Own := by
  refine ⟨fun k s _ => ?_⟩
  unfold Machine.jumpAct
  cases link with
  | true => exact ((OwnOnly.refl s).emit ..).xferTo _
  | false => exact (OwnOnly.refl s).xferTo _

theorem ret (g a : BitVec 4) : (actRet g a).Own := by
  refine ⟨fun k s h => ?_⟩
  unfold actRet
  dsimp only
  exact ((jumpAct g a false).own k s h).updCtx

theorem lexit (g : BitVec 4) (n : BitVec 3) : (actLexit g n).Own := by
  refine ⟨fun k s _ => ?_⟩
  unfold actLexit
  dsimp only
  refine (OwnOnly.refl s).updCtx ?_
  split <;> rfl

theorem evpop (g : BitVec 4) (u : BitVec 5) (a p : BitVec 4) (o : BitVec 9) : (actEvpop g u a p o).Own := by
  refine ⟨fun k s _ => ?_⟩
  unfold actEvpop
  dsimp only
  split
  · exact (OwnOnly.refl s).emit ..
  · refine OwnOnly.emit ((OwnOnly.refl s).updCore ?_) ..
    exact Core.ctxs_store _ _ _ _ _

theorem contain (g : BitVec 4) (u : BitVec 5) (a m : BitVec 4) : (actContain g u a m).Own := by
  refine ⟨fun k s _ => ?_⟩
  unfold actContain
  dsimp only
  exact (OwnOnly.refl s).updCtx.updCore

theorem sync (g : BitVec 4) (n : BitVec 8) : (actSync g n).Own := by
  refine ⟨fun k s _ => ?_⟩
  unfold actSync
  dsimp only
  exact (OwnOnly.of_cores (u := { s with groupUpds := _ }) (.refl s)).updCore

theorem leave (g : BitVec 4) : (actLeave g).Own := by
  refine ⟨fun k s _ => ?_⟩
  unfold actLeave
  dsimp only
  split
  · exact .leave s
  · exact .refl s

theorem vloadAct (g : BitVec 4) (d : BitVec 5) (b : BitVec 4) (extra : List Src) (addrs : Ctx → List DWord) (banks : Bool) :
    (vloadAct g d b extra addrs banks).Own := by
  refine ⟨fun k s _ => ?_⟩
  unfold Machine.vloadAct
  dsimp only
  split
  · exact ((OwnOnly.refl s).emit ..).spreadLanes ..
  · exact (OwnOnly.refl s).emit ..

theorem vstoreAct (g : BitVec 4) (d : BitVec 5) (b : BitVec 4) (extra : List Src) (addrs : Ctx → List DWord) (banks : Bool) :
    (vstoreAct g d b extra addrs banks).Own := by
  refine ⟨fun k s _ => ?_⟩
  unfold Machine.vstoreAct
  dsimp only
  split
  · exact (OwnOnly.refl s).spreadLanes ..
  · exact (OwnOnly.refl s).updCore (Core.ctxs_wLanes _ _ _ _ _)

theorem fesetAct (g b : BitVec 4) (x : BitVec 5) (full : Bool) : (fesetAct g b x full).Own := by
  refine ⟨fun k s _ => ?_⟩
  unfold Machine.fesetAct
  dsimp only
  refine (OwnOnly.refl s).updCore (Core.ctxs_foldl (fun c i => ?_) _ _)
  rfl

/-- A store of bytes is no context's. -/
theorem st (g : BitVec 4) (d : BitVec 5) (b : BitVec 4) (z : BitVec 3) (o : BitVec 10) : (actSt g d b z o).Own := by
  refine ⟨fun k s _ => ?_⟩
  unfold actSt
  dsimp only
  exact (OwnOnly.refl s).updCore (Core.ctxs_store _ _ _ _ _)

theorem sta (g d b : BitVec 4) (o : BitVec 10) : (actSta g d b o).Own := by
  refine ⟨fun k s _ => ?_⟩
  unfold actSta
  dsimp only
  exact (OwnOnly.refl s).updCore (Core.ctxs_store _ _ _ _ _)

theorem ste (g : BitVec 4) (d : BitVec 5) (b : BitVec 4) (o : BitVec 10) : (actSte g d b o).Own := by
  refine ⟨fun k s _ => ?_⟩
  unfold actSte
  dsimp only
  exact (OwnOnly.refl s).updCore (Core.ctxs_store _ _ _ _ _)

theorem ldf (g : BitVec 4) (d : BitVec 5) (b : BitVec 4) (o : BitVec 10) : (actLdf g d b o).Own := by
  refine ⟨fun k s _ => ?_⟩
  unfold actLdf
  dsimp only
  exact OwnOnly.emit (OwnOnly.updCore (.refl s)) ..

theorem mma (g : BitVec 4) (c : BitVec 6) (n : BitVec 3) (a b : BitVec 4) (u : BitVec 3) (f : BitVec 1) : (actMma g c n a b u f).Own := by
  refine ⟨fun k s _ => ?_⟩
  unfold actMma
  dsimp only
  exact OwnOnly.issueCmd ((OwnOnly.refl s).updCtx (Ctx.rights_clearRestart _ _)) _

theorem mmv (g : BitVec 4) (c : BitVec 6) (n : BitVec 3) (a b : BitVec 4) (f : BitVec 1) : (actMmv g c n a b f).Own := by
  refine ⟨fun k s _ => ?_⟩
  unfold actMmv
  dsimp only
  exact OwnOnly.issueCmd ((OwnOnly.refl s).updCtx (Ctx.rights_clearRestart _ _)) _

theorem wldm (g b : BitVec 4) (o : BitVec 18) : (actWldm g b o).Own := by
  refine ⟨fun k s _ => ?_⟩
  unfold actWldm
  dsimp only
  exact (OwnOnly.wRead s _).updCore

theorem pubClr (g : BitVec 4) (w : BitVec 2) : (actPubClr g w).Own := by
  refine ⟨fun k s _ => ?_⟩
  unfold actPubClr
  dsimp only
  exact (OwnOnly.normalise s _ _).updCtx

theorem kvapp (g x y t : BitVec 4) (u : BitVec 5) (e : BitVec 1) : (actKvapp g x y t u e).Own := by
  refine ⟨fun k s _ => ?_⟩
  unfold actKvapp
  dsimp only
  exact OwnOnly.updCtx ((OwnOnly.refl s).kvIssue _)

theorem barrierAct (op : Nat) (g x t : BitVec 4) (bytes : State → Word) (more : List Src) (ordered : Bool) :
    (barrierAct op g x t bytes more ordered).Own := by
  refine ⟨fun k s _ => ?_⟩
  unfold Machine.barrierAct
  dsimp only
  split
  · exact (OwnOnly.refl s).issueOp _
  · exact (OwnOnly.refl s).updCore

theorem mstop (g : BitVec 4) : (actMstop g).Own := by
  refine ⟨fun k s _ => ?_⟩
  unfold actMstop
  dsimp only
  exact (OwnOnly.stopMatrix s).updCtx

theorem binit (g x y : BitVec 4) (u : BitVec 5) : (actBinit g x y u).Own := by
  refine ⟨fun k s _ => ?_⟩
  unfold actBinit
  dsimp only
  exact (OwnOnly.refl s).updCore

end Act.Own

/-- The instructions that serve the accesses that wait at a queue before their own (R356). -/
def servesQueue : Instr → Bool
  | .qpop .. | .qpopB .. | .qpush .. => true
  | _ => false

open State (OwnOnly) in
/-- An instruction other than a pop or a push changes no context but its own. -/
theorem own_of_actOf {i : Instr} {a : Act} (h : actOf i = some a) (hq : servesQueue i = false) : a.Own := by
  cases i with
  | nop | dchk | vdchk | pfl2 | wst => cases h; exact ⟨fun _ s _ => OwnOnly.refl s⟩
  | add | sub | mul | mulh | mulhz | div | divz | rem | remz | and | or | xor | andn | shl | shr | sra | min | max | minz | maxz
  | clz | popc | addi | andi | ori | xori | shli | shri | srai | movi | movhi | sel | cmp | cmpi
  | fadd | fsub | fmul | fdiv | fsqrt | fmin | fmax | fsgn | fcvtF32S32 | fcvtF32Z32 | fcvtS32F32 | fcvtZ32F32 | fcvtF32F16
  | fcvtF32Bf16 | fcvtF16F32 | fcvtBf16F32 | ffma | fcmp | pand | por | pxor | pmov | ppack | punpk
  | aadd | aaddi | amov | amovHi | atos | atosHi | atag | sysrd | cycrd | cycrdW
  | vadd | vsub | vmul | vfma | vfms | vmin | vmax | vabs | vneg | vand | vor | vxor | vandn | vshl | vshr | vsra
  | vsel | vmov | vbcast | vext | vins | vperm | vshuf | vrot | vdot | vcvt | vrnd | vexp2 | vlog2 | vrcp | vrsq
  | vdql | vlext | vtrw | vtrr | vtcw | vtcr | vacw | viop | vfop | ld | lda | wattr | mzero =>
    cases h; exact ⟨fun _ s _ => (OwnOnly.refl s).emit ..⟩
  | vcmp => cases h; exact .vcmp ..
  | vreds | vredmMax | vredmMin => cases h; exact .reduceAct ..
  | vqnt | vlins | vlnrm => cases h; exact .quantAct ..
  | vacr => cases h; exact .vacr ..
  | br => cases h; exact .branchAct ..
  | brl g i => cases h; exact ⟨(Act.Own.branchAct g i true).own⟩
  | jr => cases h; exact .jumpAct ..
  | jrl g r => cases h; exact ⟨(Act.Own.jumpAct g r true).own⟩
  | ret => cases h; exact .ret ..
  | ibsw => cases h; exact ⟨fun _ s _ => (OwnOnly.refl s).xferTo _⟩
  | ifence | lset | nset | yield | trap | snop | halt | mcfg | mcfgR | mlat | pubDef =>
    cases h
    refine ⟨fun _ s _ => ?_⟩
    dsimp only [actIfence, actLset, actNset, actYield, actTrap, actSnop, actHalt, actMcfg, actMcfgR, actMlat, actPubDef]
    exact (OwnOnly.refl s).updCtx
  | lexit => cases h; exact .lexit ..
  | bwait | evwait | wfence => cases h; exact ⟨fun _ s _ => (OwnOnly.refl s).await ..⟩
  | lbody => cases h; exact ⟨fun _ s _ => .startLoop s _⟩
  | evpop => cases h; exact .evpop ..
  | eret => cases h; exact ⟨fun _ s _ => .eret s false⟩
  | eretD => cases h; exact ⟨fun _ s _ => .eret s true⟩
  | syswr => cases h; exact ⟨fun _ s hs => .sysSet s _ _ hs⟩
  | contain => cases h; exact .contain ..
  | uncontain => cases h; exact ⟨fun _ s _ => .closeRegion s⟩
  | sync => cases h; exact .sync ..
  | gdrop => cases h; exact ⟨fun _ s _ => .dropGroup s _⟩
  | leave => cases h; exact .leave ..
  | ldv | ldvs | ldvx => cases h; exact .vloadAct ..
  | stv | stvs | stvx => cases h; exact .vstoreAct ..
  | st => cases h; exact .st ..
  | sta => cases h; exact .sta ..
  | ste => cases h; exact .ste ..
  | ldf => cases h; exact .ldf ..
  | fesetF | fesetE => cases h; exact .fesetAct ..
  | wldm => cases h; exact .wldm ..
  | wldv | wldd => cases h; exact ⟨fun _ s _ => (OwnOnly.wRead s _).emit ..⟩
  | mma => cases h; exact .mma ..
  | mmas => cases h; exact ⟨fun _ s _ => (OwnOnly.refl s).issueMmas _⟩
  | mmv => cases h; exact .mmv ..
  | mstop => cases h; exact .mstop ..
  | cpy | cpyd | pub | gath | scat | drain | xfence | amoAdd | amoMin | amoMax | amoAnd | amoOr | amoXor | amoSwap | amoCas
  | redAddF32 | redAddF64 | redAddS32 | redMaxF32 | redMinF32 | cwbWb | cwbWbi | cwbInv | wprog | wprogAttr | whash
  | migr | qcrt | qdel => cases h; exact ⟨fun _ s _ => (OwnOnly.refl s).issueOp _⟩
  | kvld | kvfork | kvrel => cases h; exact ⟨fun _ s _ => (OwnOnly.refl s).kvIssue _⟩
  | kvapp => cases h; exact .kvapp ..
  | binit => cases h; exact .binit ..
  | bexp | barr | bdrop => cases h; exact .barrierAct ..
  | pubClr => cases h; exact .pubClr ..
  | qpop | qpopB | qpush => cases hq
  | _ => cases h

/-! ### Pops and pushes -/

/-- A context is as it was, or waited at a queue and now has another wait (R356). -/
def Ctx.Served (x y : Ctx) : Prop :=
  y = x ∨ ((∃ w, x.wait = some w ∧ w.atQueue = true) ∧ ∃ w, y = { x with wait := some w })

theorem Ctx.Served.trans {x y z : Ctx} (h : x.Served y) (k : y.Served z) : x.Served z := by
  obtain rfl | ⟨hx, w, rfl⟩ := h
  · exact k
  · obtain rfl | ⟨_, v, rfl⟩ := k
    · exact .inr ⟨hx, w, rfl⟩
    · exact .inr ⟨hx, v, rfl⟩

theorem Ctx.Served.rights {x y : Ctx} (h : x.Served y) : y.rights = x.rights := by
  obtain rfl | ⟨_, w, rfl⟩ := h <;> rfl

/-- The same context acts, and of every context at most its wait at a queue has changed. -/
structure State.Serves (s t : State) : Prop where
  cur : t.cur = s.cur
  who : t.who = s.who
  ctxs : ∀ r j, ((s.core r).ctx j).Served ((t.core r).ctx j)

namespace State.Serves
variable {s t u : State}

theorem of_same (h : s.SameCtxs t) : s.Serves t := ⟨h.cur, h.who, fun r j => .inl (h.ctx r j)⟩

theorem trans (h : s.Serves t) (k : t.Serves u) : s.Serves u :=
  ⟨k.cur.trans h.cur, k.who.trans h.who, fun r j => (h.ctxs r j).trans (k.ctxs r j)⟩

theorem foldl {α : Type} {f : State → α → State} (h : ∀ (t : State) (a : α), t.Serves (f t a)) (l : List α) (s : State) :
    s.Serves (l.foldl f s) := by
  induction l generalizing s with
  | nil => exact of_same (.refl s)
  | cons a l ih => exact (h s a).trans (ih _)

/-- The wait of a context at a queue is replaced. -/
theorem setWait (s : State) (r j : Nat) {w : Wait} (hw : ((s.core r).ctx j).wait = some w) (hq : w.atQueue = true) (v : Wait) :
    s.Serves (s.setCore r ((s.core r).setCtx j { (s.core r).ctx j with wait := some v })) := by
  refine ⟨rfl, rfl, fun q i => ?_⟩
  rw [State.core_setCore]
  split
  · next e =>
    subst e
    rw [Core.ctx_setCtx]
    split
    · next e => subst e; exact .inr ⟨⟨w, hw, hq⟩, v, rfl⟩
    · exact .inl rfl
  · exact .inl rfl

/-- A waiting pop takes its entry. -/
theorem takeFor (s : State) (k : Nat × Nat × Nat) : s.Serves (s.takeFor k) := by
  unfold State.takeFor
  dsimp only
  split
  · next q u p a m n hw =>
    split
    · exact of_same (.refl s)
    · next r _ =>
      have hpop : s.SameCtxs (s.queuePop r).2 := .queuePop s r
      rw [← hpop.ctx] at hw ⊢
      exact (of_same hpop).trans (setWait _ _ _ hw rfl _)
  · exact of_same (.refl s)

/-- A waiting push places its item. -/
theorem placeFor (s : State) (k : Nat × Nat × Nat) : s.Serves (s.placeFor k) := by
  unfold State.placeFor
  dsimp only
  split
  · next q item m hw =>
    split
    · exact of_same (.refl s)
    · exact (setWait s _ _ hw rfl _).trans (of_same (.queuePush _ _ _))
  · exact of_same (.refl s)

end State.Serves

/-- What an instruction may change of the contexts: first the waits at a queue, and then its own context. -/
def State.ServesThenOwn (s t : State) : Prop := ∃ m, s.Serves m ∧ m.OwnOnly t

theorem State.OwnOnly.served {s t : State} (h : s.OwnOnly t) : s.ServesThenOwn t := ⟨s, .of_same (.refl s), h⟩

theorem serves_popAct (g : BitVec 4) (u : BitVec 5) (a p : BitVec 4) (o : BitVec 8) (blocking : Bool) (k : Nat) (s : State) :
    s.ServesThenOwn ((popAct g u a p o blocking).perform k s s) := by
  unfold popAct
  dsimp only
  split
  · next r _ =>
    have hpop : ∀ l : List (Nat × Nat × Nat), s.Serves ((l.foldl State.takeFor s).queuePop r).2 := fun l =>
      (State.Serves.foldl State.Serves.takeFor l s).trans (.of_same (.queuePop _ r))
    refine ⟨_, hpop _, State.OwnOnly.emit ((State.OwnOnly.refl _).updCore ?_) ..⟩
    exact Core.ctxs_store _ _ _ _ _
  · split
    · exact ((State.OwnOnly.refl s).updCore.updCtx).served
    · exact ((State.OwnOnly.refl s).emit ..).served
  · exact ((State.OwnOnly.refl s).emit ..).served
  · exact ((State.OwnOnly.refl s).emit ..).served

theorem serves_qpush (g : BitVec 4) (u : BitVec 5) (a : BitVec 4) (o : BitVec 8) (k : Nat) (s : State) :
    s.ServesThenOwn ((actQpush g u a o).perform k s s) := by
  unfold actQpush
  dsimp only
  split
  · exact (State.OwnOnly.refl s).served
  · split
    · exact ⟨_, State.Serves.foldl State.Serves.placeFor _ s, (State.SameCtxs.queuePush _ _ _).own⟩
    · exact (State.OwnOnly.refl s).updCtx.served

/-- Performing an instruction of a user context serves waits at a queue and changes its own context, and nothing else of a context. -/
theorem serves_of_actOf {i : Instr} {a : Act} (h : actOf i = some a) (k : Nat) {s : State} (hs : s.who ≠ 4) :
    s.ServesThenOwn (a.perform k s s) := by
  cases hq : servesQueue i with
  | false => exact ((own_of_actOf h hq).own k s hs).served
  | true =>
    cases i with
    | qpop | qpopB => cases h; exact serves_popAct ..
    | qpush => cases h; exact serves_qpush ..
    | _ => cases hq

/-! ### An instruction, whatever becomes of it -/

/-- Whatever does not perform changes no context but its own: a trap, a hold and a false guard (R17, R20). -/
theorem runAct_own_or_performs (i : Instr) (k : Nat) (a : Act) (s : State) :
    s.OwnOnly (runAct i k a s) ∨ runAct i k a s = a.perform k s s := by
  obtain ⟨c, -, e⟩ | ⟨h, -, -, e⟩ | ⟨f, -, e⟩ | ⟨-, e⟩ | ⟨h, -, -, e⟩ | ⟨-, -, -, -, e⟩ := runAct_cases i k a s
  · rw [e]; exact .inl (.takeTrap _ _ _)
  · rw [e]; exact .inl (.holdAt _ _)
  · rw [e]; exact .inl (.takeFault _ _ _)
  · rw [e]; exact .inl (.refl _)
  · rw [e]; exact .inl (.holdAt _ _)
  · exact .inr e

theorem exec_own {i : Instr} {s t : State} (hc : i.slotClass.isSome = true) (hs : s.who ≠ 4) (hq : servesQueue i = false)
    (h : exec i s = .next t) : s.OwnOnly t := by
  obtain ⟨c, hc⟩ := Option.isSome_iff_exists.1 hc
  obtain ⟨a, ha⟩ := Option.isSome_iff_exists.1 (actOf_isSome hc)
  rw [exec_act s ha] at h
  cases h
  obtain h | e := runAct_own_or_performs i (slotOf i) a s
  · exact h
  · rw [e]; exact (own_of_actOf ha hq).own _ s hs

theorem exec_servesThenOwn {i : Instr} {s t : State} (hc : i.slotClass.isSome = true) (hs : s.who ≠ 4) (h : exec i s = .next t) :
    s.ServesThenOwn t := by
  obtain ⟨c, hc⟩ := Option.isSome_iff_exists.1 hc
  obtain ⟨a, ha⟩ := Option.isSome_iff_exists.1 (actOf_isSome hc)
  rw [exec_act s ha] at h
  cases h
  obtain h | e := runAct_own_or_performs i (slotOf i) a s
  · exact h.served
  · rw [e]; exact serves_of_actOf ha _ hs

/-- A context that is not the acting one has at most another wait at a queue. -/
theorem State.ServesThenOwn.others {s t : State} (h : s.ServesThenOwn t) {r j : Nat} (hr : r ≠ s.cur ∨ j ≠ s.who) :
    ((s.core r).ctx j).Served ((t.core r).ctx j) := by
  obtain ⟨m, hm, ht⟩ := h
  rw [ht.others r j (by rwa [hm.cur, hm.who])]
  exact hm.ctxs r j

/-- No context gains or loses rights (R214). -/
theorem State.ServesThenOwn.rights {s t : State} (h : s.ServesThenOwn t) (r j : Nat) :
    ((t.core r).ctx j).rights = ((s.core r).ctx j).rights := by
  by_cases hr : r ≠ s.cur ∨ j ≠ s.who
  · exact (h.others hr).rights
  · obtain ⟨m, hm, ht⟩ := h
    obtain ⟨rfl, rfl⟩ : r = s.cur ∧ j = s.who := by omega
    have hown : ((t.core t.cur).ctx t.who).rights = ((m.core m.cur).ctx m.who).rights := ht.rights
    rw [ht.cur, ht.who, hm.cur, hm.who] at hown
    exact hown.trans (hm.ctxs s.cur s.who).rights

/-- Settles O59. -/
theorem slotTouchesOwnContext : Obligations.SlotTouchesOwnContext := by
  intro i s t hc hs h
  have hserved := exec_servesThenOwn hc hs h
  have hrights : ∀ r j, ((s.core r).ctx j).sameRights ((t.core r).ctx j) :=
    fun r j => (Ctx.sameRights_iff _ _).2 (hserved.rights r j)
  refine ⟨fun hq => ⟨(exec_own hc hs ?_ h).others, hrights⟩, hrights, fun r j hr => hserved.others hr⟩
  cases i with
  | qpop | qpopB | qpush => cases hq
  | _ => rfl

end Sys2Proof.Machine

/-! ## The host, the board and the fabric (O57) -/

namespace Sys2Proof.Machine
open Sys2Proof

/-! ### The package's power -/

theorem State.ifPowered_on {s : State} (hp : s.powered = true) (f : State → State) : s.ifPowered f = f s := if_pos hp

theorem State.ifPowered_off {s : State} (hp : s.powered = false) (f : State → State) : s.ifPowered f = s := by
  simp [State.ifPowered, hp]

/-! ### What is stored in G-physical memory after a write at its home slice -/

/-- A byte that is stored after a run of bytes is written. -/
theorem State.gStored_gPut (s : State) (pa : Nat) (bs : List Byte) (p : Bool) (x : Nat) :
    (s.gPut pa bs p).gStored x = if h : pa ≤ x ∧ x < pa + bs.length then bs[x - pa]'(by omega) else s.gStored x :=
  get_putBytes s.gmem pa bs x

/-- No atomic holds back a word that is written (R311). -/
theorem State.gByte_gPut_of_mem (s : State) (pa : Nat) (bs : List Byte) (p : Bool) {x : Nat} (h1 : pa ≤ x) (h2 : x < pa + bs.length) :
    (s.gPut pa bs p).gByte x = (s.gPut pa bs p).gStored x := by
  have hnone : (s.gPut pa bs p).amoHeld.find? (fun h => h.addr = x / 4 * 4) = none := by
    simp only [List.find?_eq_none, decide_eq_true_eq, State.gPut, List.mem_filter]
    intro h hm e
    obtain ⟨-, hr⟩ := hm
    rw [e] at hr
    exact hr (by omega)
  unfold State.gByte
  rw [hnone]

theorem length_bytesOf (v n : Nat) : (bytesOf v n).length = n := by
  induction n generalizing v with
  | zero => rfl
  | succ n ih => simp [bytesOf, ih]

theorem getElem_bytesOf (v n i : Nat) (h : i < (bytesOf v n).length) : (bytesOf v n)[i] = BitVec.ofNat 8 (v / 256 ^ i) := by
  induction n generalizing v i with
  | zero => simp [bytesOf] at h
  | succ n ih =>
    cases i with
    | zero => simp [bytesOf]
    | succ i => simp [bytesOf, ih, Nat.div_div_eq_div_mul, Nat.pow_succ, Nat.mul_comm]

/-- The bytes of a word in memory are its own, the lowest first (R51). -/
theorem ofNat_div_eq_extractLsb' (v : Word) (i : Nat) : BitVec.ofNat 8 (v.toNat / 256 ^ i) = v.extractLsb' (8 * i) 8 := by
  have h : (256 : Nat) ^ i = 2 ^ (8 * i) := by rw [Nat.pow_mul]
  apply BitVec.eq_of_toNat_eq
  rw [BitVec.toNat_ofNat, BitVec.extractLsb'_toNat, Nat.shiftRight_eq_div_pow, h]

/-- The word that stands at an address. -/
def State.gStoredWord (s : State) (g : Nat) : Word :=
  BitVec.ofNat 32 (natOfBytes ((List.range 4).map (fun i => s.gStored (g + i))))

/-- A store of a queue's TAIL is taken where it is the current TAIL plus 1 (R366). -/
theorem State.gWord_tail_taken {s : State} (rank : Option Nat) {g : Nat} {v : Word} (p : Bool) (hq : (s.tailAt g).isSome = true)
    (hv : v = s.gStoredWord g + 1) : s.gWord rank g 15 v p = s.gPut g (bytesOf v.toNat 4) p := by
  obtain ⟨q, hq⟩ := Option.isSome_iff_exists.1 hq
  simp only [State.gWord, if_true, hq]
  exact if_pos hv

/-- Any other sets ERR, and leaves the rest of the header (R366). -/
theorem State.gWord_tail_refused {s : State} (rank : Option Nat) {g : Nat} {v : Word} (p : Bool) (hq : (s.tailAt g).isSome = true)
    (hv : v ≠ s.gStoredWord g + 1) : s.gWord rank g 15 v p = s.gPut (g + 7) [s.gByte (g + 7) ||| 4] := by
  obtain ⟨q, hq⟩ := Option.isSome_iff_exists.1 hq
  simp only [State.gWord, if_true, hq]
  exact if_neg hv

/-- What a store of a queue's TAIL leaves in memory (R366). -/
theorem tail_store {s t : State} {rank : Option Nat} {g : Nat} {v old : Word} (hq : (s.tailAt g).isSome = true)
    (hold : old = s.gStoredWord g) (ht : t = s.gWord rank g 15 v false) :
    (v = old + 1 → (∀ i, i < 4 → t.gStored (g + i) = v.extractLsb' (8 * i) 8 ∧ t.gByte (g + i) = v.extractLsb' (8 * i) 8)
      ∧ ∀ x, (x < g ∨ g + 4 ≤ x) → t.gStored x = s.gStored x)
    ∧ (v ≠ old + 1 → t.gStored (g + 7) = (s.gByte (g + 7) ||| 4) ∧ ∀ x, x ≠ g + 7 → t.gStored x = s.gStored x) := by
  subst hold ht
  refine ⟨fun hv => ?_, fun hv => ?_⟩
  · rw [State.gWord_tail_taken rank false hq hv]
    have hlen := length_bytesOf v.toNat 4
    have hin : ∀ i, i < 4 → (s.gPut g (bytesOf v.toNat 4)).gStored (g + i) = v.extractLsb' (8 * i) 8 := fun i hi => by
      rw [State.gStored_gPut, dif_pos (by omega), getElem_bytesOf, Nat.add_sub_cancel_left, ofNat_div_eq_extractLsb']
    refine ⟨fun i hi => ⟨hin i hi, ?_⟩, fun x hx => ?_⟩
    · rw [State.gByte_gPut_of_mem s g _ false (by omega) (by omega), hin i hi]
    · rw [State.gStored_gPut, dif_neg (by omega)]
  · rw [State.gWord_tail_refused rank false hq hv]
    refine ⟨?_, fun x hx => ?_⟩
    · rw [State.gStored_gPut, dif_pos (by simp)]
      simp
    · rw [State.gStored_gPut, dif_neg (by simp only [List.length_singleton]; omega)]

/-! ### The aperture (R423) -/

theorem State.throughAperture_in {s : State} {g : Nat} (h : g < 2 ^ 41) : s.throughAperture (s.aperture.toNat + g) = some g := by
  unfold State.throughAperture
  rw [if_pos (by omega), Nat.add_sub_cancel_left]

theorem State.throughAperture_out {s : State} {a : Nat} (h : a < s.aperture.toNat ∨ s.aperture.toNat + 2 ^ 41 ≤ a) :
    s.throughAperture a = none := if_neg (by omega)

/-- What an address reaches through the aperture lies in it. -/
theorem State.throughAperture_eq_some {s : State} {a g : Nat} (h : s.throughAperture a = some g) :
    a = s.aperture.toNat + g ∧ g < 2 ^ 41 := by
  unfold State.throughAperture at h
  split at h
  · cases h; omega
  · cases h

theorem State.hostByte_out {s : State} {a : Nat} (h : a < s.aperture.toNat ∨ s.aperture.toNat + 2 ^ 41 ≤ a) :
    s.hostByte a = (0, false) := by
  simp [State.hostByte, State.throughAperture_out h]

theorem State.hostByte_in {s : State} {g : Nat} (h : g < 2 ^ 41) :
    s.hostByte (s.aperture.toNat + g) = if s.hostRange g then s.gSeen 512 0 g else (0, false) := by
  simp [State.hostByte, State.throughAperture_in h, Config.cores]

theorem State.hostWord_out {s : State} {w : Nat × BitVec 4 × Word × Bool}
    (h : w.1 < s.aperture.toNat ∨ s.aperture.toNat + 2 ^ 41 ≤ w.1) : s.hostWord w = s := by
  simp [State.hostWord, State.throughAperture_out h]

theorem State.hostWord_in {s : State} {g : Nat} (h : g < 2 ^ 41) (m : BitVec 4) (v : Word) (p : Bool) :
    s.hostWord (s.aperture.toNat + g, m, v, p) = if s.hostRange g then s.gWord none g m v false else s := by
  simp [State.hostWord, State.throughAperture_in h]

/-- A word that reaches no range of a partition is discarded. -/
theorem State.hostWord_discarded {s : State} {w : Nat × BitVec 4 × Word × Bool}
    (h : ∀ g, w.1 = s.aperture.toNat + g → g < 2 ^ 41 → s.hostRange g = false) : s.hostWord w = s := by
  unfold State.hostWord
  cases hg : s.throughAperture w.1 with
  | none => rfl
  | some g =>
    obtain ⟨ha, hl⟩ := State.throughAperture_eq_some hg
    simp [h g ha hl]

/-- The words that a run of bytes touches begin at its first word, and before its end. -/
theorem mem_splitWords {a : Nat} {bs : List (Byte × Bool)} {w : Nat × BitVec 4 × Word × Bool} (h : w ∈ splitWords a bs) :
    ∃ i, i < bs.length + 4 ∧ w.1 = a / 4 * 4 + i := by
  simp only [splitWords, List.mem_map, List.mem_range] at h
  obtain ⟨k, hk, rfl⟩ := h
  exact ⟨4 * k, by omega, rfl⟩

theorem foldl_range_four (f : Nat → Nat → Nat) : (List.range 4).foldl f 0 = f (f (f (f 0 0) 1) 2) 3 := rfl

/-- The number that four bytes make, as it is added up (R51). -/
theorem foldl_word (f : Nat → Nat) :
    (List.range 4).foldl (fun v j => v + f j * 256 ^ j) 0 = f 0 + 256 * (f 1 + 256 * (f 2 + 256 * f 3)) := by
  rw [foldl_range_four]
  omega

/-- Four bytes at an aligned address are one whole word. -/
theorem splitWords_word {a : Nat} (ha : a % 4 = 0) {b : List Byte} (hb : b.length = 4) :
    splitWords a (b.map (fun x => (x, false))) = [(a, 15, BitVec.ofNat 32 (natOfBytes b), false)] := by
  obtain ⟨b0, b1, b2, b3, rfl⟩ : ∃ b0 b1 b2 b3, b = [b0, b1, b2, b3] := by
    match b, hb with
    | [b0, b1, b2, b3], _ => exact ⟨b0, b1, b2, b3, rfl⟩
  have hone : List.range ((a % 4 + ([b0, b1, b2, b3].map (fun x => (x, false))).length + 3) / 4) = [0] := by
    simp only [ha, List.length_map, List.length_cons, List.length_nil, Nat.reduceAdd, Nat.reduceDiv]
    rfl
  have hbase : a / 4 * 4 = a := by omega
  have hat : ∀ j, (if a ≤ a + j then ([b0, b1, b2, b3].map (fun x => (x, false)))[a + j - a]? else none) =
      ([b0, b1, b2, b3].map (fun x => (x, false)))[j]? := fun j => by
    rw [if_pos (by omega), Nat.add_sub_cancel_left]
  unfold splitWords
  rw [hone, List.map_singleton]
  simp only [Nat.mul_zero, Nat.add_zero, hbase, hat, foldl_word]
  rfl

/-- A store of words of which none reaches a range of a partition is discarded (R423). -/
theorem State.foldl_hostWord_discarded {s : State} (l : List (Nat × BitVec 4 × Word × Bool))
    (h : ∀ w ∈ l, ∀ g, w.1 = s.aperture.toNat + g → g < 2 ^ 41 → s.hostRange g = false) : l.foldl State.hostWord s = s := by
  induction l with
  | nil => rfl
  | cons w l ih =>
    rw [List.foldl_cons, State.hostWord_discarded (h w (by simp))]
    exact ih (fun w hw => h w (by simp [hw]))

theorem State.hostAccess_discarded {s : State} {hpa : Nat} {b : List Byte}
    (h : ∀ i g, i < b.length + 4 → hpa / 4 * 4 + i = s.aperture.toNat + g → g < 2 ^ 41 → s.hostRange g = false) :
    s.hostAccess hpa true b = s := by
  refine State.foldl_hostWord_discarded _ (fun w hw g hg hl => ?_)
  obtain ⟨i, hi, hw⟩ := mem_splitWords hw
  exact h i g (by simpa using hi) (hw ▸ hg) hl

theorem State.hostAccess_word {s : State} {hpa g : Nat} {b : List Byte} (ha : hpa = s.aperture.toNat + g) (hl : g < 2 ^ 41)
    (h4 : hpa % 4 = 0) (hb : b.length = 4) (hr : s.hostRange g = true) :
    s.hostAccess hpa true b = s.gWord none g 15 (BitVec.ofNat 32 (natOfBytes b)) false := by
  unfold State.hostAccess
  rw [if_pos rfl, splitWords_word h4 hb, List.foldl_cons, List.foldl_nil, ha, State.hostWord_in hl, if_pos hr]

theorem State.hostTail_out {s : State} {hpa : Nat} (v : Word) (h : hpa < s.aperture.toNat ∨ s.aperture.toNat + 2 ^ 41 ≤ hpa) :
    s.hostTail hpa v = s := by
  unfold State.hostTail
  rw [State.hostWord_out h, ite_self]

theorem State.hostTail_in {s : State} {g : Nat} (v : Word) (h : g < 2 ^ 41) : s.hostTail (s.aperture.toNat + g) v =
    if (s.aperture.toNat + g) % 4 = 0 ∧ s.hostRange g = true then s.gWord none g 15 v false else s := by
  unfold State.hostTail
  rw [State.hostWord_in h]
  by_cases h4 : (s.aperture.toNat + g) % 4 = 0
  · rw [if_pos h4]
    simp only [h4, true_and]
  · rw [if_neg h4, if_neg (fun k => h4 k.1)]

/-! ### The management block (R420, R424, R428) -/

theorem State.writeWpmove_busy {s : State} (v : Word) (h : s.wpmove.getLsbD 31 = true) :
    s.writeWpmove v = { s with wpmove := s.wpmove ||| 0x40000000 } := if_pos h

theorem State.unlocked_iff (s : State) (p : Nat) : s.unlocked p = true ↔ (s.part p).state = 0 := by simp [State.unlocked]

/-- A move begins between partitions that are both in CONFIG_UNLOCKED, and is refused otherwise (R420). -/
theorem State.writeWpmove_idle {s : State} (v : Word) (h : s.wpmove.getLsbD 31 = false) : s.writeWpmove v =
    if 768 ≤ (v.extractLsb' 0 10).toNat ∨ (s.part (v.extractLsb' 19 4).toNat).state ≠ 0
        ∨ (s.part (((s.core (v.extractLsb' 10 9).toNat).wattr.get 0 (v.extractLsb' 0 10).toNat).extractLsb' 27 4).toNat).state ≠ 0 then
      { s with wpmove := v &&& 0x7FFFFF ||| 0x40000000 }
    else { s with
      wpmove := v &&& 0x7FFFFF ||| 0x80000000
      move := some ⟨(v.extractLsb' 10 9).toNat, (v.extractLsb' 0 10).toNat, (v.extractLsb' 19 4).toNat, 0, none⟩ } := by
  simp only [State.writeWpmove, h, Bool.false_eq_true, if_false, State.unlocked_iff]
  rfl

theorem State.writeRemeas_ignored {s : State} {v : Word} (h : (v.extractLsb' 0 5).toNat < 16 ∨ s.remeas.getLsbD 31 = true) :
    s.writeRemeas v = s := if_pos h.symm

theorem State.writeRemeas_begins {s : State} {v : Word} (hi : 16 ≤ (v.extractLsb' 0 5).toNat) (hb : s.remeas.getLsbD 31 = false) :
    s.writeRemeas v = { s with
      remeas := BitVec.ofNat 32 (v.extractLsb' 0 5).toNat ||| 0x80000000
      measures := s.measures ++ [{
        image := (v.extractLsb' 0 5).toNat
        pages := (s.members (v.extractLsb' 0 5).toNat).map (fun p => { rank := p.1, page := p.2 }) }] } := by
  have hw : ∀ x : BitVec 5, x.setWidth 32 = BitVec.ofNat 32 x.toNat := fun x => (BitVec.ofNat_toNat 32 x).symm
  unfold State.writeRemeas
  rw [if_neg (not_or.2 ⟨by rw [hb]; exact Bool.false_ne_true, Nat.not_lt.2 hi⟩), hw]
  rfl

/-- A register of the management block reads as it stands; the read of MG_THERM clears its count of events (R12, R428). -/
theorem State.readManagement_eq (s : State) (o : Nat) : s.readManagement o =
    if o = 0x10020 then { s with thermEvents := 0, outbox := .register 0x10020 s.thermWord.toNat :: s.outbox }
    else { s with outbox := .register o (if o = 0x10000 then s.aperture.toNat else if o = 0x10008 then s.remeas.toNat
      else if o = 0x10010 then s.wpmove.toNat else 0) :: s.outbox } := by
  unfold State.readManagement
  split
  · rfl
  · rfl
  · rfl
  · rfl
  · next h0 h1 h2 h3 => rw [if_neg h3, if_neg h0, if_neg h1, if_neg h2]; rfl

/-- No other offset of the management block holds a register. -/
theorem State.writeManagement_other (s : State) {o : Nat} (v : DWord) (h : o ∉ [0x10000, 0x10008, 0x10010, 0x10020]) :
    s.writeManagement o v = s := by
  simp only [List.mem_cons, List.not_mem_nil, or_false, not_or] at h
  obtain ⟨h0, h1, h2, h3⟩ := h
  unfold State.writeManagement
  split
  · exact absurd rfl h0
  · exact absurd rfl h1
  · exact absurd rfl h2
  · exact absurd rfl h3
  · rfl

/-! ### The fabric (R385, R426, R427) -/

@[simp] theorem State.port_setPort_self (s : State) (p : Nat) (f : FabricPort) : (s.setPort p f).port p = f := by
  simp [State.port, State.setPort]

theorem State.port_setPort_ne (s : State) {p q : Nat} (f : FabricPort) (h : q ≠ p) : (s.setPort p f).port q = s.port q := by
  simp [State.port, State.setPort, Map.get_put_ne _ _ _ h]

/-- A change of width is the port's alone (R385). -/
theorem State.port_portWidth (s : State) (p : Nat) (half : Bool) : (s.portWidth p half).port p = { s.port p with half := half } := by
  unfold State.portWidth
  dsimp only
  split
  · next h => rw [← h]
  · simp [State.port, State.setPort]

/-- The flits of the only flow, after some of its port's are acknowledged (R426). -/
theorem ackFlows_singleton (p : Nat) (k : Flow) (n : Nat) : ackFlows p [k] n =
    if k.port ≠ p then [k] else if k.outstanding ≤ n then [] else [{ k with outstanding := k.outstanding - n }] := by
  simp only [ackFlows]

/-- The lane under test is not among those in use at half width (R385). -/
theorem FabricPort.notMem_lanes {f : FabricPort} {n : Nat} (hh : f.half = true) (ht : f.testing = some n) : n ∉ f.lanes := by
  simp only [FabricPort.lanes, hh, ht, Option.some.injEq, Option.isNone_some, Bool.false_and, Bool.or_false, Bool.not_true,
    Bool.false_eq_true, if_false, decide_eq_true_eq]
  split <;> simp <;> omega

/-- A port at half width sends through half the window (R385, R427). -/
theorem State.laneWidth_half {s : State} {p : Nat} (n : Nat) (hl : s.portLeased p = false) :
    (s.laneWidth p n true).port p = { s.port p with half := true, testing := some n } := by
  simp [State.laneWidth, hl, State.port_portWidth]

/-- A port whose lane has been tested has its full width again, unless a lane is retired (R385). -/
theorem State.laneWidth_full {s : State} {p : Nat} (n : Nat) (hl : s.portLeased p = false) : (s.laneWidth p n false).port p =
    if (s.port p).retired = [] then { s.port p with half := false, testing := none } else { s.port p with testing := none } := by
  simp only [State.laneWidth, hl, Bool.false_eq_true, if_false, State.port_setPort_self, List.isEmpty_iff]
  split
  · rw [State.port_portWidth]
  · rfl

theorem State.laneWidth_leased {s : State} {p : Nat} (n : Nat) (half : Bool) (hl : s.portLeased p = true) : s.laneWidth p n half = s :=
  if_pos hl

theorem FabricPort.window_eq (f : FabricPort) : f.window = if f.half then 2048 else 4096 := rfl

/-- A flit that finds its port's window or turn taken is not sent (R426, R427). -/
theorem State.sendFlit_waits {s : State} {key part dest p : Nat} (cls addr : Nat) (b : List Byte) (hp : p = s.flowPort key dest)
    (h : (s.port p).window ≤ (s.port p).outstanding ∨ s.portTurn p part = false) :
    s.sendFlit key part dest cls addr b = (false, s.setPort p { s.port p with asked := (s.port p).asked.put part s.wall }) := by
  subst hp
  exact if_pos h

/-- A flit that its port takes leaves, and counts in the port's window (R426, R427). -/
theorem State.sendFlit_leaves {s : State} {key part dest p : Nat} (cls addr : Nat) (b : List Byte) (hp : p = s.flowPort key dest)
    (hw : (s.port p).outstanding < (s.port p).window) (ht : s.portTurn p part = true) : ∃ flows,
    s.sendFlit key part dest cls addr b = (true, { s.setPort p (s.portCount p part) with
      flows := flows
      outbox := .flit p { source := Config.packageNumber, dest := dest, part := part, cls := cls, stream := key % 16 }
        (flitPayload cls addr b) :: s.outbox }) := by
  subst hp
  exact ⟨_, if_neg (by simp only [ht, Bool.true_eq_false, or_false]; omega)⟩

/-- A flit for another package is handed on (R426). -/
theorem State.flitReceived_elsewhere {s : State} {f : Nat} {m : BitVec 128} {y : BitVec 512} (hd : (flitHeader m).dest ≠ Config.packageNumber) :
    s.flitReceived f m y = { s with
      flitsDue := s.flitsDue ++ [{ header := { flitHeader m with source := f }, payload := bytesOf y.toNat 64 }] } := if_pos hd

/-- A flit that its partition does not allow, or outside the partition's ranges, does nothing (R426). -/
theorem State.flitReceived_refused {s : State} {f : Nat} {m : BitVec 128} {y : BitVec 512} (hd : (flitHeader m).dest = Config.packageNumber)
    (h : s.fabricAllows (flitHeader m).part f = false
      ∨ (s.checkRange (flitHeader m).part (Config.flitAddr y) (Config.flitAddr y + 63)).isSome = true) :
    s.flitReceived f m y = s := by
  unfold State.flitReceived
  rw [if_neg (not_not_intro hd)]
  exact if_pos h

section Served
variable {s : State} {f : Nat} {m : BitVec 128} {y : BitVec 512} (hd : (flitHeader m).dest = Config.packageNumber)
  (ha : s.fabricAllows (flitHeader m).part f = true)
  (hr : s.checkRange (flitHeader m).part (Config.flitAddr y) (Config.flitAddr y + 63) = none)
include hd ha hr

/-- A read is answered by a flit of what the cores see (R426). -/
theorem State.flitReceived_read (hc : (flitHeader m).cls = 0) : s.flitReceived f m y = { s with
    flitsDue := s.flitsDue ++ [{
      header := { source := Config.packageNumber, dest := f, part := (flitHeader m).part, cls := 2, stream := (flitHeader m).stream }
      payload := flitPayload 2 (Config.flitAddr y) ((List.range 64).map (fun i => (s.gSeen 512 0 (Config.flitAddr y + i)).1)) }] } := by
  simp [State.flitReceived, hd, ha, hr, hc, Config.cores]

/-- A flit of four bytes writes a word of the partition (R426). -/
theorem State.flitReceived_word (hc : (flitHeader m).cls = 1)
    (h4 : Config.flitAddr y % 4 = 0) (hb : ((Config.flitData y).take 64).length = 4) :
    s.flitReceived f m y = s.gWord none (Config.flitAddr y) 15 (BitVec.ofNat 32 (natOfBytes ((Config.flitData y).take 64))) false := by
  simp only [State.flitReceived, hd, ne_eq, not_true_eq_false, if_false, ha, hr, Bool.true_eq_false, Option.isSome_none, Bool.false_eq_true,
    or_self, hc, Nat.one_ne_zero, if_true, splitWords_word h4 hb, List.foldl_cons, List.foldl_nil]

/-- No other class asks for anything (R426). -/
theorem State.flitReceived_other (hc : 1 < (flitHeader m).cls) : s.flitReceived f m y = s := by
  have h0 : (flitHeader m).cls ≠ 0 := by omega
  have h1 : (flitHeader m).cls ≠ 1 := by omega
  simp [State.flitReceived, hd, ha, hr, h0, h1]

end Served

/-! ### The requests -/

/-- Settles O57. -/
theorem hostRequests : Obligations.HostRequests := by
  intro s
  refine ⟨fun hp pa v w b o d p n h f m y => ?_, fun hp => ?_⟩
  · have hoff : ∀ g : State → State, Host.Outcome.next (s.ifPowered g) = (Host.Outcome.next s : Out) := fun g => by
      rw [State.ifPowered_off hp]
    simp only [List.forall_mem_cons, List.not_mem_nil, false_implies, implies_true, and_true]
    exact ⟨hoff _, hoff _, hoff _, hoff _, hoff _, hoff _, hoff _, hoff _, hoff _⟩
  have hon : ∀ {g : State → State} {t : State}, g s = t → Host.Outcome.next (s.ifPowered g) = (Host.Outcome.next t : Out) :=
    fun e => by rw [State.ifPowered_on hp, e]
  refine ⟨fun pa v g => ⟨fun ha => ?_, fun ha hg => ?_⟩, fun rank g v old t hq _ hold ht => tail_store hq hold ht, fun pa b => hon rfl,
    fun a => State.hostByte_out, fun g => State.hostByte_in, fun pa b => ?_, fun v page rank target hpage hrank htarget => ?_,
    fun v k hk => ?_, fun v hv => ?_, fun o d => ?_, fun p n => ?_, fun p n => ?_, fun p f m y h pa hh hpa => ?_,
    fun key part dest cls addr b p hport => ?_⟩
  · exact hon (State.hostTail_out v ha)
  · exact hon (by rw [ha, State.hostTail_in v hg])
  · exact ⟨_, hon rfl, State.hostAccess_discarded, fun g => State.hostAccess_word⟩
  · subst hpage hrank htarget
    refine ⟨fun hb => hon (State.writeWpmove_busy v hb), fun hb h1 h2 h3 => hon ?_, fun hb h => hon ?_⟩
    · rw [State.writeWpmove_idle v hb, if_neg (fun h => h.elim (Nat.not_le.2 h1) (fun h => h.elim (· h2) (· h3)))]
    · rw [State.writeWpmove_idle v hb, if_pos h]
  · subst hk
    exact ⟨fun h => hon (State.writeRemeas_ignored h), fun hi hb => hon (State.writeRemeas_begins hi hb)⟩
  · obtain rfl : v = s.thermWord := hv
    exact ⟨hon rfl, fun o => State.readManagement_eq s o⟩
  · refine ⟨fun h => ?_, fun h => ?_, fun h => ?_, fun h => ?_, fun h => hon (State.writeManagement_other s d h)⟩
    all_goals subst h
    · exact hon rfl
    · rfl
    · rfl
    · exact hon rfl
  · refine ⟨_, hon rfl, State.port_setPort_self s p _, fun q hq => State.port_setPort_ne s _ hq, fun k hk => ?_⟩
    exact (congrArg (ackFlows p · n) hk).trans (ackFlows_singleton p k n)
  · refine ⟨fun ht h => hon (State.laneWidth_leased n h (decide_eq_true ht)), fun ht => ?_⟩
    have hl : s.portLeased p = false := decide_eq_false ht
    have hhalf := State.laneWidth_half n hl
    have hfull := State.laneWidth_full n hl
    refine ⟨⟨_, hon rfl, ?_⟩, ⟨_, hon rfl, ?_⟩⟩
    · rw [hhalf]
      exact ⟨rfl, rfl, rfl, fun _ => FabricPort.notMem_lanes rfl rfl⟩
    · rw [hfull]
      refine ⟨by split <;> rfl, fun hr => ?_, fun hr => ?_⟩
      · rw [if_pos hr]; exact ⟨rfl, rfl⟩
      · rw [if_neg hr]
  · subst hh hpa
    refine ⟨fun hd => hon (State.flitReceived_elsewhere hd), fun hd hr => hon ?_, fun hd ha hr => ⟨fun hc => hon ?_, fun hc h4 b hb hl => hon ?_, fun hc => hon ?_⟩⟩
    · exact State.flitReceived_refused hd hr
    · exact State.flitReceived_read hd ha hr hc
    · subst hb
      exact State.flitReceived_word hd ha hr hc h4 hl
    · exact State.flitReceived_other hd ha hr hc
  · refine ⟨fun h => ?_, fun hw ht => ?_⟩
    · rw [State.sendFlit_waits cls addr b hport h]
      exact ⟨rfl, rfl, by rw [State.port_setPort_self]⟩
    · obtain ⟨flows, e⟩ := State.sendFlit_leaves cls addr b hport hw ht
      rw [e]
      exact ⟨rfl, congrArg FabricPort.outstanding (State.port_setPort_self s p _), rfl⟩

end Sys2Proof.Machine
